-- ==== Sys2Proof/Word.lean ====
section
/-! DEFINITION. The plain word types of the 1640 and the saturating count its ages and counters use. -/

namespace Sys2Proof

/-- One byte of an announcement, a configuration record or a management port frame. -/
abbrev Byte := BitVec 8

/-- One audio sample: 24-bit two's complement (00_scope.md section 10, Table 7-1). -/
abbrev Sample := BitVec 24

/-- A count that goes up by one and stays at `limit` once it has reached it (00_scope.md section 10). -/
def satInc (limit n : Nat) : Nat := min (n + 1) limit

end Sys2Proof
end

