-- ==== Sys2Proof/Config.lean ====
section
/-! DEFINITION. The constants the manual fixes for every 1640, and the one free choice, where two of its rules give one
sample two values (log entries 1 and 24). -/

namespace Sys2Proof.Config

/-- Frames of a superframe (R1). -/
def framesPerSuperframe : Nat := 96
/-- Stations of a hall, and slots of a superframe (section 1.2). -/
def stations : Nat := 16
/-- Frames of one announcement slot (section 1.2). -/
def slotFrames : Nat := 5
/-- Bytes of one control field (section 1.1). -/
def controlBytes : Nat := 24
/-- Ages saturate here (00_scope.md section 10). -/
def ageLimit : Nat := 65535
/-- Consecutive equal evaluations that adopt a wall state (R23). -/
def debounce : Nat := 25
/-- Joining timer at the entry into Joining, in frames (R170). -/
def joiningFrames : Nat := 384
/-- Consecutive misses that make a peer, a unit or a desk Absent (R18, R60, R127). -/
def missLimit : Nat := 3
/-- Full timer at its setting, in superframes (R67). -/
def fullSuperframes : Nat := 500
/-- Superframes of one second (section 1.2). -/
def superframesPerSecond : Nat := 500
/-- Where the speaking time used saturates, in superframes (R91). -/
def speakLimit : Nat := 1800000
/-- Entries of the request list (R79). -/
def requestEntries : Nat := 16
/-- Entries of the room command queue (R99). -/
def queueEntries : Nat := 4
/-- Own slots at which a room command is announced (R99). -/
def commandRepeats : Nat := 3
/-- Fade steps of a full fade (R89). -/
def fadeSteps : Nat := 8
/-- Good superframes after which the link has recovered (R10). -/
def goodLimit : Nat := 4
/-- Missed marks at which house sync is lost (R8). -/
def markLimit : Nat := 2
/-- Unaligned superframes at which the link is lost (R9, R10). -/
def unalignedLimit : Nat := 3
/-- Bytes of a configuration record (section 11.3). -/
def recordBytes : Nat := 110
/-- Bytes of an announcement (section 1.4). -/
def announcementBytes : Nat := 120
/-- Unity gain, and the gain of a seat without a correction entry (section 11.3). -/
def unity : Nat := 32768
/-- Free: whether a listener that stops using a lane at a switch point still puts out the lane's last sample in output frame
0, as R153 says, or already the sample of the source latched there, as R121 says. The manual gives that one sample both
values and does not choose, so nothing fixes this (log entry 24). -/
opaque lastLaneSampleHeard : Bool

end Sys2Proof.Config
end

