-- ==== Sys2Proof/Syntax.lean ====
section
/-! DEFINITION. The commands the 1640 takes: one constructor for each row of spec/opcode_table.json, with what
reaches the station's pins at that event as operands. The table gives its rows no bits. -/

namespace Sys2Proof

/-- Configuration source strap: CFGSRC high is Memory, low is Host (R165). -/
inductive ConfigSource where
  | memory | host
  deriving DecidableEq, Repr

/-- A desk's relay selection (Table 8-1). -/
inductive Relay where
  | floor
  | auto
  | language (l : Nat)
  deriving DecidableEq, Repr

/-- The keys of a unit's report (Table 4-2): any combination. -/
structure Keys where
  mic : Bool
  cancel : Bool
  priority : Bool
  next : Bool
  deriving DecidableEq, Repr

/-- A received field as its bits were sampled: three times each (R59, R65, R119). -/
structure Thrice (α : Type) where
  first : α
  second : α
  third : α
  deriving DecidableEq, Repr

/-- A field whose three samples agree. -/
def Thrice.same {α : Type} (x : α) : Thrice α := ⟨x, x, x⟩

/-- One uplink slot of a frame as it was received (section 4.6): the writer's address and its sample, every bit sampled
three times (R65). -/
structure UplinkSlot where
  address : Thrice (BitVec 6)
  sample : Thrice Sample
  deriving DecidableEq, Repr

/-- One desk microphone sample of a frame as the booth port received it, every bit sampled three times (R119). -/
structure DeskMic where
  desk : Thrice (BitVec 2)
  sample : Thrice Sample
  deriving DecidableEq, Repr

/-- All that the station received during the frame that ends at a frame boundary.
`hlckEdge` tells whether the boundary that ends the frame comes from HLCK or from the internal frame timer;
`pattern` whether the frame-start pattern stood at this frame's own boundary, whole, and nowhere else (R1). -/
structure FrameIn where
  hlckEdge : Bool
  pattern : Bool
  lanes : List Sample
  control : List Byte
  uplinks : List (Option UplinkSlot)
  deskMics : List (Option DeskMic)
  deriving DecidableEq, Repr

/-- A reply that began on DLI within a poll window (Table 4-2, R59), every bit of its fields as it was sampled. `ended`:
it ended within the window. `framed`: its end marker, length and check are right after majority, which the physical level
decides (R59). `restAgreed`: the three samples of every bit outside the fields agreed. -/
structure UnitReply where
  ended : Bool
  framed : Bool
  restAgreed : Bool
  address : Thrice (BitVec 6)
  mic : Thrice Bool
  cancel : Thrice Bool
  priority : Thrice Bool
  next : Thrice Bool
  selection : Thrice (BitVec 5)
  tag : Thrice (BitVec 5)
  deriving DecidableEq, Repr

/-- A reply that began on BPI within a booth window (Table 8-3, R69), as on the delegate line. The relay selection stands
as a kind and a language, coded as in Table 1-3 (log entry 21). -/
structure DeskReply where
  ended : Bool
  framed : Bool
  restAgreed : Bool
  desk : Thrice (BitVec 2)
  mic : Thrice Bool
  output : Thrice (BitVec 5)
  relayKind : Thrice (BitVec 2)
  relayLanguage : Thrice (BitVec 5)
  deriving DecidableEq, Repr

/-- The commands, in the order of spec/opcode_table.json. -/
inductive Instr where
  /-- RSTN goes low, or the power-on detector holds the device (R165). -/
  | pinReset
  /-- RSTN is released with STN3..STN0 at `number` and CFGSRC at `source` (R165). -/
  | resetRelease (number : BitVec 4) (source : ConfigSource)
  /-- The configuration memory read ends, having transferred `record` (R166). -/
  | configMemoryRead (record : List Byte)
  /-- The frame in progress ends and the next begins (R1). -/
  | frameBoundary (received : FrameIn)
  /-- No HLCK edge has arrived for the length of one frame (R1). -/
  | hlckTimeout
  /-- A house sync mark is seen at the boundary that began the frame in progress (R8). The replies are what has
  arrived in the windows in progress: a mark that resets the counter closes them (R56, R124). -/
  | hsyncMark (unitReply : Option UnitReply) (deskReply : Option DeskReply)
  /-- The start of frame 0 (R4). -/
  | switchPoint
  /-- The link failure handed over at a switch point is taken (R10, R171). -/
  | linkFailure
  /-- The link recovery handed over at a switch point is taken (R10, R172). -/
  | linkRecovery
  /-- At a switch point the Opening entry of `seat` reaches fade step 8 (R89). -/
  | fadeInComplete (seat : Nat)
  /-- At a switch point the Closing entry of `seat` reaches fade step 0 (R89). -/
  | fadeOutEnd (seat : Nat)
  /-- At a switch point the speaking time of `seat` is found used up (R92). -/
  | speakingTimeExpiry (seat : Nat)
  /-- The start of frame 5s, s the own station number (R5, R41). -/
  | ownSlot
  /-- The end of frame 5t+4, t = `slot` (R3). -/
  | slotClose (slot : Nat)
  /-- The slot of `peer` closes with the missing announcement that makes it Absent (R18). -/
  | peerLoss (peer : Nat)
  /-- Both contacts of every wall input are sampled: bit x of `closed` is WCx, bit x of `opened` is WOx (R21). -/
  | wallSample (closed opened : BitVec 4)
  /-- The evaluation of `input` that brings its stability count to 25 (R23). -/
  | wallAdoption (input : Nat)
  /-- A poll window closes with `reply` on DLI, or with none (R59). -/
  | pollWindowClose (reply : Option UnitReply)
  /-- The window of `address` closes without the good reply that would have kept its unit Present (R61). -/
  | unitAbsent (address : Nat)
  /-- A booth window closes with `reply` on BPI, or with none (R126). -/
  | boothWindowClose (reply : Option DeskReply)
  /-- The window of `desk` closes without the good reply that would have kept it Present (R127). -/
  | deskAbsent (desk : Nat)
  /-- The Joining timer has reached 0 (R170). -/
  | joiningTimerExpiry
  /-- LoadConfig (R167). -/
  | loadConfig (record : List Byte)
  /-- Restart (R173). -/
  | restart
  /-- ReadRecord (R176). -/
  | readRecord (kind index : Byte)
  /-- ReadEvents (R177). -/
  | readEvents
  /-- ClearEvents (R177). -/
  | clearEvents (mask : BitVec 16)
  /-- SetEventMask (R178). -/
  | setEventMask (mask : BitVec 16)
  /-- IssueRoomCommand (R100). -/
  | issueRoomCommand (kind argument : Byte)
  /-- SetWallOverride (R179). -/
  | setWallOverride (input setting : Byte)
  /-- CloseSeat (R180). -/
  | closeSeat (seat : Byte)
  /-- CancelRequest (R180). -/
  | cancelRequest (seat : Byte)
  /-- A transaction that ends before its first command byte is complete (R175). -/
  | emptyTransaction
  /-- A transaction whose bytes are no command frame: unknown command or wrong number of argument bytes (R175). The whole
  bytes of the transaction alone: a byte cut short after the first does not count (log entry 25). -/
  | badCommandFrame (frame : List Byte)
  deriving DecidableEq, Repr

end Sys2Proof
end

