-- ==== Sys2Proof/Decode.lean ====
section
/-! DEFINITION. The management port's command frames (Table 12-1, R175): decoder and encoder. The opcode table
gives no row any bits, so no word of the table spells a command. -/

namespace Sys2Proof

/-- The command that a word spells by the opcode table's bits: the table gives none (log entry 2). -/
def decodeTableWord (_nbits _w : Nat) : Option Instr := none

/-- The 16-bit value of two bytes, most significant byte first (R175). -/
def word16 (hi lo : Byte) : BitVec 16 := hi ++ lo

/-- A value of two bytes, most significant byte first (R175). -/
def bytes16 (w : BitVec 16) : List Byte := [w.extractLsb' 8 8, w.extractLsb' 0 8]

/-- The command of a frame: a known code byte followed by exactly the argument bytes of that command (Table 12-1,
R175). A frame that carries no byte, an unknown code or another number of argument bytes is no command. A frame is whole
bytes: bits of a byte cut short after the first do not count, DESIGN CHOICE (log entry 25). -/
def decodePortFrame (frame : List Byte) : Option Instr :=
  match frame with
  | [] => none
  | code :: args =>
    match code.toNat, args with
    | 0x01, record => if record.length = Config.recordBytes then some (.loadConfig record) else none
    | 0x02, [] => some .restart
    | 0x03, [kind, index] => some (.readRecord kind index)
    | 0x04, [] => some .readEvents
    | 0x05, [hi, lo] => some (.clearEvents (word16 hi lo))
    | 0x06, [hi, lo] => some (.setEventMask (word16 hi lo))
    | 0x07, [kind, argument] => some (.issueRoomCommand kind argument)
    | 0x08, [input, setting] => some (.setWallOverride input setting)
    | 0x09, [seat] => some (.closeSeat seat)
    | 0x0A, [seat] => some (.cancelRequest seat)
    | _, _ => none

/-- The frame of a management port command (Table 12-1); none for an event that no frame spells. -/
def encodePortFrame (i : Instr) : Option (List Byte) :=
  match i with
  | .loadConfig record => some (0x01 :: record)
  | .restart => some [0x02]
  | .readRecord kind index => some [0x03, kind, index]
  | .readEvents => some [0x04]
  | .clearEvents mask => some (0x05 :: bytes16 mask)
  | .setEventMask mask => some (0x06 :: bytes16 mask)
  | .issueRoomCommand kind argument => some [0x07, kind, argument]
  | .setWallOverride input setting => some [0x08, input, setting]
  | .closeSeat seat => some [0x09, seat]
  | .cancelRequest seat => some [0x0A, seat]
  | .pinReset | .resetRelease _ _ | .configMemoryRead _ | .frameBoundary _ | .hlckTimeout | .hsyncMark _ _
  | .switchPoint | .linkFailure | .linkRecovery | .fadeInComplete _ | .fadeOutEnd _ | .speakingTimeExpiry _
  | .ownSlot | .slotClose _ | .peerLoss _ | .wallSample _ _ | .wallAdoption _ | .pollWindowClose _
  | .unitAbsent _ | .boothWindowClose _ | .deskAbsent _ | .joiningTimerExpiry | .emptyTransaction
  | .badCommandFrame _ => none

end Sys2Proof
end

