-- ==== Sys2Proof/Machine/State.lean ====
section
/-! DEFINITION. The state of one 1640, block by block (00_scope.md Table 1), and its value right after reset. -/

namespace Sys2Proof.Machine

/-- No command of this block stops the station with a fault: the spec gives every one of them an effect. -/
inductive Fault where
  deriving DecidableEq, Repr

/-- Why a command has no meaning. -/
inductive Refusal where
  /-- Raised only by an arm of exec whose command has no meaning yet; safe. No arm raises it now. -/
  | notModelled (mnemonic : String)
  deriving DecidableEq, Repr

/-! ### Station state machine (chapter 11) -/

/-- Station states (Table 11-1). -/
inductive StationState where
  | unconfigured | joining | running | isolated
  deriving DecidableEq, Repr

/-- Rejection reasons (R168). -/
inductive RejectReason where
  | badSum | badFormat | outOfRange | duplicate
  deriving DecidableEq, Repr

/-- Floor mode of a context (Table 2-3). -/
inductive Mode where
  | free | queue | override
  deriving DecidableEq, Repr

/-- Booth interlock of a context (Table 2-3). -/
inductive Interlock where
  | refuse | takeover
  deriving DecidableEq, Repr

/-- A context (Table 2-3). -/
structure Context where
  mode : Mode
  speakerLimit : Nat
  autoAdvance : Bool
  speakingTime : Nat
  warningTime : Nat
  interlock : Interlock
  pivot : Nat
  clearOnMute : Bool
  floorUnder : Nat
  level : Nat
  deriving DecidableEq, Repr

/-- A wall entry of the configuration (Table 11-3). -/
structure WallEntry where
  input : Nat
  neighbour : Nat
  deriving DecidableEq, Repr

/-- A desk entry of the configuration (Table 11-3). -/
structure DeskConfig where
  desk : Nat
  present : Bool
  languages : List Nat
  deriving DecidableEq, Repr

/-- A seat correction entry of the configuration (Table 11-3). -/
structure SeatCorrection where
  seat : Nat
  cls : Nat
  gain : Nat
  deriving DecidableEq, Repr

/-- An accepted configuration record, by its fields (Table 11-3). `home` has floor level 0; the home context takes
the stored floor level in its place (R32). -/
structure Configuration where
  seatCount : Nat
  walls : List WallEntry
  desks : List DeskConfig
  seats : List SeatCorrection
  home : Context
  deriving DecidableEq, Repr

/-- Station state machine. `inReset`: RSTN is low or the power-on detector holds the device (R165).
`joinTimer` is none while the Joining timer is stopped. -/
structure Station where
  inReset : Bool
  state : StationState
  number : Nat
  source : ConfigSource
  config : Option Configuration
  accepted : Bool
  lastReject : Option RejectReason
  memoryReading : Bool
  joinTimer : Option Nat
  deriving DecidableEq, Repr

/-! ### Link Interface (chapter 1) -/

/-- House sync state (Table 1-2). -/
inductive SyncState where
  | searching | locked
  deriving DecidableEq, Repr

/-- Where frame boundaries are taken from (R1). -/
inductive ClockSource where
  | hlck | frameTimer
  deriving DecidableEq, Repr

/-- A language lane in use: the lane and the language it carries. -/
structure LaneUse where
  lane : Nat
  language : Nat
  deriving DecidableEq, Repr

/-- A lane of the frame in progress whose sample is fixed already. -/
structure LaneSample where
  lane : Nat
  sample : Sample
  deriving DecidableEq, Repr

/-- What the station substitutes in the frame in progress. It is fixed at the frame's own boundary, so that
substitution starts and stops at frame boundaries (R2, R6, R7). `compute`: the frame has a frame computation
(R111, R169). `control`: the bytes put into the control field, none where it is repeated. `fixed`: the lanes of a frame in
which a pin reset fell, with the samples they had (R7, R165, log entry 12). -/
structure FrameLatch where
  compute : Bool
  ownLane : Bool
  lanes : List LaneUse
  control : Option (List Byte)
  fixed : List LaneSample
  deriving DecidableEq, Repr

/-- Link Interface. `markSeen`: the mark has been seen at the boundary that began the frame in progress.
`acquired`: that mark acquired the sync. `superframeAligned`: every frame of the superframe in progress that has
ended was aligned, and the superframe was not cut short. `boundary`: where the boundary that began the frame in
progress came from. `slotFrames`: alignment and control field of the frames received so far in the slot in progress;
`closedSlot`: the last slot received whole. `composing` and `onWire` are empty when they hold no record.
`patternOut`, `lanesOut`, `controlOut`: the latest frame put out on HLO; the frame-start pattern is always repeated as it
was received (R7). -/
structure Lif where
  frame : Nat
  clock : ClockSource
  boundary : ClockSource
  sync : SyncState
  markMissing : Nat
  unaligned : Nat
  good : Nat
  markSeen : Bool
  acquired : Bool
  superframeAligned : Bool
  epoch : Nat
  writeSet : List LaneUse
  composing : List Byte
  onWire : List Byte
  transmitting : Bool
  latch : FrameLatch
  slotFrames : List (Bool × List Byte)
  closedSlot : Option (Nat × List (Bool × List Byte))
  lanesIn : List Sample
  patternOut : Bool
  lanesOut : List Sample
  controlOut : List Byte
  deriving DecidableEq, Repr

/-! ### Peer Table (chapter 1) -/

/-- Wall states (Table 2-1). -/
inductive WallState where
  | closed | moving | opened | fault
  deriving DecidableEq, Repr

/-- Phase of an open-mic entry (Table 5-4). -/
inductive MicPhase where
  | opening | opened | closing
  deriving DecidableEq, Repr

/-- Phase of an announced mic entry (Table 1-3): Intent, or the phase of an open mic. -/
inductive AnnPhase where
  | intent
  | mic (phase : MicPhase)
  deriving DecidableEq, Repr

/-- On-air state of a desk (Table 8-1). -/
inductive DeskState where
  | off | intent | onAir
  deriving DecidableEq, Repr

/-- A mic or a desk named by an override or a takeover: its station and its seat or desk number. -/
structure Named where
  station : Nat
  item : Nat
  deriving DecidableEq, Repr

/-- An announced wall entry. -/
structure AnnWall where
  neighbour : Nat
  state : WallState
  deriving DecidableEq, Repr

/-- An announced mic entry. -/
structure AnnMic where
  seat : Nat
  cls : Nat
  phase : AnnPhase
  tag : Nat
  age : Nat
  displaced : Option Named
  deriving DecidableEq, Repr

/-- An announced request entry. -/
structure AnnRequest where
  seat : Nat
  cls : Nat
  age : Nat
  deriving DecidableEq, Repr

/-- An announced desk entry. -/
structure AnnDesk where
  desk : Nat
  output : Nat
  relay : Relay
  state : DeskState
  displaced : Option Named
  selectionAge : Nat
  onAirAge : Nat
  deriving DecidableEq, Repr

/-- An announced lane entry. -/
structure AnnLane where
  held : Bool
  lane : Nat
  language : Nat
  age : Nat
  deriving DecidableEq, Repr

/-- Room command kinds (Table 6-1). -/
inductive CommandKind where
  | priorityMute | grantNext | cancelAll | setFloorLevel
  deriving DecidableEq, Repr

/-- A room command: its kind and its argument (R99). -/
structure RoomCommand where
  kind : CommandKind
  argument : Nat
  deriving DecidableEq, Repr

/-- An announcement by its fields (Table 1-3). `command` is none for kind None. -/
structure Announcement where
  station : Nat
  running : Bool
  epoch : Nat
  head : Nat
  walls : List AnnWall
  context : Context
  sequence : Nat
  command : Option RoomCommand
  mics : List AnnMic
  requests : List AnnRequest
  desks : List AnnDesk
  lanes : List AnnLane
  deriving DecidableEq, Repr

/-- A peer entry that is Joining or Running (Table 1-4); an Absent entry is none in the table. The entry's state and
epoch are those of its content, the peer's latest valid announcement. -/
structure PeerEntry where
  miss : Nat
  since : Nat
  content : Announcement
  deriving DecidableEq, Repr

/-! ### Wall Sampler (chapter 2) -/

/-- Management override of a wall input (R24). -/
inductive WallOverride where
  | auto | forceOpen | forceClosed
  deriving DecidableEq, Repr

/-- A wall record (Table 2-1); its input is its place in the list of walls. A sample is the pair of the closed-limit
and the open-limit contact. The effective state is computed from the override and the debounced state (R24). -/
structure Wall where
  neighbour : Option Nat
  history : List (Bool × Bool)
  noise : Bool
  derived : WallState
  candidate : Option WallState
  count : Nat
  debounced : WallState
  setting : WallOverride
  deriving DecidableEq, Repr

/-! ### Room Resolver (chapters 2 and 6) -/

/-- The current command's sequence number and repeat count (R99). -/
structure CurrentCommand where
  sequence : Nat
  repeats : Nat
  deriving DecidableEq, Repr

/-- Room Resolver. `members` is the membership, ascending. `marks` holds the mismatch mark and `lastSeen` the
last-seen command sequence of each station number. The current command is the front of `queue`. -/
structure Room where
  members : List Nat
  head : Nat
  adopted : Option Context
  marks : List Bool
  queue : List RoomCommand
  current : Option CurrentCommand
  counter : Nat
  lastSeen : List (Option Nat)
  deriving DecidableEq, Repr

/-! ### Claim Unit (chapter 3) -/

/-- Origin of a place want (R38). -/
inductive Origin where
  | press | autoAdvance | grantNext
  deriving DecidableEq, Repr

/-- Stage of a claim; an Intent carries its withdrawal mark (Table 3-2). -/
inductive Stage where
  | intent (marked : Bool)
  | hold
  deriving DecidableEq, Repr

/-- A place want (R38); its variant is Override exactly when it names a displaced mic. -/
structure PlaceWant where
  seat : Nat
  cls : Nat
  displaced : Option Named
  origin : Origin
  deriving DecidableEq, Repr

/-- A place entry of the claim table (Table 3-2), with the origin that is handed back with the outcome (R38). -/
structure PlaceClaim where
  stage : Stage
  seat : Nat
  cls : Nat
  displaced : Option Named
  uplink : Nat
  origin : Origin
  deriving DecidableEq, Repr

/-- A language want (R38); its variant is Takeover exactly when it names a displaced desk. -/
structure LanguageWant where
  desk : Nat
  language : Nat
  displaced : Option Named
  deriving DecidableEq, Repr

/-- A language entry of the claim table (Table 3-2). -/
structure LanguageClaim where
  stage : Stage
  desk : Nat
  language : Nat
  displaced : Option Named
  deriving DecidableEq, Repr

/-- A lane entry of the claim table (Table 3-2). -/
structure LaneClaim where
  stage : Stage
  lane : Nat
  language : Nat
  deriving DecidableEq, Repr

/-- Claim Unit: the claim table and the want list, by kind. Lane wants are raised as they are filed (R53), so none
waits in the list. -/
structure Claims where
  places : List PlaceClaim
  languages : List LanguageClaim
  lanes : List LaneClaim
  placeWants : List PlaceWant
  languageWants : List LanguageWant
  deriving DecidableEq, Repr

/-! ### Delegate Line Controller (chapter 4) -/

/-- Lamp of a delegate unit (Table 4-1). -/
inductive Lamp where
  | off | request | opened | warning | full
  deriving DecidableEq, Repr

/-- A unit entry (Table 4-3); its address is its place in the list of units, plus 1. -/
structure UnitEntry where
  present : Bool
  miss : Nat
  noise : Nat
  ack : Bool
  selection : Nat
  tag : Option Nat
  keys : Keys
  lamp : Lamp
  fullTimer : Nat
  deriving DecidableEq, Repr

/-- A poll (Table 4-1). -/
structure Poll where
  address : Nat
  ack : Bool
  lamp : Lamp
  unavailable : Bool
  downlink : Nat
  uplink : Option Nat
  mute : Bool
  deriving DecidableEq, Repr

/-- Delegate Line Controller. `uplinks`: the seat bound to each uplink channel. `window`: the address whose poll window
is open; `dueWindow`: the address whose window has closed at the latest poll and is still to be classified.
`pollOut`: the latest poll put out on DLO. `uplinkIn`: the samples delivered to the Mix Engine in the frame before. -/
structure Dlc where
  units : List UnitEntry
  uplinks : List (Option Nat)
  pointer : Nat
  window : Option Nat
  dueWindow : Option Nat
  pollOut : Option Poll
  uplinkIn : List Sample
  deriving DecidableEq, Repr

/-! ### Floor Controller (chapter 5) -/

/-- A request entry (R79). -/
structure Request where
  seat : Nat
  cls : Nat
  age : Nat
  deriving DecidableEq, Repr

/-- An open-mic entry (Table 5-4). -/
structure Mic where
  seat : Nat
  cls : Nat
  uplink : Nat
  phase : MicPhase
  step : Nat
  age : Nat
  used : Nat
  tag : Nat
  displaced : Option Named
  deriving DecidableEq, Repr

/-- Floor Controller. `requests` is in list order, `mics` in ascending seat order. -/
structure Floor where
  requests : List Request
  mics : List Mic
  level : Nat
  deriving DecidableEq, Repr

/-! ### Desk Controller (chapter 8) -/

/-- Headphone source of a desk (Table 8-1). -/
inductive Source where
  | floor
  | language (l : Nat)
  deriving DecidableEq, Repr

/-- Lamp of a desk (R135). -/
inductive DeskLamp where
  | off | intent | onAir | engaged | noLane | loop
  deriving DecidableEq, Repr

/-- A desk entry (Table 8-1); its number is its place in the list of desks. -/
structure Desk where
  fitted : Bool
  understood : List Nat
  present : Bool
  miss : Nat
  noise : Nat
  ack : Bool
  output : Option Nat
  reported : Option Relay
  relay : Relay
  selectionAge : Nat
  state : DeskState
  onAirAge : Nat
  displaced : Option Named
  engaged : Bool
  loopMark : Bool
  pendingSource : Source
  source : Source
  lamp : DeskLamp
  deriving DecidableEq, Repr

/-- A desk poll (Table 8-3). -/
structure DeskPoll where
  desk : Nat
  ack : Bool
  lamp : DeskLamp
  deriving DecidableEq, Repr

/-- What a booth poll replaced: the lamp its desk had, and the poll put out before it. -/
structure BoothBefore where
  desk : Nat
  lamp : DeskLamp
  pollOut : Option DeskPoll
  deriving DecidableEq, Repr

/-- Desk Controller. `window` and `dueWindow` are those of the booth port, as in Dlc. `pollOut`: the latest desk poll put
out on BPO. `before`: what the poll at the start of the frame in progress replaced, none where that frame began without a
booth poll; it is read where a house sync mark at that boundary makes the frame a frame 0 (R8, R124). `micIn`: the desk
samples delivered to the Mix Engine in the frame before. `left`: the lanes, with their languages, that a member's
announcement of this superframe no longer holds and its one before held (R153). -/
structure Booth where
  desks : List Desk
  window : Option Nat
  dueWindow : Option Nat
  pollOut : Option DeskPoll
  before : Option BoothBefore
  micIn : List Sample
  left : List LaneUse
  deriving DecidableEq, Repr

/-! ### Lane Manager (chapter 9) -/

/-- A lane holding (R145). -/
structure Holding where
  lane : Nat
  language : Nat
  held : Bool
  age : Nat
  release : Bool
  deriving DecidableEq, Repr

/-- Lane Manager: holdings in ascending lane order, shortage set ascending. -/
structure Lanes where
  holdings : List Holding
  shortage : List Nat
  deriving DecidableEq, Repr

/-! ### Seat Channel Allocator (chapter 10) -/

/-- An Allocated downlink channel (Table 10-1). -/
structure Downlink where
  language : Nat
  count : Nat
  deriving DecidableEq, Repr

/-- Seat Channel Allocator. `channels` holds channels 0..7; none is Free, and channel 0 is never Allocated: it carries
the floor (R156). `assigned`: the assignment of each address, in its place plus 1. -/
structure SeatChannels where
  channels : List (Option Downlink)
  assigned : List (Option Nat)
  deferred : List Nat
  deriving DecidableEq, Repr

/-! ### Mix Engine (chapter 7) -/

/-- Listener source of a language (R141). -/
inductive Listener where
  | ownDesk (desk : Nat)
  | lane (n : Nat)
  | floor
  deriving DecidableEq, Repr

/-- An own mic of the plan (R112). -/
structure PlanMic where
  uplink : Nat
  gain : Nat
  step : Nat
  deriving DecidableEq, Repr

/-- A producing desk of the plan (R112). -/
structure Producer where
  desk : Nat
  language : Nat
  deriving DecidableEq, Repr

/-- A language and its listener source, in the plan (R112). -/
structure Listening where
  language : Nat
  source : Listener
  deriving DecidableEq, Repr

/-- The plan (R112). `channels`: the language of each downlink channel 0..7, none for Free and for channel 0.
`channelsLeave`, `headphonesLeave`: the lane, if any, that the listener on each downlink channel 0..7 and on each headphone
stops using at this switch point, whose last sample R153 gives it in output frame 0 (log entry 24). -/
structure Plan where
  members : List Nat
  mics : List PlanMic
  openMics : Nat
  factor : Nat
  producers : List Producer
  writeSet : List LaneUse
  channels : List (Option Nat)
  headphones : List Source
  listeners : List Listening
  channelsLeave : List (Option Nat)
  headphonesLeave : List (Option Nat)
  deriving DecidableEq, Repr

/-- Mix Engine. `ownPartial`: the station's own partial of the frame before. The last three are what the outputs
carried in the latest frame. -/
structure Mix where
  plan : Plan
  announced : Nat
  clip : Nat
  ownPartial : Sample
  paOut : Sample
  downlinkOut : List Sample
  headphoneOut : List Sample
  deriving DecidableEq, Repr

/-! ### Management Port (chapter 12) -/

/-- Response codes (R175). -/
inductive ResponseCode where
  | ok
  | refused (reason : RejectReason)
  | badArgument
  | notConfigured
  | busy
  | alreadyConfigured
  deriving DecidableEq, Repr

/-- State of a peer entry as a record shows it (Table 1-4). -/
inductive PeerState where
  | absent | joining | running
  deriving DecidableEq, Repr

/-- What a peer entry record shows beside them of a Joining or Running entry (Table 12-2). -/
structure PeerView where
  head : Nat
  mics : Nat
  requests : Nat
  desks : Nat
  lanes : Nat
  deriving DecidableEq, Repr

/-- A downlink channel as the downlink table's record shows it (Table 10-1): channel 0 is Floor, fixed. -/
inductive ChannelView where
  | floor
  | free
  | allocated (language count : Nat)
  deriving DecidableEq, Repr

/-- The contents of a record (Table 12-2), one constructor per record kind. -/
inductive Record where
  | stationStatus (state : StationState) (number : Nat) (source : ConfigSource) (accepted : Bool)
      (lastReject : Option RejectReason) (epoch : Nat) (joinTimer : Option Nat) (sync : SyncState)
      (markMissing unaligned good : Nat)
  | peerEntry (state : PeerState) (miss : Nat) (epoch : Option Nat) (view : Option PeerView) (mark : Bool)
  | membership (members : List Nat) (head : Nat) (adopted home : Option Context)
  | roomCommands (queue : List RoomCommand) (current : Option CurrentCommand) (counter : Nat)
      (lastSeen : List (Option Nat))
  | wall (input : Nat) (wall : Wall) (effective : WallState)
  | requestList (entries : List (Request × Bool))
  | openMics (entries : List Mic)
  | desk (entry : Desk)
  | laneHoldings (holdings : List Holding) (shortage : List Nat)
  | downlinks (channels : List ChannelView)
  | deferredList (entries : List (Nat × Nat))
  | unitEntry (entry : UnitEntry) (assigned : Option Nat) (deferred : Bool)
  | clipCounter (count : Nat)
  deriving DecidableEq, Repr

/-- The data of a response (R175). ReadEvents sends flags and mask as two bytes each, most significant first (R177). -/
inductive ResponseData where
  | none
  | events (flags mask : List Byte)
  | record (r : Record)
  deriving DecidableEq, Repr

/-- A response: the echoed command, the response code and the data read (R175). -/
structure Response where
  command : Byte
  code : ResponseCode
  data : ResponseData
  deriving DecidableEq, Repr

/-- Management Port. `response` is the response buffer; `shifted` is what the latest transaction shifted out on MMISO,
none being a response code of none. The attention line is computed from the flags and the mask (R178). -/
structure Port where
  flags : BitVec 16
  mask : BitVec 16
  response : Option Response
  shifted : Option Response
  deriving DecidableEq, Repr

/-- The state of one 1640, with the commands that wait. -/
structure State where
  station : Station
  lif : Lif
  peers : List (Option PeerEntry)
  walls : List Wall
  room : Room
  claims : Claims
  dlc : Dlc
  floor : Floor
  booth : Booth
  lanes : Lanes
  seats : SeatChannels
  mix : Mix
  port : Port
  pending : List Instr
  deriving DecidableEq, Repr

/-! ### Values at power-on -/

/-- No key. -/
def Keys.empty : Keys := ⟨false, false, false, false⟩

/-- Nothing substituted, nothing computed: the link is in bypass (R7, R11). -/
def FrameLatch.bypass : FrameLatch := ⟨false, false, [], none, []⟩

/-- Station state machine in reset (R165). Station number 0 and source Host stand until the straps are latched
(log entry 4). -/
def Station.initial : Station := ⟨true, .unconfigured, 0, .host, none, false, none, false, none⟩

/-- Link Interface after power-on (R11, R12). -/
def Lif.initial : Lif where
  frame := 0
  clock := .hlck
  boundary := .hlck
  sync := .searching
  markMissing := 2
  unaligned := 0
  good := 0
  markSeen := false
  acquired := false
  superframeAligned := true
  epoch := 0
  writeSet := []
  composing := []
  onWire := []
  transmitting := false
  latch := FrameLatch.bypass
  slotFrames := []
  closedSlot := none
  lanesIn := List.replicate 64 0
  patternOut := false
  lanesOut := List.replicate 64 0
  controlOut := List.replicate 24 0

/-- A wall record after power-on (R20). -/
def Wall.initial : Wall := ⟨none, [], false, .moving, none, 0, .moving, .auto⟩

/-- Room Resolver of station n after power-on (R36, R109). -/
def Room.initial (n : Nat) : Room :=
  ⟨[n], n, none, List.replicate 16 false, [], none, 0, List.replicate 16 none⟩

/-- Claim Unit after power-on (R55). -/
def Claims.initial : Claims := ⟨[], [], [], [], []⟩

/-- A unit entry after power-on (R70). -/
def UnitEntry.initial : UnitEntry := ⟨false, 0, 0, false, 0, none, Keys.empty, .off, 0⟩

/-- Delegate Line Controller after power-on (R70). -/
def Dlc.initial : Dlc :=
  ⟨List.replicate 60 UnitEntry.initial, List.replicate 6 none, 1, none, none, none, List.replicate 6 0⟩

/-- Floor Controller after power-on (R98). -/
def Floor.initial : Floor := ⟨[], [], 0⟩

/-- A desk entry after power-on (R144). -/
def Desk.initial : Desk :=
  ⟨false, [], false, 0, 0, false, none, none, .floor, 0, .off, 0, none, false, false, .floor, .floor, .off⟩

/-- Desk Controller after power-on (R144). -/
def Booth.initial : Booth := ⟨List.replicate 4 Desk.initial, none, none, none, none, List.replicate 4 0, []⟩

/-- Lane Manager after power-on (R155). -/
def Lanes.initial : Lanes := ⟨[], []⟩

/-- Seat Channel Allocator after power-on (R164). -/
def SeatChannels.initial : SeatChannels := ⟨List.replicate 8 none, List.replicate 60 none, []⟩

/-- The plan of station n after power-on (R122). -/
def Plan.initial (n : Nat) : Plan :=
  ⟨[n], [], 0, 32768, [], [], List.replicate 8 none, List.replicate 4 .floor, [], List.replicate 8 none,
    List.replicate 4 none⟩

/-- Mix Engine of station n after power-on (R122). -/
def Mix.initial (n : Nat) : Mix :=
  ⟨Plan.initial n, 0, 0, 0, 0, List.replicate 8 0, List.replicate 4 0⟩

/-- Management Port after power-on (R175, R177, R178). The response buffer is empty; that nothing counts as shifted out
before the first transaction is the model's choice (log entry 4). -/
def Port.initial : Port := ⟨0, 0, none, none⟩

/-- The station in reset: every block at its power-on value (R165), nothing waiting. -/
def State.reset : State where
  station := Station.initial
  lif := Lif.initial
  peers := List.replicate 16 none
  walls := List.replicate 4 Wall.initial
  room := Room.initial 0
  claims := Claims.initial
  dlc := Dlc.initial
  floor := Floor.initial
  booth := Booth.initial
  lanes := Lanes.initial
  seats := SeatChannels.initial
  mix := Mix.initial 0
  port := Port.initial
  pending := []

end Sys2Proof.Machine
end

