-- ==== Sys2Proof/Machine/Flags.lean ====
section
/-! DEFINITION. The 16 event flags, the event mask and the attention line (section 12.3). -/

namespace Sys2Proof.Machine

/-- The event flags, in the order of Table 12-3. -/
inductive EventFlag where
  | roomChanged | wallChanged | wallFault | peerChanged | syncLost | linkLost | requestRefused | speakTimeExpired
  | unitChanged | deskEngaged | relayLoop | laneShortage | seatChannelShortage | clip | roomMismatch | configRejected
  deriving DecidableEq, Repr

/-- Bit number of a flag: its place in Table 12-3 (R177). -/
def flagBit : EventFlag → Nat
  | .roomChanged => 0
  | .wallChanged => 1
  | .wallFault => 2
  | .peerChanged => 3
  | .syncLost => 4
  | .linkLost => 5
  | .requestRefused => 6
  | .speakTimeExpired => 7
  | .unitChanged => 8
  | .deskEngaged => 9
  | .relayLoop => 10
  | .laneShortage => 11
  | .seatChannelShortage => 12
  | .clip => 13
  | .roomMismatch => 14
  | .configRejected => 15

/-- Raising a flag sets it; a flag already set stays set (section 12.3). -/
def raise (f : EventFlag) (s : State) : State :=
  { s with port := { s.port with flags := s.port.flags ||| BitVec.twoPow 16 (flagBit f) } }

/-- Raises the flag when the condition holds. -/
def raiseIf (c : Bool) (f : EventFlag) (s : State) : State := if c then raise f s else s

/-- Whether a flag is set. -/
def flagSet (s : State) (f : EventFlag) : Bool := s.port.flags.getLsbD (flagBit f)

/-- ATTN is driven low: some flag is both set and enabled by the mask (R178). -/
def attention (s : State) : Bool := s.port.flags &&& s.port.mask != 0

/-- ClearEvents: the flags whose mask bit is 1 are cleared, the others stay (R177). -/
def clearFlags (mask : BitVec 16) (s : State) : State :=
  { s with port := { s.port with flags := s.port.flags &&& ~~~mask } }

/-- SetEventMask: the mask is replaced (R178). -/
def setMask (mask : BitVec 16) (s : State) : State := { s with port := { s.port with mask := mask } }

end Sys2Proof.Machine
end

