-- ==== Sys2Proof/Machine/View.lean ====
section
/-! DEFINITION. What a station reads: its own tables and the latest valid announcements of its Running peers
(00_scope.md section 12), with the counts and rankings that more than one chapter takes from that view. -/

namespace Sys2Proof.Machine

/-! ### Ordered lists -/

/-- `x` put before the first element that does not come before it. -/
def insertBy {α : Type} (before : α → α → Bool) (x : α) : List α → List α
  | [] => [x]
  | y :: ys => if before y x then y :: insertBy before x ys else x :: y :: ys

/-- The list in the given order; elements that neither precede the other keep their order. -/
def sortBy {α : Type} (before : α → α → Bool) (xs : List α) : List α := xs.foldr (insertBy before) []

/-- A number put into an ascending list without repeats. -/
def insertNat (n : Nat) (xs : List Nat) : List Nat := if xs.contains n then xs else insertBy (fun a b => a < b) n xs

/-! ### Peers and members -/

/-- The settings used while there is no adopted context. They are read in no state that has one (R33). -/
def noContext : Context := ⟨.free, 1, false, 0, 0, .refuse, 0, false, 0, 0⟩

/-- The adopted context (R33). -/
def context (s : State) : Context := s.room.adopted.getD noContext

/-- The home context: the context fields of the configuration with the stored floor level (R32). -/
def homeContext (s : State) : Option Context :=
  s.station.config.map (fun c => { c.home with level := s.floor.level })

/-- The entry of peer t, none when Absent (Table 1-4). -/
def peerAt (s : State) (t : Nat) : Option PeerEntry := s.peers.getD t none

/-- The Running peers with their numbers, ascending. The own number's entry is never read as a peer (section 1.5). -/
def runningPeers (s : State) : List (Nat × PeerEntry) :=
  (List.range Config.stations).filterMap (fun t =>
    if t = s.station.number then none
    else match peerAt s t with
      | some e => if e.content.running then some (t, e) else none
      | none => none)

/-- The member peers with their entries, ascending (R27). -/
def memberPeers (s : State) : List (Nat × PeerEntry) :=
  (runningPeers s).filter (fun p => s.room.members.contains p.1)

/-! ### Seats -/

/-- Class of a seat: from the seat correction table, 0 for a seat without an entry (R71). -/
def seatClass (s : State) (seat : Nat) : Nat :=
  match s.station.config with
  | none => 0
  | some c => ((c.seats.find? (fun e => e.seat = seat)).map (·.cls)).getD 0

/-- Gain of a seat: from the seat correction table, unity for a seat without an entry (R112). -/
def seatGain (s : State) (seat : Nat) : Nat :=
  match s.station.config with
  | none => Config.unity
  | some c => ((c.seats.find? (fun e => e.seat = seat)).map (·.gain)).getD Config.unity

/-- The configured seat count. -/
def seatCount (s : State) : Nat := (s.station.config.map (·.seatCount)).getD 0

/-- Classes 0 and 1 are counted against the speaker limit (Table 5-1). -/
def counted (cls : Nat) : Bool := cls ≤ 1

/-- A seat class is below level when it is lower than the floor level of the adopted context (R73). -/
def belowLevel (s : State) (cls : Nat) : Bool := cls < (context s).level

/-- The open-mic entry of a seat. -/
def micOf (s : State) (seat : Nat) : Option Mic := s.floor.mics.find? (fun m => m.seat = seat)

/-- The request entry of a seat. -/
def requestOf (s : State) (seat : Nat) : Option Request := s.floor.requests.find? (fun r => r.seat = seat)

/-- A mic in phase Opening or Open. -/
def sounding : MicPhase → Bool
  | .opening | .opened => true
  | .closing => false

/-- An announced mic in phase Opening or Open. -/
def annSounding : AnnPhase → Bool
  | .intent => false
  | .mic p => sounding p

/-! ### Static keys (Table 3-1) -/

/-- A place claimant: class, station and seat. -/
structure PlaceKey where
  cls : Nat
  station : Nat
  seat : Nat
  deriving DecidableEq, Repr

/-- Key order of place claims, highest first: class descending, station ascending, seat ascending (Table 3-1). -/
def placeHigher (a b : PlaceKey) : Bool :=
  a.cls > b.cls || (a.cls == b.cls && (a.station < b.station || (a.station == b.station && a.seat < b.seat)))

/-- Key order of language claims: station ascending, then desk ascending (Table 3-1). -/
def deskHigher (a b : Named) : Bool :=
  a.station < b.station || (a.station == b.station && a.item < b.item)

/-- Key of an own place claim. -/
def ownKey (s : State) (cls seat : Nat) : PlaceKey := ⟨cls, s.station.number, seat⟩

/-- An entry in stage Intent, its withdrawal mark set or clear. -/
def isIntent : Stage → Bool
  | .intent _ => true
  | .hold => false

/-- An entry in stage Intent whose withdrawal mark is clear. -/
def isLiveIntent : Stage → Bool
  | .intent marked => !marked
  | .hold => false

/-! ### Counting places (R43) -/

/-- Counted holders: own and members' mics of class 0..1 in phase Opening or Open (R43). -/
def countedHolders (s : State) : Nat :=
  (s.floor.mics.filter (fun m => counted m.cls && sounding m.phase)).length +
  ((memberPeers s).map (fun p =>
    (p.2.content.mics.filter (fun m => counted m.cls && annSounding m.phase)).length)).sum

/-- The keys of the counted intents: own and members' place intents of class 0..1, Normal and Override (R43). -/
def countedIntents (s : State) : List PlaceKey :=
  (s.claims.places.filter (fun c => isIntent c.stage && counted c.cls)).map (fun c => ownKey s c.cls c.seat) ++
  (memberPeers s).flatMap (fun p =>
    (p.2.content.mics.filter (fun m => counted m.cls && m.phase == .intent)).map (fun m => ⟨m.cls, p.1, m.seat⟩))

/-- Free places: the speaker limit less holders and intents, 0 where that is negative (R43). -/
def freePlaces (s : State) : Nat :=
  (context s).speakerLimit - countedHolders s - (countedIntents s).length

/-! ### Mics of the room -/

/-- A mic of the room as this station sees it. -/
structure RoomMic where
  station : Nat
  seat : Nat
  cls : Nat
  age : Nat
  tag : Nat
  displaced : Option Named
  deriving DecidableEq, Repr

/-- Every mic of the room in phase Opening or Open: own entries with their current age, members' as announced. -/
def roomMics (s : State) : List RoomMic :=
  (s.floor.mics.filter (fun m => sounding m.phase)).map
    (fun m => ⟨s.station.number, m.seat, m.cls, m.age, m.tag, m.displaced⟩) ++
  (memberPeers s).flatMap (fun p =>
    (p.2.content.mics.filter (fun m => annSounding m.phase)).map
      (fun m => ⟨p.1, m.seat, m.cls, m.age, m.tag, m.displaced⟩))

/-- The mic an override in Override mode displaces: the counted holder with the greatest open age, ties to the lower
station and then the lower seat (R77). -/
def displacedMic (s : State) : Option Named :=
  ((sortBy (fun a b => a.age > b.age || (a.age == b.age && (a.station < b.station ||
      (a.station == b.station && a.seat < b.seat))))
    ((roomMics s).filter (fun m => counted m.cls))).head?).map (fun m => ⟨m.station, m.seat⟩)

/-- The floor language: the tag of the room's highest-ranking open mic (class descending, open age ascending, station
and seat ascending), or 0 where there is none (R137). -/
def floorLanguage (s : State) : Nat :=
  (((sortBy (fun a b => a.cls > b.cls || (a.cls == b.cls && (a.age < b.age || (a.age == b.age &&
      (a.station < b.station || (a.station == b.station && a.seat < b.seat))))))
    (roomMics s)).head?).map (·.tag)).getD 0

/-! ### The room ranking (R82) -/

/-- A ranked request: its station and seat, with the class and age it is ranked by. -/
structure Ranked where
  station : Nat
  seat : Nat
  cls : Nat
  age : Nat
  deriving DecidableEq, Repr

/-- The room ranking: eligible requests of this station and of the member peers whose seat has no place intent, by
class descending, age descending, station ascending, seat ascending (R82). -/
def roomRanking (s : State) : List Ranked :=
  sortBy (fun a b => a.cls > b.cls || (a.cls == b.cls && (a.age > b.age || (a.age == b.age &&
      (a.station < b.station || (a.station == b.station && a.seat < b.seat))))))
    (((s.floor.requests.filter (fun r => !belowLevel s r.cls &&
        !s.claims.places.any (fun c => isIntent c.stage && c.seat == r.seat))).map
        (fun r => ⟨s.station.number, r.seat, r.cls, r.age⟩)) ++
      (memberPeers s).flatMap (fun p =>
        (p.2.content.requests.filter (fun r => !belowLevel s r.cls &&
          !p.2.content.mics.any (fun m => m.phase == .intent && m.seat == r.seat))).map
          (fun r => ⟨p.1, r.seat, r.cls, r.age⟩)))

/-! ### Desk holders (section 8.4) -/

/-- A desk of the room that is OnAir: `since` is the number of switch points since its announcement, 0 for an own
desk. -/
structure Holder where
  station : Nat
  desk : Nat
  output : Nat
  relay : Relay
  onAirAge : Nat
  selectionAge : Nat
  since : Nat
  displaced : Option Named
  deriving DecidableEq, Repr

/-- The own desks that are OnAir. -/
def ownHolders (s : State) : List Holder :=
  s.booth.desks.zipIdx.filterMap (fun (d, e) =>
    match d.state, d.output with
    | .onAir, some l => some ⟨s.station.number, e, l, d.relay, d.onAirAge, d.selectionAge, 0, d.displaced⟩
    | _, _ => none)

/-- The member peers' desks that are announced OnAir. -/
def peerHolders (s : State) : List Holder :=
  (memberPeers s).flatMap (fun p =>
    (p.2.content.desks.filter (fun d => d.state == .onAir)).map
      (fun d => ⟨p.1, d.desk, d.output, d.relay, d.onAirAge, d.selectionAge, p.2.since, d.displaced⟩))

/-- The holders of language l in the room (section 8.4). -/
def holders (s : State) (l : Nat) : List Holder :=
  (ownHolders s ++ peerHolders s).filter (fun h => h.output == l)

/-- The room has a holder of l. -/
def hasHolder (s : State) (l : Nat) : Bool := !(holders s l).isEmpty

/-- The order in which several holders of a language are taken: greatest age, then lower station, then lower desk. -/
def firstHolder (age : Holder → Nat) (hs : List Holder) : Option Holder :=
  (sortBy (fun a b => age a > age b || (age a == age b && (a.station < b.station ||
      (a.station == b.station && a.desk < b.desk)))) hs).head?

/-- An announced age brought up to the present: the switch points since the announcement arrived are added,
saturating at 65535 (R50, R133). -/
def estimate (age since : Nat) : Nat := min (age + since) Config.ageLimit

/-- The comparison of R50: station `own` with age `age` keeps against station t with estimated age `est`. The lower
station keeps unless the estimate is at least its age plus 2; the higher keeps only with at least the estimate plus 3. -/
def keepsAgainst (own age t est : Nat) : Bool :=
  if own < t then est < age + 2 else est + 3 ≤ age

/-! ### Lane demand and the lane view (R146, R147) -/

/-- Language l has lane demand (R146). -/
def hasDemand (s : State) (l : Nat) : Bool :=
  s.station.state == .running && 2 ≤ s.room.members.length && (ownHolders s).any (fun h => h.output == l)

/-- Lane n is busy in the station's view (R147). -/
def laneBusy (s : State) (n : Nat) : Bool :=
  (runningPeers s).any (fun p => p.2.content.lanes.any (fun l => l.lane == n)) ||
  s.lanes.holdings.any (fun h => h.lane == n)

/-- The lowest free lane of 16..63 (R148). -/
def lowestFreeLane (s : State) : Option Nat := (List.range' 16 48).find? (fun n => !laneBusy s n)

end Sys2Proof.Machine
end

