-- ==== Sys2Proof/Machine/Ops.lean ====
section
/-! DEFINITION. The named operations over the tables that more than one command uses: units and uplink channels,
wants and withdrawals, mics and requests, desks and their holds. -/

namespace Sys2Proof.Machine

/-! ### Unit table and uplink channels (chapter 4) -/

/-- The entry of address a; addresses are 1..60. -/
def unitOf (s : State) (a : Nat) : UnitEntry :=
  if a = 0 then UnitEntry.initial else s.dlc.units.getD (a - 1) UnitEntry.initial

/-- Changes the entry of address a. -/
def modifyUnit (a : Nat) (f : UnitEntry → UnitEntry) (s : State) : State :=
  if a = 0 then s else { s with dlc := { s.dlc with units := s.dlc.units.modify (a - 1) f } }

/-- A request to show Full sets the timer to 500; for an Absent unit it is not taken (R67). -/
def showFull (seat : Nat) (s : State) : State :=
  modifyUnit seat (fun u => if u.present then { u with fullTimer := Config.fullSuperframes } else u) s

/-- The Full timer is set to 0 (R67). -/
def clearFull (seat : Nat) (s : State) : State := modifyUnit seat (fun u => { u with fullTimer := 0 }) s

/-- A refusal of a press: Full is asked for and RequestRefused is raised (R74). -/
def refusePress (seat : Nat) (s : State) : State := raise .requestRefused (showFull seat s)

/-- The lowest-numbered Free uplink channel (R64). -/
def freeUplink (s : State) : Option Nat := s.dlc.uplinks.findIdx? (·.isNone)

/-- Sets an uplink channel Free or binds it to a seat (R64). -/
def setUplink (channel : Nat) (seat : Option Nat) (s : State) : State :=
  { s with dlc := { s.dlc with uplinks := s.dlc.uplinks.set channel seat } }

/-! ### Wants and withdrawal requests (R38, R39) -/

/-- The withdrawal mark of an Intent is set; a Hold is not changed (R39). -/
def markStage : Stage → Stage
  | .intent _ => .intent true
  | .hold => .hold

/-- A withdrawal request for a seat: of its place claims of every class, or restricted to class 0..1 (R39). -/
def withdrawSeat (every : Bool) (seat : Nat) (s : State) : State :=
  { s with claims := { s.claims with
    placeWants := s.claims.placeWants.filter (fun w => !(w.seat == seat && (every || counted w.cls)))
    places := s.claims.places.map (fun c =>
      if c.seat == seat && (every || counted c.cls) then { c with stage := markStage c.stage } else c) } }

/-- A withdrawal request for a desk (R39). -/
def withdrawDesk (desk : Nat) (s : State) : State :=
  { s with claims := { s.claims with
    languageWants := s.claims.languageWants.filter (fun w => w.desk != desk)
    languages := s.claims.languages.map (fun c =>
      if c.desk == desk then { c with stage := markStage c.stage } else c) } }

/-- The seat has a want in the list or an Intent with a clear withdrawal mark (Table 5-2). -/
def pendingPlace (s : State) (seat : Nat) : Bool :=
  s.claims.placeWants.any (fun w => w.seat == seat) ||
  s.claims.places.any (fun c => c.seat == seat && isLiveIntent c.stage)

/-- A place want is filed. A subject with a live Intent or a Hold is handed back as Dropped with SubjectBusy, on which
the floor does nothing (R85); while Unconfigured the want is handed back as Dropped with NotRunning; otherwise it
enters the list in the place of an earlier want of the seat (R38). -/
def filePlaceWant (w : PlaceWant) (s : State) : State :=
  if s.station.state = .unconfigured then
    if w.origin = .press then refusePress w.seat s else s
  else if s.claims.places.any (fun c => c.seat == w.seat && c.stage != .intent true) then s
  else { s with claims := { s.claims with
    placeWants := s.claims.placeWants.filter (fun x => x.seat != w.seat) ++ [w] } }

/-! ### Desk entries (chapter 8) -/

/-- The entry of desk e. -/
def deskOf (s : State) (e : Nat) : Desk := s.booth.desks.getD e Desk.initial

/-- Changes the entry of desk e. -/
def modifyDesk (e : Nat) (f : Desk → Desk) (s : State) : State :=
  { s with booth := { s.booth with desks := s.booth.desks.modify e f } }

/-- The engaged mark is set and DeskEngaged raised (R135). -/
def engageDesk (e : Nat) (s : State) : State :=
  raise .deskEngaged (modifyDesk e (fun d => { d with engaged := true }) s)

/-- Desk e is set Off. -/
def setDeskOff (e : Nat) (s : State) : State := modifyDesk e (fun d => { d with state := .off }) s

/-- The end of desk e's hold is reported: the Claim Unit removes the Hold entry at once (R37). -/
def endDeskHold (e : Nat) (s : State) : State :=
  { s with claims := { s.claims with
    languages := s.claims.languages.filter (fun c => !(c.desk == e && c.stage == .hold)) } }

/-- A desk OnAir is set Off and the end of its hold reported. -/
def takeDeskOffAir (e : Nat) (s : State) : State := endDeskHold e (setDeskOff e s)

/-- A language want is filed (R38). Dropped with SubjectBusy changes nothing; while Unconfigured the want comes back
Dropped with NotRunning, on which the desk is engaged (R130). -/
def fileLanguageWant (w : LanguageWant) (s : State) : State :=
  if s.station.state = .unconfigured then engageDesk w.desk s
  else if s.claims.languages.any (fun c => c.desk == w.desk && c.stage != .intent true) then s
  else { s with claims := { s.claims with
    languageWants := s.claims.languageWants.filter (fun x => x.desk != w.desk) ++ [w] } }

/-! ### Open mics and requests (chapter 5) -/

/-- A close: an entry in phase Opening or Open goes to Closing and keeps its fade step (R87). -/
def closed (m : Mic) : Mic := if sounding m.phase then { m with phase := .closing } else m

/-- Closes the own mics that the condition picks (R87). -/
def closeMics (pick : Mic → Bool) (s : State) : State :=
  { s with floor := { s.floor with mics := s.floor.mics.map (fun m => if pick m then closed m else m) } }

/-- Closes the mic of a seat (R87). -/
def closeSeatMic (seat : Nat) (s : State) : State := closeMics (fun m => m.seat == seat) s

/-- Order of the request list: class descending, age descending, seat ascending (R79). -/
def requestBefore (a b : Request) : Bool :=
  a.cls > b.cls || (a.cls == b.cls && (a.age > b.age || (a.age == b.age && a.seat < b.seat)))

/-- A request entry is created with age 0 at its place, and the unit's Full timer is set to 0 (R79). -/
def createRequest (seat : Nat) (s : State) : State :=
  clearFull seat { s with floor := { s.floor with
    requests := insertBy requestBefore ⟨seat, seatClass s seat, 0⟩ s.floor.requests } }

/-- A request entry is taken out of the list, with no withdrawal: the removal at a win (R86). -/
def dropRequest (seat : Nat) (s : State) : State :=
  { s with floor := { s.floor with requests := s.floor.requests.filter (fun r => r.seat != seat) } }

/-- A request entry is removed for any other cause: a withdrawal request for the seat goes with it (R79). -/
def removeRequest (seat : Nat) (s : State) : State :=
  if (requestOf s seat).isSome then withdrawSeat true seat (dropRequest seat s) else s

/-- The request list is cleared: one withdrawal request per entry removed (R79). -/
def clearRequests (s : State) : State :=
  s.floor.requests.foldl (fun s' r => withdrawSeat true r.seat s')
    { s with floor := { s.floor with requests := [] } }

/-- The end of a place hold is reported: the Claim Unit removes the Hold entry and its uplink channel becomes Free
(R37, R64). -/
def endPlaceHold (seat : Nat) (s : State) : State :=
  (s.claims.places.filter (fun c => c.seat == seat && c.stage == .hold)).foldl
    (fun s' c => setUplink c.uplink none s')
    { s with claims := { s.claims with
      places := s.claims.places.filter (fun c => !(c.seat == seat && c.stage == .hold)) } }

end Sys2Proof.Machine
end

