-- ==== Sys2Proof/Machine/Interpretation.lean ====
section
/-! DEFINITION. The Desk Controller's relay, loop check, sources, conflict step and outcomes (chapter 8). -/

namespace Sys2Proof.Machine

/-! ### Sources (R138, R140, R141) -/

/-- What Auto resolves to at a desk (R138). A desk that has not replied yet has no output language to equal the
pivot. -/
def resolveAuto (s : State) (d : Desk) : Source :=
  let f := floorLanguage s
  let p := (context s).pivot
  if f = 0 then .floor
  else if d.understood.contains f then .floor
  else if p = 0 then .floor
  else if d.output = some p then .floor
  else if !hasHolder s p then .floor
  else .language p

/-- The pending source of a desk (R140). -/
def sourceOf (s : State) (d : Desk) : Source :=
  match d.relay with
  | .floor => .floor
  | .language l => .language l
  | .auto => resolveAuto s d

/-- The pending source of every desk is worked out, fitted or not (R140). -/
def workOutSources (s : State) : State :=
  { s with booth := { s.booth with desks := s.booth.desks.map (fun d => { d with pendingSource := sourceOf s d }) } }

/-- The effective source of every desk takes its pending source (R140). -/
def applySources (s : State) : State :=
  { s with booth := { s.booth with desks := s.booth.desks.map (fun d => { d with source := d.pendingSource }) } }

/-- The listener source of language l: own producing desk, the lowest lane a member peer holds for it, or floor
fallback (R141). -/
def listenerOf (s : State) (l : Nat) : Listener :=
  match (ownHolders s).find? (fun h => h.output == l) with
  | some h => .ownDesk h.desk
  | none =>
    match sortBy (fun a b => a < b) ((memberPeers s).flatMap (fun p =>
        (p.2.content.lanes.filter (fun x => x.held && x.language == l)).map (·.lane))) with
    | n :: _ => .lane n
    | [] => .floor

/-! ### Loop check (R139) -/

/-- Where the relay of a holder leads: a Language to it; Auto to the pivot when that is not 0 and is not the holder's
own output language; Floor nowhere (R139). -/
def relayLeads (pivot : Nat) (h : Holder) : Option Nat :=
  match h.relay with
  | .floor => none
  | .language n => some n
  | .auto => if pivot = 0 || pivot == h.output then none else some pivot

/-- The holders met on the path from language m until a step reaches o, in at most `steps` steps; none where the path
ends or does not reach o (R139). -/
def relayPath (s : State) (o : Nat) : (steps m : Nat) → Option (List Holder)
  | 0, _ => none
  | steps + 1, m =>
    match firstHolder (fun h => estimate h.onAirAge h.since) (holders s m) with
    | none => none
    | some h =>
      match relayLeads (context s).pivot h with
      | none => none
      | some n => if n = o then some [h] else (relayPath s o steps n).map (h :: ·)

/-- Own desk e with selection age `age` loses against another manual-relay member of its loop (R139). -/
def losesLoop (s : State) (e age : Nat) (h : Holder) : Bool :=
  if h.station = s.station.number then age < h.selectionAge || (age == h.selectionAge && h.desk < e)
  else !keepsAgainst s.station.number age h.station (estimate h.selectionAge h.since)

/-- A manual relay: a selection that is a Language. -/
def manualRelay (h : Holder) : Bool :=
  match h.relay with
  | .language _ => true
  | .floor | .auto => false

/-- Own desk e is in a loop and is forced (R139). -/
def loopForced (s : State) (e : Nat) : Bool :=
  match (deskOf s e).state, (deskOf s e).output, (deskOf s e).relay with
  | .onAir, some o, .language l =>
    match relayPath s o 4 l with
    | some hs => (hs.filter manualRelay).all (losesLoop s e (deskOf s e).selectionAge)
    | none => false
  | _, _, _ => false

/-- A forced desk: relay Floor, selection age 0, loop mark set, RelayLoop raised (R139). -/
def forceRelay (e : Nat) (s : State) : State :=
  raise .relayLoop (modifyDesk e (fun d => { d with relay := .floor, selectionAge := 0, loopMark := true }) s)

/-- The loop check over the own desks in ascending order (R139). -/
def loopCheck (s : State) : State :=
  (List.range 4).foldl (fun s' e => if loopForced s' e then forceRelay e s' else s') s

/-- The engaged mark goes at a source step at which the room has no holder of the desk's output language (R135). -/
def dimEngaged (s : State) : State :=
  { s with booth := { s.booth with desks := s.booth.desks.map (fun d =>
    if (d.output.all (fun l => !hasHolder s l)) then { d with engaged := false } else d) } }

/-- The source step of an own slot, after the loop check (R139, R140). -/
def sourceStep (s : State) : State := workOutSources (dimEngaged (loopCheck s))

/-! ### Desk conflict step (R133) -/

/-- Own desk e, OnAir for l with on-air age `age`, gives way to a member peer's holder h of l (R133). -/
def yieldsTo (s : State) (e age : Nat) (h : Holder) : Bool :=
  h.displaced == some ⟨s.station.number, e⟩ ||
  !keepsAgainst s.station.number age h.station (estimate h.onAirAge h.since)

/-- Own desk e is set Off by the desk conflict step (R133). -/
def deskYields (s : State) (e : Nat) : Bool :=
  match (deskOf s e).state, (deskOf s e).output with
  | .onAir, some l => ((peerHolders s).filter (fun h => h.output == l)).any (yieldsTo s e (deskOf s e).onAirAge)
  | _, _ => false

/-- An own desk OnAir gives way to another holder of its language: Off, with the end of its hold, the engaged mark and
DeskEngaged (R130, R131, R133). -/
def standAside (e : Nat) (s : State) : State := engageDesk e (takeDeskOffAir e s)

/-- The desk conflict step, performed while Running, desks in ascending order (R133). -/
def deskConflictStep (s : State) : State :=
  if s.station.state = .running then
    (List.range 4).foldl (fun s' e => if deskYields s' e then standAside e s' else s') s
  else s

/-! ### Outcomes of language claims (R130) -/

/-- Raised: interlock state Intent (R130). -/
def deskRaised (e : Nat) (s : State) : State := modifyDesk e (fun d => { d with state := .intent }) s

/-- Withdrawn: a desk in Intent is set Off; the engaged mark stays (R130). -/
def deskWithdrawn (e : Nat) (s : State) : State :=
  modifyDesk e (fun d => if d.state = .intent then { d with state := .off } else d) s

/-- Lost: Off, engaged (R130). -/
def deskLost (e : Nat) (s : State) : State := engageDesk e (setDeskOff e s)

/-- Own desk x is OnAir for language l. -/
def onAirFor (s : State) (l x : Nat) : Bool := (deskOf s x).state == .onAir && (deskOf s x).output == some l

/-- Won by desk e for language l: OnAir with on-air age 0, the displaced name of a Takeover, engaged mark clear. A Takeover
that names an own desk sets that desk Off in the same event (R130). So does any own desk that is OnAir for l still, since at
no moment two desks of one station are (R134, log entry 20). -/
def deskWon (e l : Nat) (displaced : Option Named) (s : State) : State :=
  let s1 := match displaced with
    | some n => if n.station = s.station.number then standAside n.item s else s
    | none => s
  let s2 := (List.range 4).foldl (fun s' x => if x != e && onAirFor s' l x then standAside x s' else s') s1
  modifyDesk e (fun d => { d with state := .onAir, onAirAge := 0, displaced := displaced, engaged := false }) s2

/-! ### Displacement by a peer's takeover (R131) -/

/-- Own desk e is named by an OnAir entry of an announcement: OnAir, same output language, older than announced (R131). -/
def takenOver (s : State) (a : Announcement) (e : Nat) : Bool :=
  (deskOf s e).state == .onAir && a.desks.any (fun x => x.state == .onAir &&
    x.displaced == some ⟨s.station.number, e⟩ && (deskOf s e).output == some x.output &&
    x.onAirAge < (deskOf s e).onAirAge)

/-- The takeovers an announcement carries (R131). -/
def applyTakeovers (a : Announcement) (s : State) : State :=
  (List.range 4).foldl (fun s' e => if takenOver s' a e then standAside e s' else s') s

/-! ### Ages and lamp (R132, R135) -/

/-- The ages of the desks at a switch point (R132). -/
def advanceDesks (s : State) : State :=
  if s.station.state = .unconfigured then s
  else { s with booth := { s.booth with desks := s.booth.desks.map (fun d =>
    { d with
      onAirAge := if d.state = .onAir then satInc Config.ageLimit d.onAirAge else d.onAirAge
      selectionAge := if d.fitted then satInc Config.ageLimit d.selectionAge else d.selectionAge }) } }

/-- The lamp of desk e (R135). -/
def deskLamp (s : State) (e : Nat) : DeskLamp :=
  let d := deskOf s e
  if d.loopMark then .loop
  else if d.state = .onAir && s.lanes.shortage.any (fun l => d.output == some l) then .noLane
  else if d.state = .onAir then .onAir
  else if d.state = .intent || s.claims.languageWants.any (fun w => w.desk == e) then .intent
  else if d.engaged then .engaged
  else .off

end Sys2Proof.Machine
end

