-- ==== Sys2Proof/Machine/LanePool.lean ====
section
/-! DEFINITION. The Lane Manager: demand, release, outcomes of lane claims and ages (chapter 9). -/

namespace Sys2Proof.Machine

/-- Changes the holdings. -/
def setHoldings (hs : List Holding) (s : State) : State := { s with lanes := { s.lanes with holdings := hs } }

/-- Demand is re-evaluated at the end of an event: the release mark of a Held entry is set when its language has no
demand and cleared when it has; a language whose demand has ended leaves the shortage set (R146, R150). -/
def evalDemand (s : State) : State :=
  { s with lanes :=
    { holdings := s.lanes.holdings.map (fun h => if h.held then { h with release := !hasDemand s h.language } else h)
      shortage := s.lanes.shortage.filter (hasDemand s) } }

/-- The end of a lane hold is reported: the Claim Unit removes the Hold entry (R37). -/
def endLaneHold (lane : Nat) (s : State) : State :=
  { s with claims := { s.claims with
    lanes := s.claims.lanes.filter (fun c => !(c.lane == lane && c.stage == .hold)) } }

/-- An entry of the holdings is removed (R149). -/
def dropHolding (lane : Nat) (s : State) : State :=
  setHoldings (s.lanes.holdings.filter (fun h => h.lane != lane)) s

/-- The lanes whose release mark is set, taken before an own slot (R151). -/
def markedLanes (s : State) : List Nat := (s.lanes.holdings.filter (fun h => h.held && h.release)).map (·.lane)

/-- Releases the Held entries that were marked before the own slot and are marked still: the entry goes and the end of the
hold is reported (R151). -/
def releaseLanes (marked : List Nat) (s : State) : State :=
  ((s.lanes.holdings.filter (fun h => h.held && h.release && marked.contains h.lane)).map (·.lane)).foldl
    (fun s' n => endLaneHold n (dropHolding n s')) s

/-- Raised: an Intent entry is created at its place and the language leaves the shortage set (R149). -/
def laneRaised (lane language : Nat) (s : State) : State :=
  { s with lanes :=
    { holdings := insertBy (fun a b => a.lane < b.lane) ⟨lane, language, false, 0, false⟩ s.lanes.holdings
      shortage := s.lanes.shortage.filter (fun l => l != language) } }

/-- Won: the entry becomes Held with hold age 0 (R149). -/
def laneWon (lane : Nat) (s : State) : State :=
  setHoldings (s.lanes.holdings.map (fun h => if h.lane == lane then { h with held := true, age := 0 } else h)) s

/-- A search that finds no free lane: the language is short and LaneShortage is raised (R150). -/
def laneShort (language : Nat) (s : State) : State :=
  raise .laneShortage { s with lanes := { s.lanes with shortage := insertNat language s.lanes.shortage } }

/-- The hold age of every Held entry at a switch point (R145). -/
def advanceLanes (s : State) : State :=
  setHoldings (s.lanes.holdings.map (fun h => if h.held then { h with age := satInc Config.ageLimit h.age } else h)) s

/-- The Held entries as the LIF's write set takes them (R152). -/
def heldLanes (s : State) : List LaneUse :=
  (s.lanes.holdings.filter (·.held)).map (fun h => ⟨h.lane, h.language⟩)

/-- Entering Isolated: every Held entry is released with its end of hold and the shortage set is emptied (R155). -/
def releaseAllLanes (s : State) : State :=
  let s1 := ((heldLanes s).map (·.lane)).foldl (fun s' n => endLaneHold n (dropHolding n s')) s
  { s1 with lanes := { s1.lanes with shortage := [] } }

end Sys2Proof.Machine
end

