-- ==== Sys2Proof/Machine/Operands.lean ====
section
/-! DEFINITION. What the operands of a command say: the class of a reply (R59, R69) and the fields of a configuration
record (Table 11-3, R168). -/

namespace Sys2Proof.Machine

/-! ### Bits sampled three times (R59) -/

/-- Majority of three samples (R22, R59). -/
def majority (a b c : Bool) : Bool := (a && b) || (a && c) || (b && c)

/-- The value of a bit: the majority of its three samples (R59). -/
def bitValue (b : Thrice Bool) : Bool := majority b.first b.second b.third

/-- The value of a field: the majority of the three samples of each of its bits (R59). -/
def fieldValue {w : Nat} (x : Thrice (BitVec w)) : BitVec w :=
  x.first &&& x.second ||| x.first &&& x.third ||| x.second &&& x.third

/-- The three samples of every bit agreed. -/
def agreed {α : Type} [DecidableEq α] (x : Thrice α) : Bool := x.first == x.second && x.second == x.third

/-! ### Replies -/

/-- The content of a unit's reply (Table 4-2). -/
structure UnitContent where
  address : Nat
  keys : Keys
  selection : Nat
  tag : Nat
  deriving DecidableEq, Repr

/-- The majority values of a unit's reply, its content when it is accepted (R59). -/
def unitContent (r : UnitReply) : UnitContent where
  address := (fieldValue r.address).toNat
  keys := ⟨bitValue r.mic, bitValue r.cancel, bitValue r.priority, bitValue r.next⟩
  selection := (fieldValue r.selection).toNat
  tag := (fieldValue r.tag).toNat

/-- The three samples of every bit of a unit's reply agreed (R59). -/
def unitAgreed (r : UnitReply) : Bool :=
  r.restAgreed && agreed r.address && agreed r.mic && agreed r.cancel && agreed r.priority && agreed r.next &&
  agreed r.selection && agreed r.tag

/-- The content of a desk's reply (Table 8-3). -/
structure DeskContent where
  desk : Nat
  mic : Bool
  output : Nat
  relay : Relay
  deriving DecidableEq, Repr

/-- A relay selection by its kind and language, coded as in Table 1-3; kind 11b stands for none (log entry 21). -/
def relayOfBits (kind : BitVec 2) (language : BitVec 5) : Option Relay :=
  match kind.toNat with
  | 0 => some .floor
  | 1 => some .auto
  | 2 => some (.language language.toNat)
  | _ => none

/-- The majority values of a desk's reply; none where its relay kind stands for no selection (R59, R69). -/
def deskContent (r : DeskReply) : Option DeskContent :=
  (relayOfBits (fieldValue r.relayKind) (fieldValue r.relayLanguage)).map
    (fun relay => ⟨(fieldValue r.desk).toNat, bitValue r.mic, (fieldValue r.output).toNat, relay⟩)

/-- The three samples of every bit of a desk's reply agreed (R59). -/
def deskAgreed (r : DeskReply) : Bool :=
  r.restAgreed && agreed r.desk && agreed r.mic && agreed r.output && agreed r.relayKind && agreed r.relayLanguage

/-- The four outcomes of a window (R59). -/
inductive ReplyClass where
  | missing | malformed | noisy | clean
  deriving DecidableEq, Repr

/-- The class of what arrived on DLI in the window of a polled address (R59). -/
def classifyUnit (polled : Nat) : Option UnitReply → ReplyClass
  | none => .missing
  | some r =>
    if !r.ended || !r.framed || (unitContent r).address != polled || (unitContent r).tag == 0 then .malformed
    else if unitAgreed r then .clean else .noisy

/-- A relay selection that names language 0 (R69). -/
def namesLanguage0 : Relay → Bool
  | .language l => l == 0
  | .floor | .auto => false

/-- The class of what arrived on BPI in the window of a polled desk (R59 with the changes of R69). -/
def classifyDesk (polled : Nat) : Option DeskReply → ReplyClass
  | none => .missing
  | some r =>
    match deskContent r with
    | none => .malformed
    | some c =>
      if !r.ended || !r.framed || c.desk != polled || c.output == 0 || namesLanguage0 c.relay then .malformed
      else if deskAgreed r then .clean else .noisy

/-- Noise counts go up with a Noisy reply and saturate at 255 (R60). -/
def noiseAfter (c : ReplyClass) (n : Nat) : Nat := if c = .noisy then satInc 255 n else n

/-! ### Byte fields -/

/-- Byte i of a record as a number. -/
def byteAt (b : List Byte) (i : Nat) : Nat := (b.getD i 0).toNat

/-- The 16-bit value at bytes i, i+1, most significant byte first. -/
def word16At (b : List Byte) (i : Nat) : Nat := byteAt b i * 256 + byteAt b (i + 1)

/-- Bits lo..lo+width-1 of a number. -/
def bitField (n lo width : Nat) : Nat := n / 2 ^ lo % 2 ^ width

/-- No number stands twice in the list. -/
def noRepeats : List Nat → Bool
  | [] => true
  | x :: xs => !xs.contains x && noRepeats xs

/-! ### The configuration record (Table 11-3) -/

/-- Wall entry i. -/
def recordWall (b : List Byte) (i : Nat) : WallEntry := ⟨byteAt b (3 + 2 * i), byteAt b (4 + 2 * i)⟩

/-- Desk entry i: flag in bit 7 and language count in bits 1..0 of byte +1; bits 6..2 are not examined. -/
def recordDesk (b : List Byte) (i : Nat) : DeskConfig :=
  ⟨byteAt b (12 + 5 * i), bitField (byteAt b (13 + 5 * i)) 7 1 == 1,
    (List.range (bitField (byteAt b (13 + 5 * i)) 0 2)).map (fun k => byteAt b (14 + 5 * i + k))⟩

/-- Seat correction entry i. -/
def recordSeat (b : List Byte) (i : Nat) : SeatCorrection :=
  ⟨byteAt b (33 + 4 * i), byteAt b (34 + 4 * i), word16At b (35 + 4 * i)⟩

/-- The used wall, desk and seat correction entries. -/
def recordWalls (b : List Byte) : List WallEntry := (List.range (byteAt b 2)).map (recordWall b)
def recordDesks (b : List Byte) : List DeskConfig := (List.range (byteAt b 11)).map (recordDesk b)
def recordSeats (b : List Byte) : List SeatCorrection := (List.range (byteAt b 32)).map (recordSeat b)

/-- Mode by its code in the record: 0 Free, 1 Queue, 2 Override. -/
def modeOfCode : Nat → Mode
  | 0 => .free
  | 1 => .queue
  | _ => .override

/-- The context fields of bytes 97..107, with floor level 0 (R72). -/
def recordContext (b : List Byte) : Context where
  mode := modeOfCode (byteAt b 97)
  speakerLimit := byteAt b 98
  autoAdvance := byteAt b 99 == 1
  speakingTime := word16At b 100
  warningTime := byteAt b 102
  interlock := if byteAt b 103 = 1 then .takeover else .refuse
  pivot := byteAt b 104
  clearOnMute := byteAt b 105 == 1
  floorUnder := word16At b 106
  level := 0

/-- BadSum test: bytes 0..107 and the 16-bit value of bytes 108..109 add up to 0 modulo 65536 (R168). -/
def recordSumOk (b : List Byte) : Bool :=
  (((List.range 108).map (byteAt b)).sum + word16At b 108) % 65536 == 0

/-- OutOfRange test (R168): every count, every field of a used entry and every context field lies within Table 11-3,
no neighbour is the own station, no seat is above the seat count. -/
def recordInRange (number : Nat) (b : List Byte) : Bool :=
  1 ≤ byteAt b 1 && byteAt b 1 ≤ 60 &&
  byteAt b 2 ≤ 4 && (recordWalls b).all (fun w => w.input ≤ 3 && w.neighbour ≤ 15 && w.neighbour != number) &&
  byteAt b 11 ≤ 4 && (recordDesks b).all (fun d => d.desk ≤ 3 && d.languages.all (fun l => 1 ≤ l && l ≤ 31)) &&
  byteAt b 32 ≤ 16 && (recordSeats b).all (fun e => 1 ≤ e.seat && e.seat ≤ byteAt b 1 && e.cls ≤ 3) &&
  byteAt b 97 ≤ 2 && 1 ≤ byteAt b 98 && byteAt b 98 ≤ 6 && byteAt b 99 ≤ 1 && word16At b 100 ≤ 3600 &&
  byteAt b 103 ≤ 1 && byteAt b 104 ≤ 31 && byteAt b 105 ≤ 1 && word16At b 106 ≤ 32767

/-- Duplicate test (R168). -/
def recordDistinct (b : List Byte) : Bool :=
  noRepeats ((recordWalls b).map (·.input)) && noRepeats ((recordDesks b).map (·.desk)) &&
  noRepeats ((recordSeats b).map (·.seat)) && (recordDesks b).all (fun d => noRepeats d.languages)

/-- The first failing test of R168 at station `number`, in the order BadSum, BadFormat, OutOfRange, Duplicate. -/
def rejection (number : Nat) (b : List Byte) : Option RejectReason :=
  if !recordSumOk b then some .badSum
  else if byteAt b 0 != 1 then some .badFormat
  else if !recordInRange number b then some .outOfRange
  else if !recordDistinct b then some .duplicate
  else none

/-- The configuration a valid record holds. -/
def recordConfig (b : List Byte) : Configuration :=
  ⟨byteAt b 1, recordWalls b, recordDesks b, recordSeats b, recordContext b⟩

/-- The memory read transfers bytes 0..109; a byte the memory does not drive reads as FFh (R166). -/
def memoryRecord (b : List Byte) : List Byte := (b ++ List.replicate Config.recordBytes 0xFF).take Config.recordBytes

end Sys2Proof.Machine
end

