-- ==== Sys2Proof/Machine/BoothPort.lean ====
section
/-! DEFINITION. The booth port: desk polls, window closes, presence, language changes and Mic presses (chapter 8). -/

namespace Sys2Proof.Machine

/-! ### Polls (R124, R125) -/

/-- The desk whose window starts at frame f (R124). -/
def boothDesk (f : Nat) : Option Nat :=
  if f = 12 then some 0 else if f = 36 then some 1 else if f = 60 then some 2 else if f = 84 then some 3 else none

/-- A booth poll is sent to desk e. The entry keeps the lamp (R125); what the poll replaces is remembered for a mark at this
boundary (R124). -/
def sendBoothPoll (e : Nat) (s : State) : State :=
  let p : DeskPoll := ⟨e, (deskOf s e).ack, deskLamp s e⟩
  let s1 := modifyDesk e (fun d => { d with lamp := p.lamp }) s
  { s1 with booth := { s1.booth with
    pollOut := some p
    before := some ⟨e, (deskOf s e).lamp, s.booth.pollOut⟩
    dueWindow := s1.booth.window
    window := some e } }

/-- The booth poll at the start of a frame: sent to a fitted desk while the station is configured; the window of a desk
that is not fitted stays idle (R124). -/
def boothPollAt (f : Nat) (s : State) : State :=
  match boothDesk f with
  | none => { s with booth := { s.booth with before := none } }
  | some e =>
    if s.station.state != .unconfigured && (deskOf s e).fitted then sendBoothPoll e s
    else { s with booth := { s.booth with before := none, dueWindow := s.booth.window, window := none } }

/-- A booth poll sent at a boundary that a mark makes that of frame 0 was not due there: the lamp and the poll it replaced
stand again, and its window is not opened (R8, R124). -/
def withdrawBoothPoll (s : State) : State :=
  match s.booth.before with
  | some b =>
    let s1 := modifyDesk b.desk (fun d => { d with lamp := b.lamp }) s
    { s1 with booth := { s1.booth with pollOut := b.pollOut, before := none, window := none } }
  | none => { s with booth := { s.booth with window := none } }

/-! ### Language change, relay, Mic press (R128, R129, R136) -/

/-- A language want of the desk waits in the list. -/
def languagePending (s : State) (e : Nat) : Bool := s.claims.languageWants.any (fun w => w.desk == e)

/-- The desk leaves the air or drops its claim, by its interlock state (R127, R128). -/
def standDown (e : Nat) (s : State) : State :=
  match (deskOf s e).state with
  | .onAir => takeDeskOffAir e s
  | .intent => withdrawDesk e (setDeskOff e s)
  | .off => if languagePending s e then withdrawDesk e s else s

/-- The fields a language change sets: output language, engaged mark, and a relay of the new language (R128). -/
def takeLanguage (l : Nat) (d : Desk) : Desk :=
  if d.relay = .language l then
    { d with output := some l, engaged := false, relay := .floor, selectionAge := 0, loopMark := false }
  else { d with output := some l, engaged := false }

/-- The pending source worked out again, and an effective source equal to the new language cleared (R128). -/
def refreshSource (e l : Nat) (s : State) : State :=
  modifyDesk e (fun d => { d with
    pendingSource := sourceOf s d
    source := if d.source = .language l then .floor else d.source }) s

/-- An output language change of desk e to l (R128). -/
def changeLanguage (e l : Nat) (s : State) : State := refreshSource e l (modifyDesk e (takeLanguage l) (standDown e s))

/-- A reported relay selection is refused when it names the desk's own output language (R136). -/
def relayRefused (d : Desk) (r : Relay) : Bool :=
  match r, d.output with
  | .language l, some o => l == o
  | _, _ => false

/-- A reported relay selection (R136): the loop mark is cleared; the selection is taken unless it is refused, with age 0
where it is a new value. -/
def takeRelay (r : Relay) (d : Desk) : Desk :=
  if relayRefused d r || d.relay = r then { d with reported := some r, loopMark := false }
  else { d with reported := some r, loopMark := false, relay := r, selectionAge := 0 }

/-- A Mic press of a desk that is Off with no want pending, for output language l (R129). -/
def pressOffDesk (e l : Nat) (s : State) : State :=
  match firstHolder (·.onAirAge) (holders s l) with
  | none => fileLanguageWant ⟨e, l, none⟩ (modifyDesk e (fun d => { d with engaged := false }) s)
  | some h =>
    if (context s).interlock = .refuse then engageDesk e s
    else fileLanguageWant ⟨e, l, some ⟨h.station, h.desk⟩⟩ (modifyDesk e (fun d => { d with engaged := false }) s)

/-- A Mic press of desk e (R129). -/
def deskPress (e : Nat) (s : State) : State :=
  match (deskOf s e).state with
  | .onAir => takeDeskOffAir e s
  | .intent => withdrawDesk e (setDeskOff e s)
  | .off =>
    if languagePending s e then withdrawDesk e s
    else match (deskOf s e).output with
      | some l => pressOffDesk e l s
      | none => s

/-! ### Window closes (R126, R127) -/

/-- A good reply of desk e, its content taken in the order of R126. -/
def goodDeskReply (e : Nat) (c : ReplyClass) (r : DeskContent) (s : State) : State :=
  let fresh := !(deskOf s e).present
  let s1 := modifyDesk e (fun d =>
    { d with miss := 0, noise := noiseAfter c d.noise, present := true, ack := !d.ack }) s
  let s2 := if fresh || (deskOf s1 e).output != some r.output then changeLanguage e r.output s1 else s1
  let s3 := if fresh || (deskOf s2 e).reported != some r.relay then modifyDesk e (takeRelay r.relay) s2 else s2
  evalDemand (if r.mic then deskPress e s3 else s3)

/-- Desk e goes Absent (R127). -/
def loseDesk (e : Nat) (s : State) : State :=
  evalDemand (modifyDesk e (fun d =>
    { d with present := false, miss := Config.missLimit, engaged := false, loopMark := false }) (standDown e s))

/-- A Malformed or Missing reply of desk e (R127). -/
def badDeskReply (e : Nat) (s : State) : State :=
  if !(deskOf s e).present then s
  else if (deskOf s e).miss + 1 ≥ Config.missLimit then loseDesk e s
  else modifyDesk e (fun d => { d with miss := d.miss + 1 }) s

/-- The window of desk e closes on what arrived (R69, R126). -/
def closeBoothWindow (e : Nat) (reply : Option DeskReply) (s : State) : State :=
  match classifyDesk e reply, reply.bind deskContent with
  | .clean, some r => goodDeskReply e .clean r s
  | .noisy, some r => goodDeskReply e .noisy r s
  | _, _ => badDeskReply e s

/-- The desk whose window closes, as on the delegate line (R124). -/
def closingBoothWindow (s : State) : Option Nat :=
  match s.booth.dueWindow with
  | some e => some e
  | none => if (boothDesk s.lif.frame).isSome then none else s.booth.window

/-- The window that closes is taken off. -/
def takeBoothWindow (s : State) : State :=
  match s.booth.dueWindow with
  | some _ => { s with booth := { s.booth with dueWindow := none } }
  | none => { s with booth := { s.booth with window := none } }

/-- A booth window closes; without a window nothing is classified (R124, R126). -/
def boothWindowCloseOp (reply : Option DeskReply) (s : State) : State :=
  match closingBoothWindow s with
  | some e => closeBoothWindow e reply (takeBoothWindow s)
  | none => s

/-- The window of desk e closes without a good reply for the third consecutive time (R127); where that is not so nothing
comes about (log entry 5). -/
def deskAbsentOp (e : Nat) (s : State) : State :=
  if (deskOf s e).present && (deskOf s e).miss + 1 ≥ Config.missLimit then
    loseDesk e (if closingBoothWindow s = some e then takeBoothWindow s else s)
  else s

/-! ### The frame (R119) -/

/-- The sample delivered for desk e: present, numbered e and every bit agreed; otherwise 0 (R119). -/
def deskSample (s : State) (e : Nat) (m : Option DeskMic) : Sample :=
  match m with
  | some x =>
    if (deskOf s e).present && (fieldValue x.desk).toNat == e && agreed x.desk && agreed x.sample then fieldValue x.sample
    else 0
  | none => 0

/-- The four samples delivered to the Mix Engine (R119). -/
def deliverDesks (mics : List (Option DeskMic)) (s : State) : List Sample :=
  (List.range 4).map (fun e => deskSample s e (mics.getD e none))

/-! ### The meanings -/

/-- BOOTH_WINDOW_CLOSE (R126). -/
def execBoothWindowClose (reply : Option DeskReply) (s : State) : Host.Outcome State Fault Refusal :=
  .next (if s.station.inReset then s else boothWindowCloseOp reply s)

/-- DESK_ABSENT (R127). -/
def execDeskAbsent (desk : Nat) (s : State) : Host.Outcome State Fault Refusal :=
  .next (if s.station.inReset then s else deskAbsentOp desk s)

end Sys2Proof.Machine
end

