-- ==== Sys2Proof/Machine/FloorControl.lean ====
section
/-! DEFINITION. The Floor Controller: key presses, place outcomes, fades and speaking time (chapter 5). -/

namespace Sys2Proof.Machine

/-- Floor state of a seat (Table 5-2). -/
inductive FloorState where
  | speaking | fading | requesting | pending | idle
  deriving DecidableEq, Repr

/-- The floor state of a seat at the moment a key is taken (Table 5-2). -/
def floorState (s : State) (seat : Nat) : FloorState :=
  match micOf s seat with
  | some m => if sounding m.phase then .speaking else .fading
  | none =>
    if (requestOf s seat).isSome then .requesting
    else if pendingPlace s seat then .pending
    else .idle

/-! ### Presses (R74 to R78) -/

/-- A Normal place want of origin Press with the seat's class. -/
def pressWant (s : State) (seat : Nat) : PlaceWant := ⟨seat, seatClass s seat, none, .press⟩

/-- Mic press on an Idle seat in Free mode (R75). -/
def pressIdleFree (seat : Nat) (s : State) : State :=
  if belowLevel s (seatClass s seat) then refusePress seat s else filePlaceWant (pressWant s seat) s

/-- Mic press on an Idle seat in Queue mode (R76). -/
def pressIdleQueue (seat : Nat) (s : State) : State :=
  if counted (seatClass s seat) then
    if s.floor.requests.length ≥ Config.requestEntries then refusePress seat s else createRequest seat s
  else if belowLevel s (seatClass s seat) then refusePress seat s
  else filePlaceWant (pressWant s seat) s

/-- Mic press on an Idle seat in Override mode (R77). -/
def pressIdleOverride (seat : Nat) (s : State) : State :=
  if belowLevel s (seatClass s seat) then refusePress seat s
  else if !counted (seatClass s seat) then filePlaceWant (pressWant s seat) s
  else if freePlaces s > 0 then filePlaceWant (pressWant s seat) s
  else match displacedMic s with
    | some n => filePlaceWant ⟨seat, seatClass s seat, some n, .press⟩ s
    | none => refusePress seat s

/-- Mic press on an Idle seat, by the mode of the adopted context. -/
def pressIdle (seat : Nat) (s : State) : State :=
  match (context s).mode with
  | .free => pressIdleFree seat s
  | .queue => pressIdleQueue seat s
  | .override => pressIdleOverride seat s

/-- A Mic press of a seat (R74 to R77). A Requesting seat arises in Queue mode alone, since the list is empty in the
others (R95). -/
def micPress (seat : Nat) (s : State) : State :=
  match floorState s seat with
  | .speaking => closeSeatMic seat s
  | .fading => s
  | .requesting => removeRequest seat s
  | .pending => withdrawSeat true seat s
  | .idle => pressIdle seat s

/-- A Cancel of a seat: its request entry is removed and its pending place claim withdrawn; its mic stays (R78). -/
def cancelSeat (seat : Nat) (s : State) : State :=
  let s1 := removeRequest seat s
  if pendingPlace s1 seat then withdrawSeat true seat s1 else s1

/-- CloseSeat: a Speaking seat's mic is closed and a pending place claim withdrawn; the request entry stays (R78). -/
def closeSeatCommand (seat : Nat) (s : State) : State :=
  let s1 := closeSeatMic seat s
  if pendingPlace s1 seat then withdrawSeat true seat s1 else s1

/-! ### Place outcomes (R85, R86) -/

/-- A Press want that is Dropped with NoPlace, NoChannel or NotRunning, or whose intent is Lost, is a refused press;
for the other origins the floor does nothing (R85). -/
def placeRefused (origin : Origin) (seat : Nat) (s : State) : State :=
  if origin = .press then refusePress seat s else s

/-- The open-mic entry a win creates (R86). -/
def wonMic (s : State) (c : PlaceClaim) : Mic :=
  ⟨c.seat, c.cls, c.uplink, .opening, 0, 0, 0, (unitOf s c.seat).tag.getD 0, c.displaced⟩

/-- A place is won: the entry is created, the seat's request entry goes, the Full timer is set to 0, and a mic of this
station that the Override names is closed (R86). -/
def placeWon (c : PlaceClaim) (s : State) : State :=
  let s1 := clearFull c.seat (dropRequest c.seat { s with floor := { s.floor with
    mics := insertBy (fun a b => a.seat < b.seat) (wonMic s c) s.floor.mics } })
  match c.displaced with
  | some n => if n.station = s.station.number then closeSeatMic n.item s1 else s1
  | none => s1

/-- A floor language tag change of a seat: the tag of its open-mic entry takes the new value at once (R86). -/
def tagChanged (seat tag : Nat) (s : State) : State :=
  { s with floor := { s.floor with
    mics := s.floor.mics.map (fun m => if m.seat == seat then { m with tag := tag } else m) } }

/-! ### Displacement by a peer's override (R88) -/

/-- Own mic m is named by a displacing entry of an announcement and is closed: Opening or Open, class 0..1, older than
the age announced (R88). -/
def overridden (s : State) (a : Announcement) (m : Mic) : Bool :=
  sounding m.phase && counted m.cls && a.mics.any (fun x => x.phase != .intent &&
    x.displaced == some ⟨s.station.number, m.seat⟩ && x.age < m.age)

/-- The overrides an announcement carries (R88). -/
def applyOverrides (a : Announcement) (s : State) : State := closeMics (overridden s a) s

/-! ### The switch point (R80, R89, R91, R92) -/

/-- Phase and fade step after a switch point (R89, step 2). -/
def fade (m : Mic) : Mic :=
  match m.phase with
  | .opening =>
    if m.step + 1 ≥ Config.fadeSteps then { m with step := Config.fadeSteps, phase := .opened }
    else { m with step := m.step + 1 }
  | .opened => { m with step := Config.fadeSteps }
  | .closing => { m with step := m.step - 1 }

/-- The speaking time used, counted for class 0..1 in phase Opening or Open (R91). -/
def countSpeaking (m : Mic) : Mic :=
  if counted m.cls && sounding m.phase then { m with used := satInc Config.speakLimit m.used } else m

/-- One entry at a switch point: open age, fade, speaking-time count (R89). -/
def advanceMic (m : Mic) : Mic := countSpeaking (fade { m with age := satInc Config.ageLimit m.age })

/-- A Closing entry whose step is 0 (R89). -/
def fadedOut (m : Mic) : Bool := m.phase == .closing && m.step == 0

/-- The mics that are faded out leave the table, and the end of each hold is reported (R89). -/
def removeFaded (s : State) : State :=
  ((s.floor.mics.filter fadedOut).map (·.seat)).foldl (fun s' seat => endPlaceHold seat s')
    { s with floor := { s.floor with mics := s.floor.mics.filter (fun m => !fadedOut m) } }

/-- The speaking time of an entry is used up under the adopted context (R92). -/
def timeExpired (s : State) (m : Mic) : Bool :=
  counted m.cls && sounding m.phase && (context s).speakingTime > 0 &&
  (context s).speakingTime * Config.superframesPerSecond ≤ m.used

/-- The mics whose speaking time is used up are closed, with SpeakTimeExpired (R92). -/
def expireSpeaking (s : State) : State :=
  raiseIf (s.floor.mics.any (timeExpired s)) .speakTimeExpired (closeMics (timeExpired s) s)

/-- An entry is in its warning period (R93). -/
def inWarning (s : State) (m : Mic) : Bool :=
  counted m.cls && sounding m.phase && (context s).speakingTime > 0 &&
  (context s).speakingTime * Config.superframesPerSecond ≤
    (context s).warningTime * Config.superframesPerSecond + m.used

/-- The ages of the request entries; the order of the list is kept (R79, R80). -/
def advanceRequests (s : State) : State :=
  { s with floor := { s.floor with
    requests := sortBy requestBefore (s.floor.requests.map (fun r => { r with age := satInc Config.ageLimit r.age })) } }

/-- The Floor Controller's switch point: ages, fades and counts of the mics, removal, expiry (R80, R89 to R92). -/
def floorSwitchPoint (s : State) : State :=
  expireSpeaking (removeFaded (advanceRequests
    { s with floor := { s.floor with mics := s.floor.mics.map advanceMic } }))

end Sys2Proof.Machine
end

