-- ==== Sys2Proof/Machine/Announcement.lean ====
section
/-! DEFINITION. The 120-byte announcement: its check, its layout (Table 1-3), its composition from the tables (R12,
R13) and its validity on receipt (R14). -/

namespace Sys2Proof.Machine

/-! ### The check (R13) -/

/-- One bit of the CRC register with generator x^16 + x^12 + x^5 + 1. -/
def crcShift (r : BitVec 16) : BitVec 16 := if r.msb then (r <<< 1) ^^^ 0x1021#16 else r <<< 1

/-- One byte, most significant bit first. -/
def crcByte (r : BitVec 16) (b : Byte) : BitVec 16 :=
  (List.range 8).foldl (fun r' _ => crcShift r') (r ^^^ (b.setWidth 16 <<< 8))

/-- CRC-16 of a list of bytes in ascending order: preset FFFFh, no final inversion (R13). -/
def crc16 (bytes : List Byte) : BitVec 16 := bytes.foldl crcByte 0xFFFF#16

/-! ### Field codes (Table 1-3) -/

/-- A byte field of the layout. -/
def byteOf (n : Nat) : Byte := BitVec.ofNat 8 n

/-- A 16-bit field, most significant byte first. -/
def bytesOf (n : Nat) : List Byte := [byteOf (n / 256), byteOf n]

def wallCode : WallState → Nat
  | .closed => 0
  | .moving => 1
  | .opened => 2
  | .fault => 3

def wallOfCode : Nat → WallState
  | 0 => .closed
  | 1 => .moving
  | 2 => .opened
  | _ => .fault

def modeCode : Mode → Nat
  | .free => 0
  | .queue => 1
  | .override => 2

def kindCode : CommandKind → Nat
  | .priorityMute => 1
  | .grantNext => 2
  | .cancelAll => 3
  | .setFloorLevel => 4

/-- Command kind by its code; code 0 is None and codes above 4 name no kind. -/
def kindOfCode : Nat → Option CommandKind
  | 1 => some .priorityMute
  | 2 => some .grantNext
  | 3 => some .cancelAll
  | 4 => some .setFloorLevel
  | _ => none

/-- The kinds whose argument is announced; for the others R13 transmits it as 0. -/
def kindHasArgument : CommandKind → Bool
  | .grantNext | .setFloorLevel => true
  | .priorityMute | .cancelAll => false

def phaseCode : AnnPhase → Nat
  | .intent => 0
  | .mic .opening => 1
  | .mic .opened => 2
  | .mic .closing => 3

def phaseOfCode : Nat → AnnPhase
  | 0 => .intent
  | 1 => .mic .opening
  | 2 => .mic .opened
  | _ => .mic .closing

def relayCode : Relay → Nat
  | .floor => 0
  | .auto => 1
  | .language _ => 2

/-- The announced relay language, 0 where the kind is not Language (R13). -/
def relayLanguage : Relay → Nat
  | .language l => l
  | .floor | .auto => 0

def relayOfCode (code language : Nat) : Option Relay :=
  match code with
  | 0 => some .floor
  | 1 => some .auto
  | 2 => if 1 ≤ language && language ≤ 31 then some (.language language) else none
  | _ => none

def deskCode : DeskState → Nat
  | .off => 0
  | .intent => 1
  | .onAir => 2

def deskOfCode : Nat → Option DeskState
  | 0 => some .off
  | 1 => some .intent
  | 2 => some .onAir
  | _ => none

def boolCode (b : Bool) : Nat := if b then 1 else 0

/-- The displaced-present bit and the displaced fields, all 0 where absent (R13). -/
def presentCode (d : Option Named) : Nat := boolCode d.isSome
def displacedStation (d : Option Named) : Nat := (d.map (·.station)).getD 0
def displacedItem (d : Option Named) : Nat := (d.map (·.item)).getD 0

/-! ### Entries -/

def wallBytes (w : AnnWall) : List Byte := [byteOf (w.neighbour * 16 + wallCode w.state)]

def micBytes (m : AnnMic) : List Byte :=
  [byteOf (m.seat * 4 + m.cls), byteOf (phaseCode m.phase * 64 + m.tag)] ++ bytesOf m.age ++
  [byteOf (presentCode m.displaced * 128 + displacedStation m.displaced), byteOf (displacedItem m.displaced)]

def requestBytes (r : AnnRequest) : List Byte := byteOf (r.seat * 4 + r.cls) :: bytesOf r.age

def deskBytes (d : AnnDesk) : List Byte :=
  [byteOf (d.desk * 64 + presentCode d.displaced * 32 + d.output),
   byteOf (relayCode d.relay * 64 + relayLanguage d.relay),
   byteOf (deskCode d.state * 64 + displacedItem d.displaced * 16 + displacedStation d.displaced)] ++
  bytesOf d.selectionAge ++ bytesOf d.onAirAge

def laneBytes (l : AnnLane) : List Byte :=
  [byteOf (boolCode l.held * 128 + l.lane), byteOf l.language] ++ bytesOf l.age

/-- Bytes 7..13: the context section. -/
def contextBytes (c : Context) : List Byte :=
  [byteOf (modeCode c.mode * 64 + c.speakerLimit * 8 + boolCode c.autoAdvance * 4 +
    boolCode (c.interlock == .takeover) * 2 + boolCode c.clearOnMute)] ++ bytesOf c.speakingTime ++
  [byteOf c.warningTime, byteOf (c.level * 64 + c.pivot)] ++ bytesOf c.floorUnder

/-- Bytes 14..15: the command section. -/
def commandBytes (sequence : Nat) (c : Option RoomCommand) : List Byte :=
  match c with
  | none => [byteOf (sequence * 16), 0]
  | some c => [byteOf (sequence * 16 + kindCode c.kind),
      byteOf (if kindHasArgument c.kind then c.argument else 0)]

/-- Entries beyond the count are transmitted as all zero (R13). -/
def padTo (n : Nat) (bytes : List Byte) : List Byte := (bytes ++ List.replicate n 0).take n

/-- Bytes 0..117. -/
def announcementBody (a : Announcement) : List Byte :=
  [byteOf (a.station * 16 + boolCode a.running * 8), byteOf a.epoch, byteOf (a.head * 16 + a.walls.length)] ++
  padTo 4 (a.walls.flatMap wallBytes) ++ contextBytes a.context ++ commandBytes a.sequence a.command ++
  [byteOf (a.mics.length * 16 + a.requests.length), byteOf (a.desks.length * 16 + a.lanes.length)] ++
  padTo 36 (a.mics.flatMap micBytes) ++ padTo 18 (a.requests.flatMap requestBytes) ++
  padTo 28 (a.desks.flatMap deskBytes) ++ padTo 16 (a.lanes.flatMap laneBytes) ++ [0, 0]

/-- The 120 bytes, the check most significant byte first (R13). -/
def announcementBytes (a : Announcement) : List Byte :=
  announcementBody a ++ bytes16 (crc16 (announcementBody a))

/-! ### Reading an announcement -/

def readWall (b : List Byte) (i : Nat) : AnnWall :=
  ⟨bitField (byteAt b (3 + i)) 4 4, wallOfCode (bitField (byteAt b (3 + i)) 0 2)⟩

def readMic (b : List Byte) (i : Nat) : AnnMic :=
  let o := 18 + 6 * i
  ⟨bitField (byteAt b o) 2 6, bitField (byteAt b o) 0 2, phaseOfCode (bitField (byteAt b (o + 1)) 6 2),
    bitField (byteAt b (o + 1)) 0 5, word16At b (o + 2),
    if bitField (byteAt b (o + 4)) 7 1 = 1 then
      some ⟨bitField (byteAt b (o + 4)) 0 4, bitField (byteAt b (o + 5)) 0 6⟩ else none⟩

def readRequest (b : List Byte) (i : Nat) : AnnRequest :=
  let o := 54 + 3 * i
  ⟨bitField (byteAt b o) 2 6, bitField (byteAt b o) 0 2, word16At b (o + 1)⟩

/-- Desk entry i, none where its relay or interlock field is not valid (R14 condition 6). -/
def readDesk (b : List Byte) (i : Nat) : Option AnnDesk :=
  let o := 72 + 7 * i
  match relayOfCode (bitField (byteAt b (o + 1)) 6 2) (bitField (byteAt b (o + 1)) 0 5),
    deskOfCode (bitField (byteAt b (o + 2)) 6 2) with
  | some relay, some state =>
    some ⟨bitField (byteAt b o) 6 2, bitField (byteAt b o) 0 5, relay, state,
      if bitField (byteAt b o) 5 1 = 1 then
        some ⟨bitField (byteAt b (o + 2)) 0 4, bitField (byteAt b (o + 2)) 4 2⟩ else none,
      word16At b (o + 3), word16At b (o + 5)⟩
  | _, _ => none

def readLane (b : List Byte) (i : Nat) : AnnLane :=
  let o := 100 + 4 * i
  ⟨bitField (byteAt b o) 7 1 == 1, bitField (byteAt b o) 0 6, bitField (byteAt b (o + 1)) 0 5, word16At b (o + 2)⟩

def readContext (b : List Byte) : Context where
  mode := modeOfCode (bitField (byteAt b 7) 6 2)
  speakerLimit := bitField (byteAt b 7) 3 3
  autoAdvance := bitField (byteAt b 7) 2 1 == 1
  speakingTime := word16At b 8
  warningTime := byteAt b 10
  interlock := if bitField (byteAt b 7) 1 1 = 1 then .takeover else .refuse
  pivot := bitField (byteAt b 11) 0 5
  clearOnMute := bitField (byteAt b 7) 0 1 == 1
  floorUnder := word16At b 12
  level := bitField (byteAt b 11) 6 2

/-- The command section; the argument of a kind that R13 sends with argument 0 is not examined (R14). -/
def readCommand (b : List Byte) : Option RoomCommand :=
  (kindOfCode (bitField (byteAt b 14) 0 3)).map
    (fun k => ⟨k, if kindHasArgument k then bitField (byteAt b 15) 0 3 else 0⟩)

/-- The counts of the five lists. -/
def wallCount (b : List Byte) : Nat := bitField (byteAt b 2) 0 3
def micCount (b : List Byte) : Nat := bitField (byteAt b 16) 4 3
def requestCount (b : List Byte) : Nat := bitField (byteAt b 16) 0 3
def deskCount (b : List Byte) : Nat := bitField (byteAt b 17) 4 3
def laneCount (b : List Byte) : Nat := bitField (byteAt b 17) 0 3

/-- Conditions 4 and 5 of R14 on the header, the context and the command. -/
def fieldsInRange (b : List Byte) : Bool :=
  wallCount b ≤ 4 && micCount b ≤ 6 && requestCount b ≤ 6 && deskCount b ≤ 4 && laneCount b ≤ 4 &&
  bitField (byteAt b 7) 6 2 != 3 && 1 ≤ bitField (byteAt b 7) 3 3 && bitField (byteAt b 7) 3 3 ≤ 6 &&
  word16At b 8 ≤ 3600 && word16At b 12 ≤ 32767 && bitField (byteAt b 14) 0 3 ≤ 4 &&
  (readCommand b).all (fun c => c.argument ≤ 6)

def seatInRange (n : Nat) : Bool := 1 ≤ n && n ≤ 60
def languageInRange (n : Nat) : Bool := 1 ≤ n && n ≤ 31

/-- Conditions 6 and 7 of R14 on the used entries. -/
def entriesValid (a : Announcement) : Bool :=
  a.mics.all (fun m => seatInRange m.seat && m.displaced.all (fun d => seatInRange d.item)) &&
  a.requests.all (fun r => seatInRange r.seat) && a.desks.all (fun d => languageInRange d.output) &&
  a.lanes.all (fun l => 16 ≤ l.lane && l.lane ≤ 63 && languageInRange l.language) &&
  noRepeats (a.mics.map (·.seat)) && noRepeats (a.requests.map (·.seat)) && noRepeats (a.desks.map (·.desk)) &&
  noRepeats (a.lanes.map (·.lane))

/-- The content of 120 received bytes, none where a used desk entry has no valid relay or interlock field. -/
def readAnnouncement (b : List Byte) : Option Announcement :=
  ((List.range (deskCount b)).mapM (readDesk b)).map (fun desks =>
    { station := bitField (byteAt b 0) 4 4
      running := bitField (byteAt b 0) 3 1 == 1
      epoch := byteAt b 1
      head := bitField (byteAt b 2) 4 4
      walls := (List.range (wallCount b)).map (readWall b)
      context := readContext b
      sequence := bitField (byteAt b 14) 4 4
      command := readCommand b
      mics := (List.range (micCount b)).map (readMic b)
      requests := (List.range (requestCount b)).map (readRequest b)
      desks := desks
      lanes := (List.range (laneCount b)).map (readLane b) })

/-- The content of a valid announcement of slot t; none where it counts as missing (R14). -/
def validAnnouncement (t : Nat) (frames : List (Bool × List Byte)) : Option Announcement :=
  let b := frames.flatMap (·.2)
  if frames.all (·.1) && bytes16 (crc16 (b.take 118)) == (b.drop 118).take 2 && bitField (byteAt b 0) 4 4 == t &&
      fieldsInRange b then
    (readAnnouncement b).filter entriesValid
  else none

/-- Mic entries in phase Opening, Open or Closing in a transmitted record (R115). -/
def soundingInRecord (b : List Byte) : Nat :=
  ((List.range (micCount b)).filter (fun i => bitField (byteAt b (19 + 6 * i)) 6 2 != 0)).length

/-! ### Composition (R12, R13, R25, R54, R81, R90, R102, R142) -/

/-- The effective state of a wall (R24). -/
def effective (w : Wall) : WallState :=
  match w.setting with
  | .auto => w.debounced
  | .forceOpen => .opened
  | .forceClosed => .closed

/-- The configured walls in the order of the configuration's entries, each with its effective state (R25). -/
def ownWalls (s : State) : List AnnWall :=
  match s.station.config with
  | none => []
  | some c => c.walls.map (fun e => ⟨e.neighbour, effective (s.walls.getD e.input Wall.initial)⟩)

/-- Mic entries: the open mics and the place intents, in ascending seat order (R54, R90). -/
def ownMics (s : State) : List AnnMic :=
  sortBy (fun a b => a.seat < b.seat)
    (s.floor.mics.map (fun m => ⟨m.seat, m.cls, .mic m.phase, m.tag, m.age, m.displaced⟩) ++
     (s.claims.places.filter (fun c => isIntent c.stage)).map
      (fun c => ⟨c.seat, c.cls, .intent, (unitOf s c.seat).tag.getD 0, 0, c.displaced⟩))

/-- The first six of the eligible requests in list order followed by the ineligible ones (R81). -/
def ownRequests (s : State) : List AnnRequest :=
  ((s.floor.requests.filter (fun r => !belowLevel s r.cls) ++ s.floor.requests.filter (fun r => belowLevel s r.cls)).take
    6).map (fun r => ⟨r.seat, r.cls, r.age⟩)

/-- The displaced name a desk announces: its own while OnAir, its Takeover's while in Intent (R142). -/
def deskDisplaced (s : State) (e : Nat) (d : Desk) : Option Named :=
  match d.state with
  | .onAir => d.displaced
  | .intent => ((s.claims.languages.find? (fun c => c.desk == e && isIntent c.stage)).map (·.displaced)).join
  | .off => none

/-- One entry per Present desk, ascending (R142). -/
def ownDesks (s : State) : List AnnDesk :=
  s.booth.desks.zipIdx.filterMap (fun (d, e) =>
    if d.present then
      some ⟨e, d.output.getD 0, d.relay, d.state, deskDisplaced s e d, d.selectionAge,
        if d.state = .onAir then d.onAirAge else 0⟩
    else none)

/-- The holdings as announced: an Intent with hold age 0 (R145). -/
def ownLanes (s : State) : List AnnLane :=
  s.lanes.holdings.map (fun h => ⟨h.held, h.lane, h.language, if h.held then h.age else 0⟩)

/-- The sequence number announced: the current command's, or the counter's value without one (R102). -/
def announcedSequence (s : State) : Nat := (s.room.current.map (·.sequence)).getD s.room.counter

/-- The command announced: the current one, the front of the queue (R99, R102). -/
def announcedCommand (s : State) : Option RoomCommand :=
  match s.room.current with
  | none => none
  | some _ => s.room.queue.head?

/-- The announcement composed from the tables as they stand (R5, R12). -/
def ownAnnouncement (s : State) : Announcement where
  station := s.station.number
  running := s.station.state == .running
  epoch := s.lif.epoch
  head := s.room.head
  walls := ownWalls s
  context := (homeContext s).getD noContext
  sequence := announcedSequence s
  command := announcedCommand s
  mics := ownMics s
  requests := ownRequests s
  desks := ownDesks s
  lanes := ownLanes s

end Sys2Proof.Machine
end

