-- ==== Sys2Proof/Machine/Rooms.lean ====
section
/-! DEFINITION. Room composition: reports, membership, head, adopted context, and what a recomputation hands to the
other blocks (sections 2.2 to 2.5). -/

namespace Sys2Proof.Machine

/-! ### Membership (R26, R27, R28) -/

/-- The wall reports of station m: the own configured walls, or a Running peer's wall entries (R26). -/
def reportsOf (s : State) (m : Nat) : List AnnWall :=
  if m = s.station.number then ownWalls s
  else match peerAt s m with
    | some e => if e.content.running then e.content.walls else []
    | none => []

/-- The states reported about the pair (a, b) from either side. -/
def pairReports (s : State) (a b : Nat) : List WallState :=
  ((reportsOf s a).filter (fun w => w.neighbour == b)).map (·.state) ++
  ((reportsOf s b).filter (fun w => w.neighbour == a)).map (·.state)

/-- The pair of distinct stations counts open: there is a report about it and every report says Open (R26). -/
def countsOpen (s : State) (a b : Nat) : Bool :=
  a != b && !(pairReports s a b).isEmpty && (pairReports s a b).all (fun w => w == .opened)

/-- The candidates: the station itself and its Running peers (R27). -/
def candidates (s : State) : List Nat :=
  (List.range Config.stations).filter (fun t => t == s.station.number || (runningPeers s).any (fun p => p.1 == t))

/-- One pass: the neighbour sets of all current members are added (R27). -/
def memberPass (s : State) (members : List Nat) : List Nat :=
  (candidates s).filter (fun u => members.contains u || members.any (fun m => countsOpen s m u))

/-- The passes from {self}; 15 always suffice (R27). -/
def memberPasses (s : State) : Nat → List Nat
  | 0 => [s.station.number]
  | k + 1 => memberPass s (memberPasses s k)

/-- The membership: {self} unless Running (R28), else the result of R27. -/
def membershipOf (s : State) : List Nat :=
  if s.station.state = .running then memberPasses s 15 else [s.station.number]

/-- The head: the lowest member (R27). -/
def headOf (s : State) (members : List Nat) : Nat := members.foldl min s.station.number

/-- The context adopted under head h: the home context when the station is its own head, else the context the head
announces (R33). While Unconfigured there is none. -/
def adoptedUnder (s : State) (h : Nat) : Option Context :=
  if h = s.station.number then homeContext s
  else match peerAt s h with
    | some e => some e.content.context
    | none => homeContext s

/-! ### What a recomputation presents -/

/-- Claim Unit at a membership change: with fewer than 2 members every lane Intent is marked (R40). -/
def claimsAtMembership (s : State) : State :=
  if s.room.members.length < 2 then
    { s with claims := { s.claims with
      lanes := s.claims.lanes.map (fun c => { c with stage := markStage c.stage }) } }
  else s

/-- The current command of each added member is marked as seen: its last-seen sequence takes the number in its Peer
Table entry (R104). -/
def markNewcomers (before : List Nat) (s : State) : State :=
  { s with room := { s.room with
    lastSeen := s.room.lastSeen.zipIdx.map (fun (seen, t) =>
      if s.room.members.contains t && !before.contains t && t != s.station.number then
        (match peerAt s t with
          | some e => some e.content.sequence
          | none => seen)
      else seen) } }

/-- A membership change: RoomChanged, then the Claim Unit, the Lane Manager and the room command logic (R30). The floor
and the desks change nothing at it (R94, R143). -/
def presentMembership (before : List Nat) (s : State) : State :=
  evalDemand (markNewcomers before (claimsAtMembership (raise .roomChanged s)))

/-- Claim Unit at a context change (R40): Takeover claims go when the interlock changes from Takeover to Refuse, Override
claims when the mode changes from Override to another. At a change from Override to Queue R95 says that pending Press wants
and intents are kept, while R40 withdraws those of variant Override: the model follows R40 for them and keeps the others.
DEDUCED (log entry 26). -/
def claimsAtContext (before after : Context) (s : State) : State :=
  let s1 := if before.interlock = .takeover && after.interlock = .refuse then
      { s with claims := { s.claims with
        languageWants := s.claims.languageWants.filter (fun w => w.displaced.isNone)
        languages := s.claims.languages.map (fun c =>
          if c.displaced.isSome then { c with stage := markStage c.stage } else c) } }
    else s
  if before.mode = .override && after.mode != .override then
    { s1 with claims := { s1.claims with
      placeWants := s1.claims.placeWants.filter (fun w => w.displaced.isNone)
      places := s1.claims.places.map (fun c =>
        if c.displaced.isSome then { c with stage := markStage c.stage } else c) } }
  else s1

/-- The seats with a pending place claim whose class is below a level (R96). -/
def pendingBelow (s : State) (level : Nat) : List Nat :=
  ((s.claims.placeWants.filter (fun w => w.cls < level)).map (·.seat)) ++
  ((s.claims.places.filter (fun c => isLiveIntent c.stage && c.cls < level)).map (·.seat))

/-- Floor Controller at a context change: the request list is cleared when the mode is no longer Queue (R95); a rise of
the floor level closes the mics below it and withdraws the pending claims below it (R96). -/
def floorAtContext (before after : Context) (s : State) : State :=
  let s1 := if before.mode = .queue && after.mode != .queue then clearRequests s else s
  if before.level < after.level then
    (pendingBelow s1 after.level).foldl (fun s' seat => withdrawSeat true seat s')
      (closeMics (fun m => m.cls < after.level) s1)
  else s1

/-- A context change: the Claim Unit, the Floor Controller, and the Desk Controller, which works its pending sources out
again (R35, R140, R143). -/
def presentContext (before after : Context) (s : State) : State :=
  workOutSources (floorAtContext before after (claimsAtContext before after s))

/-! ### Recomputation (R29) -/

/-- The new membership, head and adopted context put in place together (R29), with the floor-level copy when the head is
a peer (R34). -/
def recomposed (s : State) : State :=
  let members := membershipOf s
  let head := headOf s members
  let adopted := adoptedUnder s head
  { s with
    room := { s.room with members := members, head := head, adopted := adopted }
    floor := { s.floor with
      level := if head = s.station.number then s.floor.level else (adopted.map (·.level)).getD s.floor.level } }

/-- Presents the context change between two adopted contexts, if there is one (R35). -/
def presentContextChange (before after : Option Context) (s : State) : State :=
  match before, after with
  | some b, some a => if a = b then s else presentContext b a s
  | _, _ => s

/-- The recomputation: membership change first, context change second (R29, R30, R35). -/
def recompute (s : State) : State :=
  let s1 := recomposed s
  let s2 := if s1.room.members = s.room.members then s1 else presentMembership s.room.members s1
  presentContextChange s.room.adopted s1.room.adopted s2

/-- Station t is a member peer's number or the own one. -/
def isMember (s : State) (t : Nat) : Bool := s.room.members.contains t

end Sys2Proof.Machine
end

