-- ==== Sys2Proof/Machine/RoomCommands.lean ====
section
/-! DEFINITION. Room commands: the queue, the work at the own slot, the command test and what each command does
(chapter 6). -/

namespace Sys2Proof.Machine

/-! ### What each command does (R84, R106, R107, R108) -/

/-- The own seats of class 0..1 with a place want or a place Intent (R106). -/
def mutedSeats (s : State) : List Nat :=
  ((s.claims.placeWants.filter (fun w => counted w.cls)).map (·.seat)) ++
  ((s.claims.places.filter (fun c => isIntent c.stage && counted c.cls)).map (·.seat))

/-- PriorityMute (R106). -/
def actPriorityMute (s : State) : State :=
  let s1 := closeMics (fun m => counted m.cls) s
  let s2 := (mutedSeats s1).foldl (fun s' seat => withdrawSeat false seat s') s1
  if (context s).clearOnMute then clearRequests s2 else s2

/-- Normal place wants of an origin for the own entries among the first n of the room ranking (R83, R84). -/
def wantRanked (n : Nat) (origin : Origin) (s : State) : State :=
  (((roomRanking s).take n).filter (fun r => r.station == s.station.number)).foldl
    (fun s' r => filePlaceWant ⟨r.seat, r.cls, none, origin⟩ s') s

/-- GrantNext(c); an argument of 0 is treated as 6 (R84, R107). -/
def actGrantNext (c : Nat) (s : State) : State := wantRanked (if c = 0 then 6 else c) .grantNext s

/-- CancelAll (R107). -/
def actCancelAll (s : State) : State := clearRequests s

/-- SetFloorLevel(v): the head writes its stored floor level, and a change is recomputed; an argument above 3 is not
applied (R72, R108). -/
def actSetFloorLevel (v : Nat) (s : State) : State :=
  if s.room.head = s.station.number && v ≤ 3 && s.floor.level != v then
    recompute { s with floor := { s.floor with level := v } }
  else s

/-- The station acts on a room command (section 6.5). -/
def actOn (c : RoomCommand) (s : State) : State :=
  match c.kind with
  | .priorityMute => actPriorityMute s
  | .grantNext => actGrantNext c.argument s
  | .cancelAll => actCancelAll s
  | .setFloorLevel => actSetFloorLevel c.argument s

/-! ### Queue (R99, R101, R102) -/

/-- A command is appended at the tail (R99). -/
def enqueue (c : RoomCommand) (s : State) : State := { s with room := { s.room with queue := s.room.queue ++ [c] } }

/-- A chair request: appended, or refused with RequestRefused when the queue holds 4 entries (R101). -/
def chairRequest (c : RoomCommand) (s : State) : State :=
  if s.room.queue.length ≥ Config.queueEntries then raise .requestRefused s else enqueue c s

/-- The front entry becomes current with the next sequence number and repeat count 1, and is acted on (R99, R102,
R105). -/
def makeCurrent (c : RoomCommand) (s : State) : State :=
  let n := (s.room.counter + 1) % 16
  actOn c { s with room := { s.room with counter := n, current := some ⟨n, 1⟩ } }

/-- The room command work of an own slot (R102). -/
def roomCommandWork (s : State) : State :=
  match s.station.state with
  | .running | .isolated =>
    match s.room.current with
    | some c => { s with room := { s.room with current := some { c with repeats := c.repeats + 1 } } }
    | none =>
      match s.room.queue with
      | [] => s
      | c :: _ => makeCurrent c s
  | .joining | .unconfigured => s

/-- The current command is removed from the front of the queue. -/
def removeCurrent (s : State) : State :=
  match s.room.current with
  | some _ => { s with room := { s.room with queue := s.room.queue.tail, current := none } }
  | none => s

/-- After the composition at which the repeat count is 3, the current command is removed (R102). -/
def retireCommand (s : State) : State :=
  match s.room.current with
  | some c => if c.repeats ≥ Config.commandRepeats then removeCurrent s else s
  | none => s

/-! ### Command test (R103) -/

/-- The station acts on the command announced by t (R103). -/
def testsCommand (s : State) (t : Nat) (a : Announcement) : Bool :=
  s.station.state == .running && isMember s t && s.room.lastSeen.getD t none != some a.sequence

/-- The command test of an arrival from t; t's last-seen sequence then takes the announced number (R103). -/
def commandTest (t : Nat) (a : Announcement) (s : State) : State :=
  let s1 := match a.command with
    | some c => if testsCommand s t a then actOn c s else s
    | none => s
  { s1 with room := { s1.room with lastSeen := s1.room.lastSeen.set t (some a.sequence) } }

end Sys2Proof.Machine
end

