-- ==== Sys2Proof/Machine/ClaimUnit.lean ====
section
/-! DEFINITION. The Claim Unit at the own slot: withdraw, settle, lane holder conflict and raise steps (chapter 3). -/

namespace Sys2Proof.Machine

/-! ### Withdraw step (R42) -/

/-- An Intent with its withdrawal mark set. -/
def isMarked (st : Stage) : Bool := st == .intent true

/-- A place Intent is removed and its uplink channel freed (R42, R49). -/
def dropPlaceIntent (c : PlaceClaim) (s : State) : State :=
  setUplink c.uplink none { s with claims := { s.claims with
    places := s.claims.places.filter (fun x => !(x.seat == c.seat && isIntent x.stage)) } }

/-- A language Intent is removed from the claim table. -/
def dropLanguageIntent (c : LanguageClaim) (s : State) : State :=
  { s with claims := { s.claims with
    languages := s.claims.languages.filter (fun x => !(x.desk == c.desk && isIntent x.stage)) } }

/-- A lane Intent is removed with its holding (R149). -/
def dropLaneIntent (c : LaneClaim) (s : State) : State :=
  dropHolding c.lane { s with claims := { s.claims with
    lanes := s.claims.lanes.filter (fun x => !(x.lane == c.lane && isIntent x.stage)) } }

/-- Withdrawn is handed over for a language Intent (R42, R130). -/
def withdrawLanguage (c : LanguageClaim) (s : State) : State := deskWithdrawn c.desk (dropLanguageIntent c s)

/-- The withdraw step. `marked` are the lanes whose release mark was set before the own slot (R42, R151). -/
def withdrawStep (marked : List Nat) (s : State) : State :=
  let s1 := releaseLanes marked s
  let s2 := (s1.claims.places.filter (fun c => isMarked c.stage)).foldl (fun s' c => dropPlaceIntent c s') s1
  let s3 := (s2.claims.languages.filter (fun c => isMarked c.stage)).foldl (fun s' c => withdrawLanguage c s') s2
  (s3.claims.lanes.filter (fun c => isMarked c.stage || (isIntent c.stage && !hasDemand s3 c.language))).foldl
    (fun s' c => dropLaneIntent c s') s3

/-! ### Settle step (R44 to R49) -/

/-- A Normal place intent wins: class 2 or 3 always; else when counted holders and higher-keyed counted intents are
fewer than the speaker limit (R44). -/
def normalPlaceWins (s : State) (c : PlaceClaim) : Bool :=
  !counted c.cls || countedHolders s +
    ((countedIntents s).filter (fun k => placeHigher k (ownKey s c.cls c.seat))).length < (context s).speakerLimit

/-- Keys of the Override place intents of the view that name mic n (R45). -/
def overrideKeys (s : State) (n : Named) : List PlaceKey :=
  (s.claims.places.filter (fun c => isIntent c.stage && c.displaced == some n)).map (fun c => ownKey s c.cls c.seat) ++
  (memberPeers s).flatMap (fun p =>
    (p.2.content.mics.filter (fun m => m.phase == .intent && m.displaced == some n)).map (fun m => ⟨m.cls, p.1, m.seat⟩))

/-- An Override place intent naming mic n wins (R45). -/
def overrideWins (s : State) (c : PlaceClaim) (n : Named) : Bool :=
  match (roomMics s).find? (fun m => m.station == n.station && m.seat == n.item) with
  | none => false
  | some target =>
    !(overrideKeys s n).any (fun k => placeHigher k (ownKey s c.cls c.seat)) &&
    !(roomMics s).any (fun m => m.displaced == some n && m.age < target.age)

/-- A place intent wins at settlement (R44, R45). -/
def placeWins (s : State) (c : PlaceClaim) : Bool :=
  match c.displaced with
  | none => normalPlaceWins s c
  | some n => overrideWins s c n

/-- A place intent is settled (R49). -/
def settlePlace (s : State) (c : PlaceClaim) : State :=
  if placeWins s c then
    placeWon c { s with claims := { s.claims with
      places := s.claims.places.map (fun x => if x.seat == c.seat then { x with stage := .hold } else x) } }
  else placeRefused c.origin c.seat (dropPlaceIntent c s)

/-- Key of an own language claim. -/
def ownDeskKey (s : State) (desk : Nat) : Named := ⟨s.station.number, desk⟩

/-- Keys of the language intents of the view for language l (R46). -/
def languageKeys (s : State) (l : Nat) : List Named :=
  (s.claims.languages.filter (fun c => isIntent c.stage && c.language == l)).map (fun c => ownDeskKey s c.desk) ++
  (memberPeers s).flatMap (fun p =>
    (p.2.content.desks.filter (fun d => d.state == .intent && d.output == l)).map (fun d => ⟨p.1, d.desk⟩))

/-- Keys of the Takeover intents of the view that name desk n (R47). -/
def takeoverKeys (s : State) (n : Named) : List Named :=
  (s.claims.languages.filter (fun c => isIntent c.stage && c.displaced == some n)).map (fun c => ownDeskKey s c.desk) ++
  (memberPeers s).flatMap (fun p =>
    (p.2.content.desks.filter (fun d => d.state == .intent && d.displaced == some n)).map (fun d => ⟨p.1, d.desk⟩))

/-- A language intent wins at settlement (R46, R47). A Takeover does not test for other OnAir holders of its language. -/
def languageWins (s : State) (c : LanguageClaim) : Bool :=
  match c.displaced with
  | none => !hasHolder s c.language && !(languageKeys s c.language).any (fun k => deskHigher k (ownDeskKey s c.desk))
  | some n => (holders s c.language).any (fun h => h.station == n.station && h.desk == n.item) &&
      !(takeoverKeys s n).any (fun k => deskHigher k (ownDeskKey s c.desk))

/-- A language intent is settled (R49). -/
def settleLanguage (s : State) (c : LanguageClaim) : State :=
  if languageWins s c then
    deskWon c.desk c.language c.displaced { s with claims := { s.claims with
      languages := s.claims.languages.map (fun x => if x.desk == c.desk then { x with stage := .hold } else x) } }
  else deskLost c.desk (dropLanguageIntent c s)

/-- A lane intent wins at settlement: no Running peer announces the lane Held, and none with a lower number announces it
as Intent (R48). -/
def laneWins (s : State) (c : LaneClaim) : Bool :=
  !(runningPeers s).any (fun p => p.2.content.lanes.any (fun x =>
    x.lane == c.lane && (x.held || p.1 < s.station.number)))

/-- A lane intent is settled (R49). -/
def settleLane (s : State) (c : LaneClaim) : State :=
  if laneWins s c then
    laneWon c.lane { s with claims := { s.claims with
      lanes := s.claims.lanes.map (fun x => if x.lane == c.lane then { x with stage := .hold } else x) } }
  else dropLaneIntent c s

/-- The settle step: places in descending key, languages in ascending desk order, lanes in ascending lane order
(section 3.5). -/
def settleStep (s : State) : State :=
  let s1 := (sortBy (fun a b => placeHigher (ownKey s a.cls a.seat) (ownKey s b.cls b.seat))
    (s.claims.places.filter (fun c => isIntent c.stage))).foldl settlePlace s
  let s2 := (sortBy (fun a b => a.desk < b.desk)
    (s1.claims.languages.filter (fun c => isIntent c.stage))).foldl settleLanguage s1
  (sortBy (fun a b => a.lane < b.lane) (s2.claims.lanes.filter (fun c => isIntent c.stage))).foldl settleLane s2

/-! ### Lane holder conflict step (R50) -/

/-- The own lane n with hold age `age` is kept against every Running peer that announces it Held (R50). -/
def keepsLane (s : State) (n age : Nat) : Bool :=
  (runningPeers s).all (fun p => p.2.content.lanes.all (fun x =>
    !(x.lane == n && x.held) || keepsAgainst s.station.number age p.1 (estimate x.age p.2.since)))

/-- A lane that is not kept: the Hold entry is removed, and the Lane Manager removes the holding (R50, R149). -/
def loseLane (n : Nat) (s : State) : State := dropHolding n (endLaneHold n s)

/-- The lane holder conflict step (R50). -/
def laneConflictStep (s : State) : State :=
  (s.lanes.holdings.filter (fun h => h.held && !keepsLane s h.lane h.age)).foldl (fun s' h => loseLane h.lane s') s

/-! ### Raise step (R51, R52, R53, R83) -/

/-- The auto-advance wants of this raise step (R83). -/
def deriveAutoAdvance (s : State) : State :=
  if (context s).mode = .queue && (context s).autoAdvance then wantRanked (freePlaces s) .autoAdvance s else s

/-- A place want is raised on uplink channel ch (R51). -/
def raisePlaceOn (ch : Nat) (w : PlaceWant) (s : State) : State :=
  setUplink ch (some w.seat) { s with claims := { s.claims with
    places := s.claims.places ++ [⟨.intent false, w.seat, w.cls, w.displaced, ch, w.origin⟩] } }

/-- A place want is raised or dropped with the first reason that applies (R51). -/
def raisePlace (s : State) (w : PlaceWant) : State :=
  if s.claims.places.any (fun c => c.seat == w.seat) || (micOf s w.seat).isSome then s
  else match freeUplink s with
    | none => placeRefused w.origin w.seat s
    | some ch =>
      if w.displaced.isNone && counted w.cls && freePlaces s == 0 then placeRefused w.origin w.seat s
      else raisePlaceOn ch w s

/-- A language want is raised or dropped (R52, R130). -/
def raiseLanguage (s : State) (w : LanguageWant) : State :=
  if s.claims.languages.any (fun c => c.desk == w.desk) then s
  else if w.displaced.isNone && hasHolder s w.language then engageDesk w.desk s
  else deskRaised w.desk { s with claims := { s.claims with
    languages := s.claims.languages ++ [⟨.intent false, w.desk, w.language, w.displaced⟩] } }

/-- The demanded languages that have no holding, ascending (R146, R148). -/
def unmetLanguages (s : State) : List Nat :=
  (List.range' 1 31).filter (fun l => hasDemand s l && !s.lanes.holdings.any (fun h => h.language == l))

/-- The search for a language: the lowest free lane is wanted and raised, or the language is short (R53, R148). -/
def raiseLane (s : State) (l : Nat) : State :=
  match lowestFreeLane s with
  | some n => laneRaised n l { s with claims := { s.claims with lanes := s.claims.lanes ++ [⟨.intent false, n, l⟩] } }
  | none => laneShort l s

/-- The place wants of the list are taken in descending static key, each leaving the list (R38, R51). -/
def raisePlaces (s : State) : State :=
  (sortBy (fun a b => placeHigher (ownKey s a.cls a.seat) (ownKey s b.cls b.seat)) s.claims.placeWants).foldl raisePlace
    { s with claims := { s.claims with placeWants := [] } }

/-- The language wants of the list are taken in ascending desk order (R52). -/
def raiseLanguages (s : State) : State :=
  (sortBy (fun a b => a.desk < b.desk) s.claims.languageWants).foldl raiseLanguage
    { s with claims := { s.claims with languageWants := [] } }

/-- The raise step while Running or Isolated (section 3.7). -/
def raiseStep (s : State) : State :=
  let s1 := raiseLanguages (raisePlaces (deriveAutoAdvance s))
  (unmetLanguages s1).foldl raiseLane s1

/-- The raise step while Joining: every want is handed back as Dropped with NotRunning (R41). -/
def dropWants (s : State) : State :=
  let s1 := s.claims.placeWants.foldl (fun s' w => placeRefused w.origin w.seat s') s
  let s2 := s.claims.languageWants.foldl (fun s' w => engageDesk w.desk s') s1
  { s2 with claims := { s2.claims with placeWants := [], languageWants := [] } }

/-- The Claim Unit's work at the own slot (R41). `marked` as in the withdraw step. -/
def claimWork (marked : List Nat) (s : State) : State :=
  match s.station.state with
  | .running | .isolated => raiseStep (laneConflictStep (settleStep (withdrawStep marked s)))
  | .joining => dropWants s
  | .unconfigured => s

end Sys2Proof.Machine
end

