-- ==== Sys2Proof/Machine/SeatSelection.lean ====
section
/-! DEFINITION. The Seat Channel Allocator (chapter 10). -/

namespace Sys2Proof.Machine

/-- The assignment of address a (R156). -/
def assignmentOf (s : State) (a : Nat) : Option Nat := if a = 0 then none else s.seats.assigned.getD (a - 1) none

/-- Sets the assignment of address a. -/
def assign (a : Nat) (channel : Option Nat) (s : State) : State :=
  if a = 0 then s else { s with seats := { s.seats with assigned := s.seats.assigned.set (a - 1) channel } }

/-- Sets the table entry of a channel. -/
def setChannel (c : Nat) (d : Option Downlink) (s : State) : State :=
  { s with seats := { s.seats with channels := s.seats.channels.set c d } }

/-- The table entry of a channel. -/
def channelOf (s : State) (c : Nat) : Option Downlink := s.seats.channels.getD c none

/-- The Allocated channel of 1..7 that carries language l. -/
def channelFor (s : State) (l : Nat) : Option Nat :=
  (List.range' 1 7).find? (fun c => (channelOf s c).any (fun d => d.language == l))

/-- The lowest-numbered Free channel of 1..7 (R157). -/
def freeChannel (s : State) : Option Nat := (List.range' 1 7).find? (fun c => (channelOf s c).isNone)

/-- A unit without an assignment is assigned selection sel (R157). -/
def assignSelection (a sel : Nat) (s : State) : State :=
  if sel = 0 then assign a (some 0) s
  else match channelFor s sel with
    | some c => assign a (some c)
        (setChannel c ((channelOf s c).map (fun d => { d with count := d.count + 1 })) s)
    | none =>
      match freeChannel s with
      | some c => assign a (some c) (setChannel c (some ⟨sel, 1⟩) s)
      | none => raise .seatChannelShortage (assign a (some 0)
          { s with seats := { s.seats with deferred := s.seats.deferred ++ [a] } })

/-- The selection stored for a unit. -/
def selectionOf (s : State) (a : Nat) : Nat := (unitOf s a).selection

/-- A freed channel c goes to the language of the head of the deferred list, with every waiting unit of that language;
with an empty list it stays Free (R160). `waits` gives the selection each unit of the list waits for. -/
def grantFreed (c : Nat) (waits : Nat → Nat) (s : State) : State :=
  match s.seats.deferred with
  | [] => setChannel c none s
  | a :: _ =>
    let units := s.seats.deferred.filter (fun x => waits x == waits a)
    units.foldl (fun s' x => assign x (some c) s')
      (setChannel c (some ⟨waits a, units.length⟩)
        { s with seats := { s.seats with deferred := s.seats.deferred.filter (fun x => waits x != waits a) } })

/-- A unit leaves its assignment, and a channel this frees is handed to the deferred list (R159, R160). -/
def leaveAssignment (a : Nat) (waits : Nat → Nat) (s : State) : State :=
  let s1 := assign a none s
  match assignmentOf s a with
  | none => s1
  | some 0 => { s1 with seats := { s1.seats with deferred := s1.seats.deferred.filter (fun x => x != a) } }
  | some c =>
    match channelOf s c with
    | none => s1
    | some d => if d.count ≤ 1 then grantFreed c waits s1 else setChannel c (some { d with count := d.count - 1 }) s1

/-- A selection hand-over: the unit leaves, a freed channel goes to the deferred list, the unit is assigned anew (R158). -/
def handOverSelection (a sel : Nat) (s : State) : State := assignSelection a sel (leaveAssignment a (selectionOf s) s)

/-- The unit goes Absent: it leaves and gets no new assignment (R159). -/
def dropSelection (a : Nat) (s : State) : State := leaveAssignment a (selectionOf s) s

end Sys2Proof.Machine
end

