-- ==== Sys2Proof/Machine/DelegateLine.lean ====
section
/-! DEFINITION. The Delegate Line Controller: polls, window closes, presence and key events (chapter 4). -/

namespace Sys2Proof.Machine

/-! ### Polls (R56, R57, R66) -/

/-- The seat has a place want or a place Intent in the Claim Unit (R66). -/
def hasPlaceClaim (s : State) (seat : Nat) : Bool :=
  s.claims.placeWants.any (fun w => w.seat == seat) ||
  s.claims.places.any (fun c => c.seat == seat && isIntent c.stage)

/-- The lamp of a seat (R66). -/
def unitLamp (s : State) (seat : Nat) : Lamp :=
  if (unitOf s seat).fullTimer > 0 then .full
  else if (micOf s seat).any (inWarning s) then .warning
  else if (micOf s seat).any (fun m => sounding m.phase) then .opened
  else if (requestOf s seat).isSome || hasPlaceClaim s seat then .request
  else .off

/-- The poll to address a, composed from the tables as they stand (R57, R68, R162). -/
def pollFor (s : State) (a : Nat) : Poll where
  address := a
  ack := (unitOf s a).ack
  lamp := unitLamp s a
  unavailable := s.seats.deferred.contains a
  downlink := (assignmentOf s a).getD 0
  uplink := (micOf s a).map (·.uplink)
  mute := (micOf s a).isSome

/-- A poll is sent to the unit the pointer names, and the pointer advances from the seat count back to 1 (R56). The entry
keeps the lamp (R57). The window in progress has closed. -/
def sendPoll (s : State) : State :=
  let a := s.dlc.pointer
  let p := pollFor s a
  let s1 := modifyUnit a (fun u => { u with lamp := p.lamp }) s
  { s1 with dlc := { s1.dlc with
    pollOut := some p
    pointer := if a ≥ seatCount s then 1 else a + 1
    dueWindow := s1.dlc.window
    window := some a } }

/-- A poll frame (R56). -/
def isPollFrame (f : Nat) : Bool := f == 0 || f == 24 || f == 48 || f == 72

/-- The poll at the start of a frame: sent at frames 0, 24, 48 and 72 while the station is configured (R56). -/
def pollAt (f : Nat) (s : State) : State :=
  if s.station.state != .unconfigured && isPollFrame f then sendPoll s else s

/-! ### Key events (R63) -/

/-- The keys of an accepted report are dispatched in the order Mic, Cancel, Priority, Next (R63). -/
def dispatchKeys (a : Nat) (k : Keys) (s : State) : State :=
  let s1 := if k.mic then micPress a s else s
  let s2 := if k.cancel then cancelSeat a s1 else s1
  let s3 := if k.priority && seatClass s a == 3 then chairRequest ⟨.priorityMute, 0⟩ s2 else s2
  if k.next && 2 ≤ seatClass s a then chairRequest ⟨.grantNext, 1⟩ s3 else s3

/-! ### Window closes (R59 to R62) -/

/-- The tag is stored and, where it changes, handed to the Floor Controller (R62). -/
def takeTag (a tag : Nat) (s : State) : State :=
  if (unitOf s a).tag = some tag then s
  else tagChanged a tag (modifyUnit a (fun u => { u with tag := some tag }) s)

/-- The selection is stored and handed over where it differs or the entry became Present (R62). The hand-over sees the
selections of the other units as they stand. -/
def takeSelection (a sel : Nat) (fresh : Bool) (s : State) : State :=
  if fresh || (unitOf s a).selection != sel then
    modifyUnit a (fun u => { u with selection := sel }) (handOverSelection a sel s)
  else s

/-- A good reply at address a: counts and presence (R60), then flag, selection, tag and key report in order (R62). -/
def goodReply (a : Nat) (c : ReplyClass) (r : UnitContent) (s : State) : State :=
  let fresh := !(unitOf s a).present
  let s1 := raiseIf fresh .unitChanged (modifyUnit a (fun u =>
    { u with miss := 0, noise := noiseAfter c u.noise, present := true, ack := !u.ack }) s)
  let s2 := takeTag a r.tag (takeSelection a r.selection fresh s1)
  dispatchKeys a r.keys (modifyUnit a (fun u => { u with keys := r.keys }) s2)

/-- The unit at address a goes Absent: UnitChanged, Full timer and report cleared, then the loss to the Claim Unit, the
Floor Controller and the Seat Channel Allocator in this order (R61). -/
def loseUnit (a : Nat) (s : State) : State :=
  let s1 := raise .unitChanged (modifyUnit a (fun u =>
    { u with present := false, miss := Config.missLimit, fullTimer := 0, keys := Keys.empty }) s)
  dropSelection a (closeSeatMic a (removeRequest a (withdrawSeat true a s1)))

/-- A Malformed or Missing reply at address a (R60). -/
def badReply (a : Nat) (s : State) : State :=
  if !(unitOf s a).present then s
  else if (unitOf s a).miss + 1 ≥ Config.missLimit then loseUnit a s
  else modifyUnit a (fun u => { u with miss := u.miss + 1 }) s

/-- The window of address a closes on what arrived (R59, R60). -/
def closeWindow (a : Nat) (reply : Option UnitReply) (s : State) : State :=
  match classifyUnit a reply, reply.map unitContent with
  | .clean, some r => goodReply a .clean r s
  | .noisy, some r => goodReply a .noisy r s
  | _, _ => badReply a s

/-- The address of the window that closes: the one that closed at the latest poll and is still to be classified, or the
one in progress. In a poll frame the window in progress has only just opened, and does not close (R56). -/
def closingWindow (s : State) : Option Nat :=
  match s.dlc.dueWindow with
  | some a => some a
  | none => if isPollFrame s.lif.frame then none else s.dlc.window

/-- The window that closes is taken off. -/
def takeWindow (s : State) : State :=
  match s.dlc.dueWindow with
  | some _ => { s with dlc := { s.dlc with dueWindow := none } }
  | none => { s with dlc := { s.dlc with window := none } }

/-- A poll window closes: its reply is classified and taken (R59). Without a window nothing is classified. -/
def pollWindowCloseOp (reply : Option UnitReply) (s : State) : State :=
  match closingWindow s with
  | some a => closeWindow a reply (takeWindow s)
  | none => s

/-- The window of address a closes without a good reply for the third consecutive time (R61); where that is not so
nothing comes about (log entry 5). -/
def unitAbsentOp (a : Nat) (s : State) : State :=
  if (unitOf s a).present && (unitOf s a).miss + 1 ≥ Config.missLimit then
    loseUnit a (if closingWindow s = some a then takeWindow s else s)
  else s

/-! ### The switch point and the frame (R65, R67) -/

/-- Every Full timer above 0 decreases by 1 (R67). -/
def advanceFull (s : State) : State :=
  { s with dlc := { s.dlc with units := s.dlc.units.map (fun u => { u with fullTimer := u.fullTimer - 1 }) } }

/-- The sample delivered for an uplink channel: its slot's, if the slot carried the bound seat's address and every bit
agreed; otherwise 0 (R65). -/
def uplinkSample (bound : Option Nat) (slot : Option UplinkSlot) : Sample :=
  match bound, slot with
  | some seat, some u =>
    if (fieldValue u.address).toNat = seat && agreed u.address && agreed u.sample then fieldValue u.sample else 0
  | _, _ => 0

/-- The six samples delivered to the Mix Engine (R65). -/
def deliverUplinks (slots : List (Option UplinkSlot)) (s : State) : List Sample :=
  s.dlc.uplinks.zipIdx.map (fun (bound, i) => uplinkSample bound (slots.getD i none))

/-! ### The meanings -/

/-- POLL_WINDOW_CLOSE (R59). -/
def execPollWindowClose (reply : Option UnitReply) (s : State) : Host.Outcome State Fault Refusal :=
  .next (if s.station.inReset then s else pollWindowCloseOp reply s)

/-- UNIT_ABSENT (R61). -/
def execUnitAbsent (address : Nat) (s : State) : Host.Outcome State Fault Refusal :=
  .next (if s.station.inReset then s else unitAbsentOp address s)

end Sys2Proof.Machine
end

