-- ==== Sys2Proof/Machine/Mixing.lean ====
section
/-! DEFINITION. The Mix Engine: arithmetic, the switch-point plan and the frame computation (chapter 7). -/

namespace Sys2Proof.Machine

/-! ### Round and Sat (R110) -/

/-- Round of a product of a sample and a Q1.15 value: the greatest integer not above (z + 16384) / 32768 (R110). -/
def roundQ15 (z : Int) : Int := (z + 16384) / 32768

/-- Sat: clamps to the range of a sample (R110). -/
def sat (z : Int) : Int := max (-8388608) (min 8388607 z)

/-- A value within the range of a sample, as a sample. -/
def toSample (z : Int) : Sample := BitVec.ofInt 24 z

/-! ### The stages (R113, R114, R116, R117, R120) -/

/-- Gain stage: p = Round(x × g), not saturated (R113). -/
def gainStage (x : Sample) (g : Nat) : Int := roundQ15 (x.toInt * g)

/-- Fade stage: q is the greatest integer not above p × k / 8 (R113). -/
def fadeStage (p : Int) (k : Nat) : Int := p * k / 8

/-- The contribution of an own mic of the plan (R113). -/
def micValue (uplinks : List Sample) (m : PlanMic) : Int :=
  fadeStage (gainStage (uplinks.getD m.uplink 0) m.gain) m.step

/-- The partial: the sum over the own mics of the plan, saturated once (R114). -/
def partialOf (uplinks : List Sample) (mics : List PlanMic) : Int := sat ((mics.map (micValue uplinks)).sum)

/-- NOM factor of n open mics (Table 7-3). -/
def nomFactor (n : Nat) : Nat :=
  match n with
  | 0 | 1 => 32768
  | 2 => 23170
  | 3 => 18919
  | 4 => 16384
  | 5 => 14654
  | 6 => 13378
  | 7 => 12385
  | _ => 11585

/-- The floor sum over the latched members: the own partial of the frame before for the station itself, the lane of
each other member (R117). -/
def floorSum (own : Nat) (ownPartial : Sample) (lanes : List Sample) (members : List Nat) : Int :=
  (members.map (fun t => if t = own then ownPartial.toInt else (lanes.getD t 0).toInt)).sum

/-- The attenuated floor before saturation (R117). -/
def floorRaw (s : State) : Int :=
  roundQ15 (floorSum s.station.number s.mix.ownPartial s.lif.lanesIn s.mix.plan.members * s.mix.plan.factor)

/-- The floor sample y (R117). -/
def floorSample (s : State) : Int := sat (floorRaw s)

/-- Sat changes the value of the attenuated floor: a clamp (R118). -/
def floorClamped (s : State) : Bool := floorRaw s != floorSample s

/-- The microphone of the producing desk of language l, or 0 without one (R120). -/
def producerSample (s : State) (l : Nat) : Int :=
  match s.mix.plan.producers.find? (fun p => p.language == l) with
  | some p => (s.booth.micIn.getD p.desk 0).toInt
  | none => 0

/-- The language sample of l (R120): Sat of the desk microphone plus the floor-under part. -/
def languageSample (s : State) (l : Nat) : Int :=
  sat (producerSample s l + roundQ15 (floorSample s * (context s).floorUnder))

/-- The listener source of language l in a plan, floor fallback where it names none (R141). -/
def plannedSource (p : Plan) (l : Nat) : Listener :=
  match p.listeners.find? (fun x => x.language == l) with
  | some x => x.source
  | none => .floor

/-- The sample of the listener source of language l, as latched in the plan (R121). -/
def listenerSample (s : State) (l : Nat) : Int :=
  match plannedSource s.mix.plan l with
  | .ownDesk _ => languageSample s l
  | .lane n => (s.lif.lanesIn.getD n 0).toInt
  | .floor => floorSample s

/-- What a listener takes in the frame in progress: `feed`, the sample of its source as latched in the plan (R121). In output
frame 0, where it stops using lane n there, R153 gives it the lane's last sample in its place, the one that the holder wrote
last in frame 95; which of the two values of that one sample it puts out is free (log entry 24). -/
def listenerTakes (s : State) (left : Option Nat) (feed : Int) : Int :=
  match left with
  | some n => if s.lif.frame = 0 && Config.lastLaneSampleHeard then (s.lif.lanesIn.getD n 0).toInt else feed
  | none => feed

/-- Downlink channel c (R121, R153). -/
def downlinkSample (s : State) (c : Nat) : Int :=
  if c = 0 then floorSample s
  else match s.mix.plan.channels.getD c none with
    | some l => listenerTakes s (s.mix.plan.channelsLeave.getD c none) (listenerSample s l)
    | none => 0

/-- The headphone of desk e (R121, R153). -/
def headphoneSample (s : State) (e : Nat) : Int :=
  match s.mix.plan.headphones.getD e .floor with
  | .floor => floorSample s
  | .language l => listenerTakes s (s.mix.plan.headphonesLeave.getD e none) (listenerSample s l)

/-- The partial of the frame in progress (R114). -/
def ownPartialNow (s : State) : Int := partialOf s.dlc.uplinkIn s.mix.plan.mics

/-! ### The frame computation (R111, R118) -/

/-- The outputs of a frame while nothing is computed: every output carries 0 (R111, R122). -/
def silence (s : State) : State :=
  { s with mix := { s.mix with
    ownPartial := 0, paOut := 0, downlinkOut := List.replicate 8 0, headphoneOut := List.replicate 4 0 } }

/-- The frame computation: the output feeds, the own partial for the next frame, and the clip counter and Clip flag at
a floor clamp (R111, R118, R121). -/
def computeFrame (s : State) : State :=
  raiseIf (floorClamped s) .clip { s with mix := { s.mix with
    ownPartial := toSample (ownPartialNow s)
    paOut := toSample (floorSample s)
    downlinkOut := (List.range 8).map (fun c => toSample (downlinkSample s c))
    headphoneOut := (List.range 4).map (fun e => toSample (headphoneSample s e))
    clip := if floorClamped s then satInc 65535 s.mix.clip else s.mix.clip } }

/-- What the station substitutes in lane n of the frame in progress: a sample that a pin reset has fixed, its own partial,
or a language sample; none in a lane it does not own (R2, R7). -/
def substituted (s : State) (n : Nat) : Option Sample :=
  match s.lif.latch.fixed.find? (fun x => x.lane == n) with
  | some x => some x.sample
  | none =>
    if s.lif.latch.ownLane && n == s.station.number then some (toSample (ownPartialNow s))
    else (s.lif.latch.lanes.find? (fun u => u.lane == n)).map (fun u => toSample (languageSample s u.language))

/-- What stands in lane n of the frame put out: what the station substitutes, or the received sample (R2). -/
def laneOut (s : State) (received : List Sample) (n : Nat) : Sample := (substituted s n).getD (received.getD n 0)

/-- The lanes substituted in the frame in progress, with their samples as they stand (R7, R165). -/
def fixedLanes (s : State) : List LaneSample :=
  (List.range 64).filterMap (fun n => (substituted s n).map (fun x => ⟨n, x⟩))

/-- The 64 lanes put out (R2). -/
def lanesOut (s : State) (received : List Sample) : List Sample := (List.range 64).map (laneOut s received)

/-! ### The plan (R112, R115, R116) -/

/-- n: for each member peer its announced mics in phase Opening, Open or Closing; for the station the own announced
count while Running, else its open-mic entries (R115). -/
def openMicCount (s : State) : Nat :=
  ((memberPeers s).map (fun p => (p.2.content.mics.filter (fun m => m.phase != .intent)).length)).sum +
  (if s.station.state = .running then s.mix.announced else s.floor.mics.length)

/-- The language a headphone source names. -/
def sourceLanguage : Source → Option Nat
  | .language l => some l
  | .floor => none

/-- The languages named by a downlink channel or a desk headphone. -/
def listenedLanguages (s : State) : List Nat :=
  ((s.seats.channels.filterMap (fun c => c.map (·.language))) ++
   (s.booth.desks.filterMap (fun d => sourceLanguage d.source))).foldr insertNat []

/-- The lane that a listener stops using at this switch point. `was` and `now` are the language it has in the plan so far
and the one it has from here on. It stops where both are one language, the plan so far names the lane for it, an
announcement without the lane has arrived, and the source from here on is another, whichever it is (R153, log entry 24). -/
def laneLeft (s : State) (was now : Option Nat) : Option Nat :=
  match now with
  | none => none
  | some l =>
    match plannedSource s.mix.plan l with
    | .lane n => if was = some l && s.booth.left.contains ⟨n, l⟩ && listenerOf s l != .lane n then some n else none
    | .ownDesk _ | .floor => none

/-- The lanes that the listeners on the downlink channels stop using (R153). -/
def channelsLeft (s : State) : List (Option Nat) :=
  s.seats.channels.zipIdx.map (fun (d, c) => laneLeft s (s.mix.plan.channels.getD c none) (d.map (·.language)))

/-- The lanes that the headphones stop using (R153). -/
def headphonesLeft (s : State) : List (Option Nat) :=
  s.booth.desks.zipIdx.map (fun (d, e) =>
    laneLeft s (sourceLanguage (s.mix.plan.headphones.getD e .floor)) (sourceLanguage d.source))

/-- The plan as it is latched at a switch point, after the owners' switch-point rules (R112). -/
def planOf (s : State) : Plan where
  members := s.room.members
  mics := s.floor.mics.map (fun m => ⟨m.uplink, seatGain s m.seat, m.step⟩)
  openMics := openMicCount s
  factor := nomFactor (openMicCount s)
  producers := (ownHolders s).map (fun h => ⟨h.desk, h.output⟩)
  writeSet := s.lif.writeSet
  channels := s.seats.channels.map (fun c => c.map (·.language))
  headphones := s.booth.desks.map (·.source)
  listeners := (listenedLanguages s).map (fun l => ⟨l, listenerOf s l⟩)
  channelsLeave := channelsLeft s
  headphonesLeave := headphonesLeft s

/-- The plan is latched (R112). -/
def latchPlan (s : State) : State := { s with mix := { s.mix with plan := planOf s } }

/-- A listener source that names a lane becomes floor fallback (R122). -/
def withoutLane (x : Listening) : Listening :=
  match x.source with
  | .lane _ => { x with source := .floor }
  | .ownDesk _ | .floor => x

/-- The plan set at once on entering Isolated: the station alone, n from the own open-mic entries, no lane source, empty
write set (R122). -/
def isolatePlan (s : State) : State :=
  { s with mix := { s.mix with plan := { s.mix.plan with
    members := [s.station.number]
    openMics := s.floor.mics.length
    factor := nomFactor s.floor.mics.length
    writeSet := []
    listeners := s.mix.plan.listeners.map withoutLane
    channelsLeave := List.replicate 8 none
    headphonesLeave := List.replicate 4 none } } }

end Sys2Proof.Machine
end

