-- ==== Sys2Proof/Machine/Startup.lean ====
section
/-! DEFINITION. The station state machine: reset, configuration, Joining, Running, Isolated and Restart (chapter 11),
with what each block does at each start point. -/

namespace Sys2Proof.Machine

/-! ### Joining and Running (R28, R170) -/

/-- The station state changes and the Room Resolver recomputes (R28); demand follows (R146). -/
def changeState (st : StationState) (timer : Option Nat) (s : State) : State :=
  evalDemand (recompute { s with station := { s.station with state := st, joinTimer := timer } })

/-- Every entry into Joining: epoch + 1, the Joining timer at 384 frames, membership {self} (R12, R28, R170). -/
def enterJoining (s : State) : State :=
  changeState .joining (some Config.joiningFrames) { s with lif := { s.lif with epoch := (s.lif.epoch + 1) % 256 } }

/-- Expiry of the Joining timer: the station enters Running, with the membership from the gathered view (R170). -/
def enterRunning (s : State) : State := changeState .running none s

/-- The Joining timer stands at 0. -/
def timerExpired (s : State) : Bool := s.station.state == .joining && s.station.joinTimer == some 0

/-- The expiry, where the timer stands at 0. -/
def takeExpiry (s : State) : State := if timerExpired s then enterRunning s else s

/-! ### Configuration (R166 to R169) -/

/-- The neighbour of each input the record names is set; the rest of its record stays (R20). -/
def nameWalls (c : Configuration) (s : State) : State :=
  { s with walls := s.walls.zipIdx.map (fun (w, x) =>
    match c.walls.find? (fun e => e.input = x) with
    | some e => { w with neighbour := some e.neighbour }
    | none => w) }

/-- Fitted field and understood languages of each desk (R123). -/
def fitDesks (c : Configuration) (s : State) : State :=
  { s with booth := { s.booth with desks := s.booth.desks.zipIdx.map (fun (d, e) =>
    match c.desks.find? (fun x => x.desk = e) with
    | some x => { d with fitted := x.present, understood := x.languages }
    | none => { d with fitted := false, understood := [] }) } }

/-- Acceptance, with the entry into Joining as one event (R169, R170). -/
def acceptConfig (c : Configuration) (s : State) : State :=
  enterJoining (fitDesks c (nameWalls c
    { s with
      station := { s.station with config := some c, accepted := true }
      floor := { s.floor with level := 0 } }))

/-- A rejected record: the last rejection reason and ConfigRejected (R166, R167). -/
def rejectConfig (r : RejectReason) (s : State) : State :=
  raise .configRejected { s with station := { s.station with lastReject := some r } }

/-- The end of the memory read: the record is validated, then accepted or rejected (R166). -/
def memoryReadOp (record : List Byte) (s : State) : State :=
  if s.station.memoryReading then
    let s1 := { s with station := { s.station with memoryReading := false } }
    match rejection s.station.number (memoryRecord record) with
    | some r => rejectConfig r s1
    | none => acceptConfig (recordConfig (memoryRecord record)) s1
  else s

/-! ### Isolated (R55, R155, R171, R172) -/

/-- A Takeover naming a desk of another station. -/
def foreignTakeover (s : State) (d : Option Named) : Bool := d.any (fun n => n.station != s.station.number)

/-- The claims withdrawn on entering Isolated: every lane Intent, and every Takeover intent naming another station's
desk (R55). -/
def isolateClaims (s : State) : State :=
  let s1 := (s.claims.lanes.filter (fun c => isIntent c.stage)).foldl (fun s' c => dropLaneIntent c s') s
  (s1.claims.languages.filter (fun c => isIntent c.stage && foreignTakeover s c.displaced)).foldl
    (fun s' c => withdrawLanguage c s') s1

/-- Link Interface and Peer Table on entering Isolated: substitution ends at the next boundary, the write set and the
Peer Table are empty (R7, R11, R15). -/
def isolateLink (s : State) : State :=
  { s with
    lif := { s.lif with writeSet := [], transmitting := false }
    peers := List.replicate 16 none }

/-- Room Resolver marks and last-seen sequences on entering Isolated (R31, R109). -/
def forgetPeers (s : State) : State :=
  { s with room := { s.room with marks := List.replicate 16 false, lastSeen := List.replicate 16 none } }

/-- The entry into Isolated (R171): link and Peer Table, Room Resolver, Claim Unit, Lane Manager, Mix Engine. -/
def enterIsolated (s : State) : State :=
  isolatePlan (releaseAllLanes (isolateClaims (forgetPeers (changeState .isolated none (isolateLink s)))))

/-- The link is at a limit: marks missing, or superframes unaligned (R10). -/
def linkBad (s : State) : Bool :=
  s.lif.markMissing ≥ Config.markLimit || s.lif.unaligned ≥ Config.unalignedLimit

/-- Joining or Running. -/
def onLink (s : State) : Bool := s.station.state == .joining || s.station.state == .running

/-- A link failure is taken: SyncLost, LinkLost or both, and Isolated (R10, R171). Without its conditions nothing comes
about (log entry 5). -/
def takeLinkFailure (s : State) : State :=
  if onLink s && linkBad s then
    enterIsolated (raiseIf (s.lif.unaligned ≥ Config.unalignedLimit) .linkLost
      (raiseIf (s.lif.markMissing ≥ Config.markLimit) .syncLost s))
  else s

/-- Every intent is withdrawn on leaving Isolated (R55). -/
def withdrawAllIntents (s : State) : State :=
  let s1 := (s.claims.places.filter (fun c => isIntent c.stage)).foldl (fun s' c => dropPlaceIntent c s') s
  let s2 := (s1.claims.languages.filter (fun c => isIntent c.stage)).foldl (fun s' c => withdrawLanguage c s') s1
  (s2.claims.lanes.filter (fun c => isIntent c.stage)).foldl (fun s' c => dropLaneIntent c s') s2

/-- The station leaves Isolated: intents withdrawn, current command removed, last-seen sequences none, Joining (R55, R109,
R172). -/
def leaveIsolated (s : State) : State := enterJoining (forgetPeers (removeCurrent (withdrawAllIntents s)))

/-- A link recovery is taken: Isolated with the good count at 4 (R10, R172). Without its conditions nothing comes about
(log entry 5). -/
def takeLinkRecovery (s : State) : State :=
  if s.station.state = .isolated && s.lif.good ≥ Config.goodLimit then leaveIsolated s else s

/-! ### Restart (R173) -/

/-- A desk after Restart: fitted and understood languages kept (R144). -/
def restartDesk (d : Desk) : Desk := { Desk.initial with fitted := d.fitted, understood := d.understood }

/-- Every table but the configuration, the walls and the link status returned to its value after Restart (R173). The
record in transmission goes on (R6); the own partial of the frame before goes with the mics (log entry 6). -/
def restartTables (s : State) : State :=
  { s with
    lif := { s.lif with composing := [], writeSet := [] }
    peers := List.replicate 16 none
    room := Room.initial s.station.number
    claims := Claims.initial
    dlc := { Dlc.initial with pollOut := s.dlc.pollOut, uplinkIn := s.dlc.uplinkIn }
    floor := Floor.initial
    booth := { Booth.initial with
      desks := s.booth.desks.map restartDesk, pollOut := s.booth.pollOut, micIn := s.booth.micIn }
    lanes := Lanes.initial
    seats := SeatChannels.initial
    mix := { s.mix with plan := Plan.initial s.station.number, announced := 0, clip := 0, ownPartial := 0 } }

/-- Restart: the tables, Joining, and then every event flag cleared (R173). -/
def restartStation (s : State) : State :=
  let s1 := enterJoining (restartTables s)
  { s1 with port := { s1.port with flags := 0 } }

/-! ### Reset (R165) -/

/-- RSTN low: every block at its power-on value. Substitution stops at the boundary of the frame in progress (R6, R7), so
that frame keeps its control bytes and its own lanes, with the samples they have (log entry 12). -/
def resetStation (s : State) : State :=
  { State.reset with
    lif := { Lif.initial with latch := { FrameLatch.bypass with control := s.lif.latch.control, fixed := fixedLanes s } }
    pending := s.pending }

/-- RSTN released: the straps are latched, the station's own number enters the tables that hold it, and with source
Memory the read begins (R165, R166). -/
def releaseReset (number : BitVec 4) (source : ConfigSource) (s : State) : State :=
  if s.station.inReset then
    { s with
      station := { s.station with
        inReset := false, number := number.toNat, source := source, memoryReading := source == .memory }
      room := Room.initial number.toNat
      mix := { s.mix with plan := Plan.initial number.toNat } }
  else s

/-! ### The meanings -/

/-- PIN_RESET (R165). -/
def execPinReset (s : State) : Host.Outcome State Fault Refusal := .next (resetStation s)

/-- RESET_RELEASE (R165). -/
def execResetRelease (number : BitVec 4) (source : ConfigSource) (s : State) : Host.Outcome State Fault Refusal :=
  .next (releaseReset number source s)

/-- CONFIG_MEMORY_READ (R166). -/
def execConfigMemoryRead (record : List Byte) (s : State) : Host.Outcome State Fault Refusal :=
  .next (if s.station.inReset then s else memoryReadOp record s)

/-- LINK_FAILURE (R171). -/
def execLinkFailure (s : State) : Host.Outcome State Fault Refusal :=
  .next (if s.station.inReset then s else takeLinkFailure s)

/-- LINK_RECOVERY (R172). -/
def execLinkRecovery (s : State) : Host.Outcome State Fault Refusal :=
  .next (if s.station.inReset then s else takeLinkRecovery s)

/-- JOINING_TIMER_EXPIRY (R170). -/
def execJoiningTimerExpiry (s : State) : Host.Outcome State Fault Refusal :=
  .next (if s.station.inReset then s else takeExpiry s)

end Sys2Proof.Machine
end

