-- ==== Sys2Proof/Machine/Link.lean ====
section
/-! DEFINITION. The Link Interface and the Peer Table: frame boundaries, house sync, switch point, own slot and slot closes
(chapter 1), with the steps of other blocks that fall at these moments. -/

namespace Sys2Proof.Machine

/-! ### Frames (R1, R2, R6) -/

/-- The frame that ends was aligned: the pattern stood at its boundary alone, and that boundary came from HLCK (R1). -/
def frameAligned (s : State) (f : FrameIn) : Bool := f.pattern && s.lif.boundary == .hlck

/-- The control field put out: the bytes substituted for it, or the received ones (R6). -/
def controlOut (s : State) (received : List Byte) : List Byte := s.lif.latch.control.getD received

/-- The frame put out on HLO: pattern, lanes and control field as received, with what the station substitutes (R2, R6,
R7). -/
def putOut (f : FrameIn) (s : State) : State :=
  { s with lif := { s.lif with
    patternOut := f.pattern, lanesOut := lanesOut s f.lanes, controlOut := controlOut s f.control } }

/-- First and last frame of the own slot. -/
def ownSlotStart (s : State) : Nat := Config.slotFrames * s.station.number

/-- At the end of frame 5s+4 of a slot in which the station transmitted, the Mix Engine takes the number of sounding
mics of the transmitted record (R115). -/
def takeAnnounced (s : State) : State :=
  if s.lif.latch.control.isSome && s.lif.frame == ownSlotStart s + 4 then
    { s with mix := { s.mix with announced := soundingInRecord s.lif.onWire } }
  else s

/-- The frames of the slot in progress after one more: a slot whose first frames are missing is discarded (section 1.2,
R3). -/
def collect (s : State) (f : FrameIn) : List (Bool × List Byte) :=
  let entry := (frameAligned s f, f.control)
  if s.lif.frame % Config.slotFrames = 0 then [entry]
  else if s.lif.slotFrames.length = s.lif.frame % Config.slotFrames then s.lif.slotFrames ++ [entry]
  else []

/-- The control field of the frame that ends joins the slot in progress; with the fifth frame the slot is whole. Frames
80..95 carry no announcement (R3). -/
def receiveControl (f : FrameIn) (s : State) : State :=
  if s.lif.frame ≥ 80 then s
  else
    let fs := collect s f
    if s.lif.frame % Config.slotFrames = 4 && fs.length = Config.slotFrames then
      { s with lif := { s.lif with closedSlot := some (s.lif.frame / Config.slotFrames, fs), slotFrames := [] } }
    else { s with lif := { s.lif with slotFrames := fs } }

/-- What the frame brought for the next frame computation: lanes (0 from an unaligned frame, R2), uplink samples (R65) and
desk samples (R119). -/
def deliver (f : FrameIn) (s : State) : State :=
  { s with
    lif := { s.lif with
      lanesIn := if frameAligned s f then f.lanes else List.replicate 64 0
      superframeAligned := s.lif.superframeAligned && frameAligned s f }
    dlc := { s.dlc with uplinkIn := deliverUplinks f.uplinks s }
    booth := { s.booth with micIn := deliverDesks f.deskMics s } }

/-- The frame counter advances, from 95 back to 0; the boundary's source is kept, and no mark has been seen at it yet
(R1, R8). -/
def advanceFrame (f : FrameIn) (s : State) : State :=
  { s with lif := { s.lif with
    frame := (s.lif.frame + 1) % Config.framesPerSuperframe
    clock := if f.hlckEdge then .hlck else .frameTimer
    boundary := if f.hlckEdge then .hlck else .frameTimer
    markSeen := false
    acquired := false } }

/-- The Joining timer decreases by 1 at each frame boundary (R170). -/
def advanceTimer (s : State) : State :=
  { s with station := { s.station with joinTimer := s.station.joinTimer.map (fun n => n - 1) } }

/-- The control bytes of the frame that begins: bytes 24i..24i+23 in frame 5s+i of a transmission (R6). -/
def controlFor (s : State) : Option (List Byte) :=
  if s.lif.transmitting && ownSlotStart s ≤ s.lif.frame && s.lif.frame ≤ ownSlotStart s + 4 then
    some ((s.lif.onWire.drop (Config.controlBytes * (s.lif.frame - ownSlotStart s))).take Config.controlBytes)
  else none

/-- What the station substitutes and computes in the frame that begins (R2, R6, R7, R111). A transmission ends with its
slot. -/
def latchFrame (s : State) : State :=
  { s with lif := { s.lif with
    latch := ⟨s.station.state != .unconfigured, onLink s, s.lif.writeSet, controlFor s, []⟩
    transmitting := (controlFor s).isSome } }

/-- The frame in progress ends: its outputs, what it brought, and the counts taken at its end. The computation of frame j is
taken here, at the boundary that ends frame j: DESIGN CHOICE (log entry 22). -/
def endFrame (f : FrameIn) (s : State) : State :=
  let s1 := putOut f s
  let s2 := if s.lif.latch.compute then computeFrame s1 else silence s1
  deliver f (receiveControl f (takeAnnounced s2))

/-- The next frame begins: counter, timer, what it substitutes, and the polls sent at its start (R1, R56, R124, R170). -/
def beginFrame (f : FrameIn) (s : State) : State :=
  let s1 := latchFrame (advanceTimer (advanceFrame f s))
  boothPollAt s1.lif.frame (pollAt s1.lif.frame s1)

/-- A frame boundary. An expiry of the Joining timer at the boundary before is complete by now (R170). While RSTN is low
the frame passes in bypass and nothing else happens (R7, R165). -/
def frameBoundaryOp (f : FrameIn) (s : State) : State :=
  if s.station.inReset then
    let s1 := putOut f s
    { s1 with lif := { s1.lif with latch := FrameLatch.bypass } }
  else beginFrame f (endFrame f (takeExpiry s))

/-! ### House sync (R8, R56, R124) -/

/-- The poll window in progress closes at a boundary that resets the counter, and the poll of frame 0 goes to the next
address (R56). A poll already sent at this boundary stands as that poll, and the window that ended there is the one that
closes (log entry 7). -/
def resetPolling (reply : Option UnitReply) (s : State) : State :=
  if isPollFrame s.lif.frame then
    match s.dlc.dueWindow with
    | some a => closeWindow a reply { s with dlc := { s.dlc with dueWindow := none } }
    | none => s
  else
    let s1 := match s.dlc.window with
      | some a => closeWindow a reply { s with dlc := { s.dlc with window := none } }
      | none => s
    pollAt 0 s1

/-- The booth window in progress closes at a boundary that resets the counter. A booth poll sent at this very boundary is
withdrawn, since the next one goes out at frame 12, and the window that ended there is the one that closes (R124, log
entry 7). -/
def resetBooth (reply : Option DeskReply) (s : State) : State :=
  if (boothDesk s.lif.frame).isSome then
    let s1 := withdrawBoothPoll s
    match s1.booth.dueWindow with
    | some e => closeBoothWindow e reply { s1 with booth := { s1.booth with dueWindow := none } }
    | none => s1
  else
    match s.booth.window with
    | some e => closeBoothWindow e reply { s with booth := { s.booth with window := none } }
    | none => s

/-- The counter is set to 0: the superframe is cut short (R9), the slot in progress has no close (R3), its transmission
ends, and incomplete wall histories are discarded (R21). -/
def cutShort (s : State) : State :=
  { s with
    lif := { s.lif with
      frame := 0, superframeAligned := false, slotFrames := [], transmitting := false,
      latch := { s.lif.latch with control := none } }
    walls := s.walls.map (fun w => { w with history := [] }) }

/-- The mark acquires the sync (R8). -/
def acquire (s : State) : State :=
  { s with lif := { s.lif with sync := .locked, markMissing := 0, markSeen := true, acquired := true } }

/-- A house sync mark at the boundary that began the frame in progress (R8): in Searching it sets the counter to 0 and
locks; in Locked it is the expected mark at frame 0 and a misplaced one elsewhere. Of the two windows that a reset closes at
one boundary, the delegate line's is taken first: DESIGN CHOICE (log entry 7). -/
def hsyncOp (u : Option UnitReply) (d : Option DeskReply) (s : State) : State :=
  match s.lif.sync with
  | .searching => if s.lif.frame = 0 then acquire s else acquire (cutShort (resetBooth d (resetPolling u s)))
  | .locked => if s.lif.frame = 0 then { s with lif := { s.lif with markSeen := true } } else s

/-! ### Switch point (R4) -/

/-- Mark-missing count and sync state (R8). -/
def evaluateSync (l : Lif) : Lif :=
  match l.sync with
  | .searching => l
  | .locked =>
    if l.markSeen then { l with markMissing := 0 }
    else if l.markMissing + 1 ≥ Config.markLimit then { l with markMissing := Config.markLimit, sync := .searching }
    else { l with markMissing := l.markMissing + 1 }

/-- Unaligned count (R9). -/
def evaluateAlignment (l : Lif) : Lif :=
  { l with unaligned := if l.superframeAligned then 0 else min (l.unaligned + 1) Config.unalignedLimit }

/-- The switch point finds the superframe good: Locked before it, the mark seen at it, and every frame aligned (R10). -/
def goodSuperframe (l : Lif) : Bool := l.sync == .locked && !l.acquired && l.markSeen && l.superframeAligned

/-- Sync, alignment and good counts of the superframe that has ended (R8, R9, R10); the next one starts afresh. -/
def evaluateLink (l : Lif) : Lif :=
  { evaluateAlignment (evaluateSync l) with
    good := if goodSuperframe l then min (l.good + 1) Config.goodLimit else 0
    superframeAligned := true
    markSeen := false
    acquired := false }

/-- The switch points since arrival of every Joining or Running entry (R16). -/
def advancePeers (s : State) : State :=
  { s with peers := s.peers.map (fun e => e.map (fun x => { x with since := satInc Config.ageLimit x.since })) }

/-- The write set is latched from the Held lanes, for the superframe that begins (R2, R152). The frame that begins here
writes it. -/
def latchWriteSet (s : State) : State :=
  let held := if onLink s then heldLanes s else []
  { s with lif := { s.lif with writeSet := held, latch := { s.lif.latch with lanes := held } } }

/-- The lanes left are those of the superframe that begins (R153). -/
def forgetLeft (s : State) : State := { s with booth := { s.booth with left := [] } }

/-- The work of a switch point: link counts, the blocks' switch-point rules, write set, sources and plan (R4). -/
def switchPointWork (s : State) : State :=
  let s1 := { s with lif := evaluateLink s.lif }
  let s2 := advanceLanes (advanceDesks (floorSwitchPoint (advanceFull (advancePeers s1))))
  forgetLeft (latchPlan (applySources (latchWriteSet s2)))

/-- A switch point, with the link failure or recovery it hands over (R4, R10). -/
def switchPointOp (s : State) : State := takeLinkRecovery (takeLinkFailure (switchPointWork s))

/-! ### Steps of one entry at a switch point (R89, R92) -/

/-- The Opening entry of a seat reaches step 8 at this switch point: that entry's update of R89. Where it does not,
nothing comes about (log entry 5). -/
def fadeInOp (seat : Nat) (s : State) : State :=
  { s with floor := { s.floor with mics := s.floor.mics.map (fun m =>
    if m.seat == seat && m.phase == .opening && m.step + 1 ≥ Config.fadeSteps then advanceMic m else m) } }

/-- The Closing entry of a seat reaches step 0 at this switch point and is removed (R89). Where it does not, nothing comes
about (log entry 5). -/
def fadeOutOp (seat : Nat) (s : State) : State :=
  if s.floor.mics.any (fun m => m.seat == seat && m.phase == .closing && m.step ≤ 1) then
    endPlaceHold seat { s with floor := { s.floor with mics := s.floor.mics.filter (fun m => m.seat != seat) } }
  else s

/-- The speaking time of a seat is found used up (R92). Where it is not, nothing comes about (log entry 5). -/
def speakingExpiryOp (seat : Nat) (s : State) : State :=
  if s.floor.mics.any (fun m => m.seat == seat && timeExpired s m) then
    raise .speakTimeExpired (closeSeatMic seat s)
  else s

/-! ### Own slot (R5, R41) -/

/-- The announcement is composed, copied to the on-wire record, and its transmission begins with the frame (R5, R6). -/
def compose (s : State) : State :=
  if onLink s then
    let bytes := announcementBytes (ownAnnouncement s)
    let s1 := { s with lif := { s.lif with
      composing := bytes, onWire := bytes, transmitting := s.lif.frame == ownSlotStart s } }
    { s1 with lif := { s1.lif with latch := { s1.lif.latch with control := controlFor s1 } } }
  else s

/-- The work of an own slot, in the order of R102, R133, R41, R140 and R5; demand is evaluated when the event is
complete (R146). -/
def ownSlotOp (s : State) : State :=
  if s.station.state = .unconfigured then s
  else evalDemand (retireCommand (compose (sourceStep
    (claimWork (markedLanes s) (deskConflictStep (roomCommandWork s))))))

/-! ### Slot closes and the Peer Table (R3, R14 to R18, R31) -/

/-- Sets the entry of peer t. -/
def setPeer (t : Nat) (e : Option PeerEntry) (s : State) : State := { s with peers := s.peers.set t e }

/-- Sets the mismatch mark of station t. -/
def setMark (t : Nat) (b : Bool) (s : State) : State := { s with room := { s.room with marks := s.room.marks.set t b } }

/-- The mismatch test of an arrival from t, the recomputation being complete (R31). -/
def mismatchTest (t : Nat) (a : Announcement) (s : State) : State :=
  if s.station.state = .running && isMember s t && a.head != s.room.head then
    setMark t true (raiseIf (s.room.marks.getD t false) .roomMismatch s)
  else setMark t false s

/-- PeerChanged is due at an arrival: the entry was Absent, or its epoch or its state differs (R16, R17). -/
def peerDiffers (before : Option PeerEntry) (a : Announcement) : Bool :=
  match before with
  | none => true
  | some e => e.content.epoch != a.epoch || e.content.running != a.running

/-- The epoch of a live entry differs (R17). -/
def epochDiffers (before : Option PeerEntry) (a : Announcement) : Bool :=
  before.any (fun e => e.content.epoch != a.epoch)

/-- The last-seen sequence of t becomes none at an epoch change (R17, R104). -/
def forgetCommand (t : Nat) (s : State) : State :=
  { s with room := { s.room with lastSeen := s.room.lastSeen.set t none } }

/-- The lanes that an announcement no longer holds and the one before held, with their languages (R153). -/
def lanesLeft (before : Option PeerEntry) (a : Announcement) : List LaneUse :=
  match before with
  | none => []
  | some e => (e.content.lanes.filter (fun x =>
      x.held && !a.lanes.any (fun y => y.held && y.lane == x.lane && y.language == x.language))).map
        (fun x => ⟨x.lane, x.language⟩)

/-- The lanes a member has left are kept until the next switch point (R153). -/
def noteLeft (t : Nat) (a : Announcement) (s : State) : State :=
  if isMember s t then { s with booth := { s.booth with left := s.booth.left ++ lanesLeft (peerAt s t) a } } else s

/-- A valid announcement from t arrives: entry and flag (R16, R17), recomputation (R29), mismatch test (R31), command test
(R103), displaced mics (R88) and desks (R131); demand at the end of the event (R146). -/
def peerArrival (t : Nat) (a : Announcement) (s : State) : State :=
  let before := peerAt s t
  let s1 := raiseIf (peerDiffers before a) .peerChanged (setPeer t (some ⟨0, 0, a⟩) (noteLeft t a s))
  let s2 := if epochDiffers before a then forgetCommand t s1 else s1
  evalDemand (applyTakeovers a (applyOverrides a (commandTest t a (mismatchTest t a (recompute s2)))))

/-- The entry of t becomes Absent (R18). -/
def losePeer (t : Nat) (s : State) : State :=
  evalDemand (recompute (raise .peerChanged (setPeer t none s)))

/-- Slot t closes with a missing announcement (R18, R31). -/
def peerMissing (t : Nat) (s : State) : State :=
  setMark t false (match peerAt s t with
    | none => s
    | some e =>
      if e.miss + 1 ≥ Config.missLimit then losePeer t s else setPeer t (some { e with miss := e.miss + 1 }) s)

/-- The slot received whole is taken off. -/
def takeSlot (s : State) : State := { s with lif := { s.lif with closedSlot := none } }

/-- The close of slot t (R3): in Joining or Running the received bytes of another station's slot are checked and delivered
(R14); in the other states, and for the own slot, they are discarded. A slot that was not received whole has no close. -/
def slotCloseOp (t : Nat) (s : State) : State :=
  match s.lif.closedSlot with
  | some (n, frames) =>
    if n = t && t != s.station.number then
      let s1 := takeSlot s
      if onLink s then
        match validAnnouncement t frames with
        | some a => peerArrival t a s1
        | none => peerMissing t s1
      else setMark t false s1
    else if n = t then takeSlot s
    else s
  | none => s

/-- Slot t closes with the missing announcement that makes the peer Absent (R18). Where it does not, nothing comes about
(log entry 5). -/
def peerLossOp (t : Nat) (s : State) : State :=
  if onLink s && t != s.station.number && (peerAt s t).any (fun e => e.miss + 1 ≥ Config.missLimit) then
    peerMissing t (if s.lif.closedSlot.any (fun c => c.1 == t) then takeSlot s else s)
  else s

/-! ### The meanings -/

/-- FRAME_BOUNDARY (R1). -/
def execFrameBoundary (received : FrameIn) (s : State) : Host.Outcome State Fault Refusal :=
  .next (frameBoundaryOp received s)

/-- HLCK_TIMEOUT: frame boundaries are taken from the internal frame timer (R1). -/
def execHlckTimeout (s : State) : Host.Outcome State Fault Refusal :=
  .next (if s.station.inReset then s else { s with lif := { s.lif with clock := .frameTimer } })

/-- HSYNC_MARK (R8). -/
def execHsyncMark (u : Option UnitReply) (d : Option DeskReply) (s : State) : Host.Outcome State Fault Refusal :=
  .next (if s.station.inReset then s else hsyncOp u d s)

/-- SWITCH_POINT (R4). -/
def execSwitchPoint (s : State) : Host.Outcome State Fault Refusal :=
  .next (if s.station.inReset then s else switchPointOp s)

/-- FADE_IN_COMPLETE (R89). -/
def execFadeInComplete (seat : Nat) (s : State) : Host.Outcome State Fault Refusal :=
  .next (if s.station.inReset then s else fadeInOp seat s)

/-- FADE_OUT_END (R89). -/
def execFadeOutEnd (seat : Nat) (s : State) : Host.Outcome State Fault Refusal :=
  .next (if s.station.inReset then s else fadeOutOp seat s)

/-- SPEAKING_TIME_EXPIRY (R92). -/
def execSpeakingTimeExpiry (seat : Nat) (s : State) : Host.Outcome State Fault Refusal :=
  .next (if s.station.inReset then s else speakingExpiryOp seat s)

/-- OWN_SLOT (R41). -/
def execOwnSlot (s : State) : Host.Outcome State Fault Refusal := .next (if s.station.inReset then s else ownSlotOp s)

/-- SLOT_CLOSE (R3). -/
def execSlotClose (t : Nat) (s : State) : Host.Outcome State Fault Refusal :=
  .next (if s.station.inReset then s else slotCloseOp t s)

/-- PEER_LOSS (R18). -/
def execPeerLoss (t : Nat) (s : State) : Host.Outcome State Fault Refusal :=
  .next (if s.station.inReset then s else peerLossOp t s)

end Sys2Proof.Machine
end

