-- ==== Sys2Proof/Machine/Walls.lean ====
section
/-! DEFINITION. The Wall Sampler (section 2.1). -/

namespace Sys2Proof.Machine

/-- The derived state of the two majority values (Table 2-2). -/
def derivedState (closed opened : Bool) : WallState :=
  match closed, opened with
  | true, false => .closed
  | false, true => .opened
  | false, false => .moving
  | true, true => .fault

/-- The derived state and the noise flag of three samples (R22). -/
def evaluateSamples (a b c : Bool × Bool) : WallState × Bool :=
  (derivedState (majority a.1 b.1 c.1) (majority a.2 b.2 c.2), !(a == b && b == c))

/-- The debounce of a derived state, up to the adoption (R23). -/
def debounceStep (w : Wall) : Wall :=
  if w.derived = w.debounced then { w with candidate := none, count := 0 }
  else if w.candidate = some w.derived then { w with count := w.count + 1 }
  else { w with candidate := some w.derived, count := 1 }

/-- The candidate whose count has reached 25 (R23). -/
def toAdopt (w : Wall) : Option WallState := if w.count ≥ Config.debounce then w.candidate else none

/-- The record after the adoption of a state (R23). -/
def adoptedWall (c : WallState) (w : Wall) : Wall := { w with debounced := c, candidate := none, count := 0 }

/-- The record of input x. -/
def wallOf (s : State) (x : Nat) : Wall := s.walls.getD x Wall.initial

/-- Sets the record of input x. -/
def setWall (x : Nat) (w : Wall) (s : State) : State := { s with walls := s.walls.set x w }

/-- A change of the effective state is handed to the Room Resolver, which recomputes for a configured wall (R23, R24,
R29). -/
def handWallOn (before after : Wall) (s : State) : State :=
  if effective before = effective after || after.neighbour.isNone then s else evalDemand (recompute s)

/-- Input x adopts state c: the record, WallChanged and WallFault of a configured wall whatever its override, and an
effective change handed on (R23). -/
def adoptWall (x : Nat) (c : WallState) (s : State) : State :=
  let w := wallOf s x
  let s1 := setWall x (adoptedWall c w) s
  let s2 := raiseIf (w.neighbour.isSome && c == .fault) .wallFault (raiseIf w.neighbour.isSome .wallChanged s1)
  handWallOn w (adoptedWall c w) s2

/-- The evaluation of input x with derived state and noise flag (R22, R23). -/
def evaluateWall (x : Nat) (d : WallState × Bool) (s : State) : State :=
  let w := debounceStep { wallOf s x with derived := d.1, noise := d.2 }
  match toAdopt w with
  | some c => adoptWall x c (setWall x w s)
  | none => setWall x w s

/-- One sample of input x at frame 0, 32 or 64 (R21). The frame-0 sample starts the history; the frame-64 sample of a
complete history is evaluated. At other frames no sample is taken. -/
def sampleWall (sample : Bool × Bool) (x : Nat) (s : State) : State :=
  let w := wallOf s x
  if s.lif.frame = 0 then setWall x { w with history := [sample] } s
  else if s.lif.frame = 32 && w.history.length = 1 then setWall x { w with history := w.history ++ [sample] } s
  else if s.lif.frame = 64 then
    match w.history with
    | [a, b] => evaluateWall x (evaluateSamples a b sample) (setWall x { w with history := [a, b, sample] } s)
    | _ => s
  else s

/-- The four inputs are sampled (R21). -/
def wallSampleOp (closed opened : BitVec 4) (s : State) : State :=
  (List.range 4).foldl (fun s' x => sampleWall (closed.getLsbD x, opened.getLsbD x) x s') s

/-- The evaluation that gives input x its candidate for the 25th consecutive time (R23). Where it is not that one, nothing
comes about (log entry 5). -/
def wallAdoptionOp (x : Nat) (s : State) : State :=
  match (wallOf s x).candidate with
  | some c => if (wallOf s x).count + 1 ≥ Config.debounce then adoptWall x c s else s
  | none => s

/-- The override named by its code: 0 Auto, 1 ForceOpen, 2 ForceClosed (Table 12-1). -/
def overrideOfCode : Nat → Option WallOverride
  | 0 => some .auto
  | 1 => some .forceOpen
  | 2 => some .forceClosed
  | _ => none

/-- The override of input x is set at once; a change of the effective state of a configured wall raises WallChanged and
is handed on (R24). -/
def overrideWall (x : Nat) (o : WallOverride) (s : State) : State :=
  let w := wallOf s x
  let w1 := { w with setting := o }
  handWallOn w w1 (raiseIf (w.neighbour.isSome && effective w != effective w1) .wallChanged (setWall x w1 s))

/-- WALL_SAMPLE (R21). -/
def execWallSample (closed opened : BitVec 4) (s : State) : Host.Outcome State Fault Refusal :=
  .next (if s.station.inReset then s else wallSampleOp closed opened s)

/-- WALL_ADOPTION (R23). -/
def execWallAdoption (input : Nat) (s : State) : Host.Outcome State Fault Refusal :=
  .next (if s.station.inReset then s else wallAdoptionOp input s)

end Sys2Proof.Machine
end

