-- ==== Sys2Proof/Machine/ManagementPort.lean ====
section
/-! DEFINITION. The management port: responses, records and the operator commands (chapter 12). -/

namespace Sys2Proof.Machine

/-! ### Responses (R175) -/

/-- The response to a command is placed in the buffer; the transaction that carried the command has shifted out the
response to the one before (section 12.1, R175). -/
def respond (command : Byte) (code : ResponseCode) (data : ResponseData) (s : State) : State :=
  { s with port := { s.port with shifted := s.port.response, response := some ⟨command, code, data⟩ } }

/-- A command that reads nothing. -/
def answer (command : Byte) (code : ResponseCode) (s : State) : State := respond command code .none s

/-! ### LoadConfig (R167) -/

/-- LoadConfig is answered by the first case that applies (R167). A frame with another number of bytes is no LoadConfig
(R175). -/
def loadConfigOp (record : List Byte) (s : State) : State :=
  if record.length != Config.recordBytes then answer 0x01 .badArgument s
  else if s.station.accepted then answer 0x01 .alreadyConfigured s
  else if s.station.memoryReading then answer 0x01 .busy s
  else match rejection s.station.number record with
    | some r => answer 0x01 (.refused r) (rejectConfig r s)
    | none => answer 0x01 .ok (acceptConfig (recordConfig record) s)

/-! ### Restart (R173) -/

/-- Restart is refused while Unconfigured; its Ok is placed after it has taken effect (R173, R175). -/
def restartOp (s : State) : State :=
  if s.station.state = .unconfigured then answer 0x02 .notConfigured s else answer 0x02 .ok (restartStation s)

/-! ### ReadRecord (R176) -/

/-- The state of a peer entry as a record shows it. -/
def peerStateOf (e : Option PeerEntry) : PeerState :=
  match e with
  | none => .absent
  | some x => if x.content.running then .running else .joining

/-- What a record shows beside them of a live peer entry (Table 12-2). -/
def peerView (e : PeerEntry) : PeerView :=
  ⟨e.content.head, e.content.mics.length, e.content.requests.length, e.content.desks.length,
    e.content.lanes.length⟩

/-- The record of a peer entry: an Absent entry has miss count 0 and no epoch (Tables 1-4, 12-2). -/
def peerRecord (e : Option PeerEntry) (mark : Bool) : Record :=
  .peerEntry (peerStateOf e) ((e.map (·.miss)).getD 0) (e.map (·.content.epoch)) (e.map peerView) mark

/-- Channel c of the downlink table's record: channel 0 is Floor (Table 10-1). -/
def channelView (c : Nat) (d : Option Downlink) : ChannelView :=
  if c = 0 then .floor
  else match d with
    | some x => .allocated x.language x.count
    | none => .free

/-- The kinds without an index: their index byte is 0 (R176). DESIGN CHOICE: with another index byte such a kind is answered
BadArgument, as an index outside the kind's range is (log entry 23). -/
def unindexed (index : Nat) (r : Record) : Option Record := if index = 0 then some r else none

/-- The record of a kind and an index; none for an unknown kind or an index outside the kind's range (R176, Table
12-2). -/
def recordOf (s : State) (kind index : Nat) : Option Record :=
  match kind with
  | 0 => unindexed index (.stationStatus s.station.state s.station.number s.station.source s.station.accepted
      s.station.lastReject s.lif.epoch s.station.joinTimer s.lif.sync s.lif.markMissing s.lif.unaligned s.lif.good)
  | 1 => if index ≤ 15 then
      some (peerRecord (peerAt s index) (s.room.marks.getD index false))
    else none
  | 2 => unindexed index (.membership s.room.members s.room.head s.room.adopted (homeContext s))
  | 3 => unindexed index (.roomCommands s.room.queue s.room.current s.room.counter s.room.lastSeen)
  | 4 => if index ≤ 3 then some (.wall index (wallOf s index) (effective (wallOf s index))) else none
  | 5 => unindexed index (.requestList (s.floor.requests.map (fun r => (r, !belowLevel s r.cls))))
  | 6 => unindexed index (.openMics s.floor.mics)
  | 7 => if index ≤ 3 then some (.desk (deskOf s index)) else none
  | 8 => unindexed index (.laneHoldings s.lanes.holdings s.lanes.shortage)
  | 9 => unindexed index (.downlinks (s.seats.channels.zipIdx.map (fun (d, c) => channelView c d)))
  | 10 => unindexed index (.deferredList (s.seats.deferred.map (fun a => (a, selectionOf s a))))
  | 11 => if 1 ≤ index && index ≤ 60 then
      some (.unitEntry (unitOf s index) (assignmentOf s index) (s.seats.deferred.contains index))
    else none
  | 12 => unindexed index (.clipCounter s.mix.clip)
  | _ => none

/-- A read of the clip counter sets it to 0 (R118). -/
def clearClip (kind : Nat) (s : State) : State :=
  if kind = 12 then { s with mix := { s.mix with clip := 0 } } else s

/-- ReadRecord returns the record whole, or BadArgument (R176). -/
def readRecordOp (kind index : Byte) (s : State) : State :=
  match recordOf s kind.toNat index.toNat with
  | some r => clearClip kind.toNat (respond 0x03 .ok (.record r) s)
  | none => answer 0x03 .badArgument s

/-! ### Events (R177, R178) -/

/-- ReadEvents returns flags and mask, each most significant byte first, and changes neither (R177). -/
def readEventsOp (s : State) : State := respond 0x04 .ok (.events (bytes16 s.port.flags) (bytes16 s.port.mask)) s

/-- ClearEvents (R177). -/
def clearEventsOp (mask : BitVec 16) (s : State) : State := answer 0x05 .ok (clearFlags mask s)

/-- SetEventMask (R178). -/
def setEventMaskOp (mask : BitVec 16) (s : State) : State := answer 0x06 .ok (setMask mask s)

/-! ### IssueRoomCommand (R100) -/

/-- The argument a queue entry takes: 6 for a GrantNext outside 1..6, 0 for PriorityMute and CancelAll (R100). -/
def storedArgument (k : CommandKind) (argument : Nat) : Nat :=
  match k with
  | .priorityMute | .cancelAll => 0
  | .grantNext => if 1 ≤ argument && argument ≤ 6 then argument else 6
  | .setFloorLevel => argument

/-- IssueRoomCommand is answered by the first case that applies (R100). -/
def issueRoomCommandOp (kind argument : Byte) (s : State) : State :=
  if s.station.state = .unconfigured then answer 0x07 .notConfigured s
  else match kindOfCode kind.toNat with
    | none => answer 0x07 .badArgument s
    | some k =>
      if k = .setFloorLevel && 3 < argument.toNat then answer 0x07 .badArgument s
      else if s.room.queue.length ≥ Config.queueEntries then answer 0x07 .busy s
      else answer 0x07 .ok (enqueue ⟨k, storedArgument k argument.toNat⟩ s)

/-! ### Operator commands (R179, R180) -/

/-- SetWallOverride (R179). -/
def setWallOverrideOp (input setting : Byte) (s : State) : State :=
  match overrideOfCode setting.toNat with
  | some o => if input.toNat ≤ 3 then answer 0x08 .ok (overrideWall input.toNat o s) else answer 0x08 .badArgument s
  | none => answer 0x08 .badArgument s

/-- The seat of CloseSeat and CancelRequest is refused: 0, or above the configured seat count (R180). -/
def badSeat (s : State) (seat : Byte) : Bool := seat == 0 || seat.toNat > seatCount s

/-- CloseSeat (R180). -/
def closeSeatOp (seat : Byte) (s : State) : State :=
  if s.station.state = .unconfigured then answer 0x09 .notConfigured s
  else if badSeat s seat then answer 0x09 .badArgument s
  else answer 0x09 .ok (closeSeatCommand seat.toNat s)

/-- CancelRequest (R180). -/
def cancelRequestOp (seat : Byte) (s : State) : State :=
  if s.station.state = .unconfigured then answer 0x0A .notConfigured s
  else if badSeat s seat then answer 0x0A .badArgument s
  else answer 0x0A .ok (cancelSeat seat.toNat s)

/-! ### Frames that carry no command (R175) -/

/-- An empty transaction: the response is shifted out and the buffer stays as it is. -/
def emptyTransactionOp (s : State) : State := { s with port := { s.port with shifted := s.port.response } }

/-- A frame that is no command is answered BadArgument; the response echoes its first byte (log entry 8). -/
def badFrameOp (frame : List Byte) (s : State) : State :=
  match frame with
  | [] => emptyTransactionOp s
  | code :: _ => answer code .badArgument s

/-! ### The meanings. While RSTN is low the port takes nothing (R175). -/

/-- LOAD_CONFIG (R167). -/
def execLoadConfig (record : List Byte) (s : State) : Host.Outcome State Fault Refusal :=
  .next (if s.station.inReset then s else loadConfigOp record s)

/-- RESTART (R173). -/
def execRestart (s : State) : Host.Outcome State Fault Refusal := .next (if s.station.inReset then s else restartOp s)

/-- READ_RECORD (R176). -/
def execReadRecord (kind index : Byte) (s : State) : Host.Outcome State Fault Refusal :=
  .next (if s.station.inReset then s else readRecordOp kind index s)

/-- READ_EVENTS (R177). -/
def execReadEvents (s : State) : Host.Outcome State Fault Refusal :=
  .next (if s.station.inReset then s else readEventsOp s)

/-- CLEAR_EVENTS (R177). -/
def execClearEvents (mask : BitVec 16) (s : State) : Host.Outcome State Fault Refusal :=
  .next (if s.station.inReset then s else clearEventsOp mask s)

/-- SET_EVENT_MASK (R178). -/
def execSetEventMask (mask : BitVec 16) (s : State) : Host.Outcome State Fault Refusal :=
  .next (if s.station.inReset then s else setEventMaskOp mask s)

/-- ISSUE_ROOM_COMMAND (R100). -/
def execIssueRoomCommand (kind argument : Byte) (s : State) : Host.Outcome State Fault Refusal :=
  .next (if s.station.inReset then s else issueRoomCommandOp kind argument s)

/-- SET_WALL_OVERRIDE (R179). -/
def execSetWallOverride (input setting : Byte) (s : State) : Host.Outcome State Fault Refusal :=
  .next (if s.station.inReset then s else setWallOverrideOp input setting s)

/-- CLOSE_SEAT (R180). -/
def execCloseSeat (seat : Byte) (s : State) : Host.Outcome State Fault Refusal :=
  .next (if s.station.inReset then s else closeSeatOp seat s)

/-- CANCEL_REQUEST (R180). -/
def execCancelRequest (seat : Byte) (s : State) : Host.Outcome State Fault Refusal :=
  .next (if s.station.inReset then s else cancelRequestOp seat s)

/-- EMPTY_TRANSACTION (R175). -/
def execEmptyTransaction (s : State) : Host.Outcome State Fault Refusal :=
  .next (if s.station.inReset then s else emptyTransactionOp s)

/-- BAD_COMMAND_FRAME (R175). -/
def execBadCommandFrame (frame : List Byte) (s : State) : Host.Outcome State Fault Refusal :=
  .next (if s.station.inReset then s else badFrameOp frame s)

end Sys2Proof.Machine
end

