-- ==== Sys2Proof/Machine/Dispatch.lean ====
section
/-! DEFINITION. The meaning of every command: one arm per constructor of Instr. -/

namespace Sys2Proof.Machine

def exec (i : Instr) (s : State) : Host.Outcome State Fault Refusal :=
  match i with
  | .pinReset => Sys2Proof.Machine.execPinReset s
  | .resetRelease number source => Sys2Proof.Machine.execResetRelease number source s
  | .configMemoryRead record => Sys2Proof.Machine.execConfigMemoryRead record s
  | .frameBoundary received => Sys2Proof.Machine.execFrameBoundary received s
  | .hlckTimeout => Sys2Proof.Machine.execHlckTimeout s
  | .hsyncMark unitReply deskReply => Sys2Proof.Machine.execHsyncMark unitReply deskReply s
  | .switchPoint => Sys2Proof.Machine.execSwitchPoint s
  | .linkFailure => Sys2Proof.Machine.execLinkFailure s
  | .linkRecovery => Sys2Proof.Machine.execLinkRecovery s
  | .fadeInComplete seat => Sys2Proof.Machine.execFadeInComplete seat s
  | .fadeOutEnd seat => Sys2Proof.Machine.execFadeOutEnd seat s
  | .speakingTimeExpiry seat => Sys2Proof.Machine.execSpeakingTimeExpiry seat s
  | .ownSlot => Sys2Proof.Machine.execOwnSlot s
  | .slotClose slot => Sys2Proof.Machine.execSlotClose slot s
  | .peerLoss peer => Sys2Proof.Machine.execPeerLoss peer s
  | .wallSample closed opened => Sys2Proof.Machine.execWallSample closed opened s
  | .wallAdoption input => Sys2Proof.Machine.execWallAdoption input s
  | .pollWindowClose reply => Sys2Proof.Machine.execPollWindowClose reply s
  | .unitAbsent address => Sys2Proof.Machine.execUnitAbsent address s
  | .boothWindowClose reply => Sys2Proof.Machine.execBoothWindowClose reply s
  | .deskAbsent desk => Sys2Proof.Machine.execDeskAbsent desk s
  | .joiningTimerExpiry => Sys2Proof.Machine.execJoiningTimerExpiry s
  | .loadConfig record => Sys2Proof.Machine.execLoadConfig record s
  | .restart => Sys2Proof.Machine.execRestart s
  | .readRecord kind index => Sys2Proof.Machine.execReadRecord kind index s
  | .readEvents => Sys2Proof.Machine.execReadEvents s
  | .clearEvents mask => Sys2Proof.Machine.execClearEvents mask s
  | .setEventMask mask => Sys2Proof.Machine.execSetEventMask mask s
  | .issueRoomCommand kind argument => Sys2Proof.Machine.execIssueRoomCommand kind argument s
  | .setWallOverride input setting => Sys2Proof.Machine.execSetWallOverride input setting s
  | .closeSeat seat => Sys2Proof.Machine.execCloseSeat seat s
  | .cancelRequest seat => Sys2Proof.Machine.execCancelRequest seat s
  | .emptyTransaction => Sys2Proof.Machine.execEmptyTransaction s
  | .badCommandFrame frame => Sys2Proof.Machine.execBadCommandFrame frame s

end Sys2Proof.Machine
end

