-- ==== Sys2Proof/Machine/Devices.lean ====
section
/-! DEFINITION. The device side of the two polled lines (R58, R125): what a delegate unit and an interpreter desk do with a
poll. A unit or a desk is no part of the station's State; its replies reach the station as operands (log entry 10). -/

namespace Sys2Proof.Machine

/-- The keys of either set. -/
def joinKeys (a b : Keys) : Keys := ⟨a.mic || b.mic, a.cancel || b.cancel, a.priority || b.priority, a.next || b.next⟩

/-- A delegate unit (R58): toggle, report and latch, the poll it shows and plays, and its two selectors. `shown` is none
until its first poll. -/
structure DelegateUnit where
  address : Nat
  toggle : Bool
  report : Keys
  latch : Keys
  shown : Option Poll
  selection : Nat
  tag : Nat
  deriving DecidableEq, Repr

/-- A unit after power-up: toggle 0 and both sets empty (R58). -/
def unitPowerUp (address selection tag : Nat) : DelegateUnit :=
  ⟨address, false, Keys.empty, Keys.empty, none, selection, tag⟩

/-- A key press adds the key to the latch, where it is held once (R58). -/
def unitPress (k : Keys) (u : DelegateUnit) : DelegateUnit := { u with latch := joinKeys u.latch k }

/-- The key sets at a poll: a flag that differs from the toggle accepts the previous report, one that equals it does not
(R58 step 1). -/
def unitTreatKeys (ack : Bool) (u : DelegateUnit) : DelegateUnit :=
  if ack = u.toggle then { u with report := joinKeys u.report u.latch, latch := Keys.empty }
  else { u with toggle := ack, report := u.latch, latch := Keys.empty }

/-- A poll received whole: a unit acts on the one that names its address (R58). -/
def unitOnPoll (p : Poll) (u : DelegateUnit) : DelegateUnit :=
  if p.address = u.address then { unitTreatKeys p.ack u with shown := some p } else u

/-- The reply the unit sends to that poll, as it leaves the unit (R58 step 3). -/
def unitReply (u : DelegateUnit) : UnitReply :=
  ⟨true, true, true, .same (BitVec.ofNat 6 u.address), .same u.report.mic, .same u.report.cancel, .same u.report.priority,
    .same u.report.next, .same (BitVec.ofNat 5 u.selection), .same (BitVec.ofNat 5 u.tag)⟩

/-- The uplink slot the unit writes in a frame, with its sample and address; none while its channel is none (R58). -/
def unitUplink (u : DelegateUnit) (x : Sample) : Option (Nat × UplinkSlot) :=
  match u.shown with
  | some p => p.uplink.map (fun ch => (ch, ⟨.same (BitVec.ofNat 6 u.address), .same x⟩))
  | none => none

/-- An interpreter desk (R125): Mic is its only key. -/
structure DeskDevice where
  desk : Nat
  toggle : Bool
  report : Bool
  latch : Bool
  lamp : DeskLamp
  output : Nat
  relay : Relay
  deriving DecidableEq, Repr

/-- A Mic press at the desk. -/
def devicePress (d : DeskDevice) : DeskDevice := { d with latch := true }

/-- A desk acts on a poll that names it and shows its lamp (R125). -/
def deviceOnPoll (p : DeskPoll) (d : DeskDevice) : DeskDevice :=
  if p.desk = d.desk then
    if p.ack = d.toggle then { d with report := d.report || d.latch, latch := false, lamp := p.lamp }
    else { d with toggle := p.ack, report := d.latch, latch := false, lamp := p.lamp }
  else d

/-- The reply the desk sends (R125). -/
def deviceReply (d : DeskDevice) : DeskReply :=
  ⟨true, true, true, .same (BitVec.ofNat 2 d.desk), .same d.report, .same (BitVec.ofNat 5 d.output),
    .same (BitVec.ofNat 2 (relayCode d.relay)), .same (BitVec.ofNat 5 (relayLanguage d.relay))⟩

end Sys2Proof.Machine
end

