-- ==== Sys2Proof/Safety.lean ====
section
/-! DEFINITION. What a sound station is: the laws that the manual states of each block's tables, as predicates on one
state. The statements for the provers say that every step keeps them. -/

namespace Sys2Proof.Machine

/-- RSTN is high and the power-on detector has let go: the station takes commands (R165). -/
abbrev Live (s : State) : Prop := s.station.inReset = false

/-! ### Station state machine -/

/-- The station state machine agrees with itself (R165, R169, R170): a station in reset is Unconfigured and reads no
memory; it is Unconfigured exactly while no record has been accepted; a memory read is in progress only before that; the
Joining timer runs exactly in Joining, from 384 down; the station number has four bits. -/
abbrev StationLaw (s : State) : Prop :=
  s.station.number < 16 ∧
  (s.station.inReset = true → s.station.state = .unconfigured ∧ s.station.memoryReading = false) ∧
  s.station.accepted = s.station.config.isSome ∧
  (s.station.accepted = false ↔ s.station.state = .unconfigured) ∧
  (s.station.memoryReading = true → s.station.accepted = false) ∧
  (s.station.joinTimer.isSome = true ↔ s.station.state = .joining) ∧
  (∀ n ∈ s.station.joinTimer, n ≤ 384)

/-! ### Link Interface -/

/-- The link status lies within Table 1-2, the frame counter within 0..95 and the epoch within 0..255; the mark-missing
count is 2 exactly in Searching (R8, R11). -/
abbrev LinkLaw (s : State) : Prop :=
  s.lif.frame < 96 ∧ s.lif.markMissing ≤ 2 ∧ (s.lif.markMissing = 2 ↔ s.lif.sync = .searching) ∧
  s.lif.unaligned ≤ 3 ∧ s.lif.good ≤ 4 ∧ s.lif.epoch < 256

/-- The switch point hands no link failure and no link recovery over: the counts it arrives at are below their limits in
the states that watch them (R10). -/
abbrev HandsNothingOver (s : State) : Prop :=
  (onLink s = true → (evaluateLink s.lif).markMissing < 2 ∧ (evaluateLink s.lif).unaligned < 3) ∧
  (s.station.state = .isolated → (evaluateLink s.lif).good < 4)

/-! ### Room Resolver -/

/-- The membership contains the station itself and otherwise only stations whose peer entries are Running; its head is its
lowest member; outside Running it is the station alone (R27, R28). -/
abbrev RoomLaw (s : State) : Prop :=
  s.station.number ∈ s.room.members ∧
  (∀ m ∈ s.room.members, m = s.station.number ∨ (peerAt s m).any (fun e => e.content.running) = true) ∧
  s.room.head ∈ s.room.members ∧ (∀ m ∈ s.room.members, s.room.head ≤ m) ∧
  (s.station.state ≠ .running → s.room.members = [s.station.number])

/-- The adopted context is the home context while the station is head, and otherwise the context of the head's latest valid
announcement, whose floor level is then the stored one (R33, R34). -/
abbrev ContextLaw (s : State) : Prop :=
  if s.room.head = s.station.number then s.room.adopted = homeContext s
  else (peerAt s s.room.head).any (fun e =>
    s.room.adopted == some e.content.context && s.floor.level == e.content.context.level) = true

/-! ### Floor Controller -/

/-- An open-mic entry has a fade step of 0..8, 8 exactly when Opening has ended in Open, and its age and its speaking time
lie within Table 5-4 (R89). -/
abbrev MicLaw (s : State) : Prop :=
  ∀ m ∈ s.floor.mics, m.step ≤ 8 ∧ (m.phase = .opened → m.step = 8) ∧ (m.phase = .opening → m.step < 8) ∧
    m.age ≤ 65535 ∧ m.used ≤ 1800000

/-- The uplink channel map, the claim table and the open-mic table agree: every place Intent and every place Hold has one
Bound channel, every Bound channel has one such entry, and a Hold stands for exactly one open mic (R37, R51, R64). -/
abbrev UplinkLaw (s : State) : Prop :=
  s.dlc.uplinks.length = 6 ∧
  (s.claims.places.map (·.seat)).Nodup ∧ (s.floor.mics.map (·.seat)).Nodup ∧
  (∀ c ∈ s.claims.places, s.dlc.uplinks[c.uplink]? = some (some c.seat)) ∧
  (∀ i < 6, ∀ seat ∈ (s.dlc.uplinks[i]?).join, ∃ c ∈ s.claims.places, c.uplink = i ∧ c.seat = seat) ∧
  (∀ m ∈ s.floor.mics, ∃ c ∈ s.claims.places, c.stage = .hold ∧ c.seat = m.seat ∧ c.uplink = m.uplink) ∧
  (∀ c ∈ s.claims.places, c.stage = .hold → ∃ m ∈ s.floor.mics, m.seat = c.seat)

/-! ### Lane Manager -/

/-- The lane holdings and the lane entries of the claim table agree (R37, R145, R149): they name the same lanes with the same
languages, Held exactly where the claim is a Hold; no lane and no language has two of them, and each lane is 16..63. -/
abbrev LaneLaw (s : State) : Prop :=
  (s.lanes.holdings.map (·.lane)).Nodup ∧ (s.lanes.holdings.map (·.language)).Nodup ∧
  (s.claims.lanes.map (·.lane)).Nodup ∧
  (∀ h ∈ s.lanes.holdings, 16 ≤ h.lane ∧ h.lane ≤ 63 ∧ h.age ≤ 65535 ∧
    ∃ c ∈ s.claims.lanes, c.lane = h.lane ∧ c.language = h.language ∧ (h.held = true ↔ c.stage = .hold)) ∧
  (∀ c ∈ s.claims.lanes, ∃ h ∈ s.lanes.holdings, h.lane = c.lane)

/-! ### Delegate Line Controller -/

/-- The poll pointer and every poll window name an address of 1..60, and the configured seat count is at most 60 (R56,
R168). -/
abbrev PollLaw (s : State) : Prop :=
  1 ≤ s.dlc.pointer ∧ s.dlc.pointer ≤ 60 ∧ (∀ a ∈ s.dlc.window, 1 ≤ a ∧ a ≤ 60) ∧
  (∀ a ∈ s.dlc.dueWindow, 1 ≤ a ∧ a ≤ 60) ∧ seatCount s ≤ 60

/-! ### Desk Controller -/

/-- No desk relays its own output language: not by its selection in force, nor by its pending or effective source (the
second part of R134). -/
abbrev RelayLaw (s : State) : Prop :=
  ∀ d ∈ s.booth.desks, ∀ l ∈ d.output, d.relay ≠ .language l ∧ d.pendingSource ≠ .language l ∧ d.source ≠ .language l

/-- The desk table and the language entries of the claim table agree, and no two desks of the station are OnAir with the same
output language (R37, R134, log entry 20): an OnAir desk has its language Hold, a desk in Intent its Intent entry; a live
Intent, a Hold and a want are for the output language that their desk has. -/
abbrev DeskLaw (s : State) : Prop :=
  ((ownHolders s).map (·.output)).Nodup ∧ (s.claims.languages.map (·.desk)).Nodup ∧
  (∀ e < 4, (deskOf s e).state = .onAir → ∃ c ∈ s.claims.languages, c.desk = e ∧ c.stage = .hold) ∧
  (∀ e < 4, (deskOf s e).state = .intent → ∃ c ∈ s.claims.languages, c.desk = e ∧ isIntent c.stage = true) ∧
  (∀ c ∈ s.claims.languages, c.stage = .hold →
    (deskOf s c.desk).state = .onAir ∧ (deskOf s c.desk).output = some c.language) ∧
  (∀ c ∈ s.claims.languages, isLiveIntent c.stage = true →
    (deskOf s c.desk).state = .intent ∧ (deskOf s c.desk).output = some c.language) ∧
  (∀ w ∈ s.claims.languageWants, (deskOf s w.desk).state = .off ∧ (deskOf s w.desk).output = some w.language)

/-! ### Seat Channel Allocator -/

/-- The downlink table agrees with the seat assignments (R156): channel 0 is never allocated; a channel's reference count
is the number of units assigned to it, never 0, and no language has two channels; exactly the Present units have an
assignment, and one of 1..7 carries the unit's selection. -/
abbrev ChannelLaw (s : State) : Prop :=
  s.seats.channels.length = 8 ∧ s.seats.assigned.length = 60 ∧ s.dlc.units.length = 60 ∧ channelOf s 0 = none ∧
  (∀ c < 8, ∀ d ∈ channelOf s c, d.language ≠ 0 ∧ d.count = s.seats.assigned.count (some c) ∧ d.count ≠ 0) ∧
  (∀ c < 8, ∀ c' < 8, ∀ d ∈ channelOf s c, ∀ d' ∈ channelOf s c', d.language = d'.language → c = c') ∧
  (∀ a < 61, a ≠ 0 → ((unitOf s a).present = (assignmentOf s a).isSome)) ∧
  (∀ a < 61, ∀ c ∈ assignmentOf s a, c ≠ 0 → c < 8 ∧ (channelOf s c).any (fun d => d.language == selectionOf s a) = true)

/-- The deferred list (R160, R161): a unit is in it, once, exactly when it is assigned channel 0 and selects a language; no
channel carries a language that a unit waits for; and while a unit waits, no channel of 1..7 is Free. -/
abbrev DeferredLaw (s : State) : Prop :=
  s.seats.deferred.Nodup ∧
  (∀ a < 61, a ∈ s.seats.deferred ↔ assignmentOf s a = some 0 ∧ selectionOf s a ≠ 0) ∧
  (∀ a ∈ s.seats.deferred, a < 61 ∧ ∀ c < 8, ∀ d ∈ channelOf s c, d.language ≠ selectionOf s a) ∧
  (s.seats.deferred ≠ [] → ∀ c < 8, c ≠ 0 → (channelOf s c).isSome = true)

/-- Both laws of the Seat Channel Allocator. -/
abbrev SeatLaw (s : State) : Prop := ChannelLaw s ∧ DeferredLaw s

/-! ### Sizes -/

/-- Every table has the entries its chapter gives it: 16 peers, 16 mismatch marks and last-seen sequences (Table 1-4, R31,
R103), four wall records (Table 2-1), 60 units and six uplink channels (Tables 4-3 and 4-4), four desks (Table 8-1). -/
abbrev SizeLaw (s : State) : Prop :=
  s.peers.length = 16 ∧ s.room.marks.length = 16 ∧ s.room.lastSeen.length = 16 ∧ s.walls.length = 4 ∧
  s.dlc.units.length = 60 ∧ s.dlc.uplinks.length = 6 ∧ s.booth.desks.length = 4

/-! ### Configuration -/

/-- A configuration within Table 11-3 at station `number` (R168). -/
abbrev ConfigLaw (number : Nat) (c : Configuration) : Prop :=
  1 ≤ c.seatCount ∧ c.seatCount ≤ 60 ∧
  c.walls.length ≤ 4 ∧ (∀ w ∈ c.walls, w.input ≤ 3 ∧ w.neighbour ≤ 15 ∧ w.neighbour ≠ number) ∧
  (c.walls.map (·.input)).Nodup ∧
  c.desks.length ≤ 4 ∧ (∀ d ∈ c.desks, d.desk ≤ 3 ∧ d.languages.length ≤ 3 ∧ d.languages.Nodup ∧
    ∀ l ∈ d.languages, 1 ≤ l ∧ l ≤ 31) ∧
  (c.desks.map (·.desk)).Nodup ∧
  c.seats.length ≤ 16 ∧ (∀ e ∈ c.seats, 1 ≤ e.seat ∧ e.seat ≤ c.seatCount ∧ e.cls ≤ 3 ∧ e.gain ≤ 65535) ∧
  (c.seats.map (·.seat)).Nodup ∧
  1 ≤ c.home.speakerLimit ∧ c.home.speakerLimit ≤ 6 ∧ c.home.speakingTime ≤ 3600 ∧ c.home.warningTime ≤ 255 ∧
  c.home.pivot ≤ 31 ∧ c.home.floorUnder ≤ 32767 ∧ c.home.level = 0

/-! ### Announcements -/

/-- An announcement whose every field lies within Table 1-3, with distinct seats, desks and lanes (R14), and with the
argument 0 that a PriorityMute and a CancelAll carry (R99). -/
abbrev AnnouncementLaw (a : Announcement) : Prop :=
  a.station < 16 ∧ a.epoch < 256 ∧ a.head < 16 ∧ a.sequence < 16 ∧
  a.walls.length ≤ 4 ∧ (∀ w ∈ a.walls, w.neighbour < 16) ∧
  1 ≤ a.context.speakerLimit ∧ a.context.speakerLimit ≤ 6 ∧ a.context.speakingTime ≤ 3600 ∧ a.context.warningTime < 256 ∧
  a.context.pivot < 32 ∧ a.context.floorUnder ≤ 32767 ∧ a.context.level < 4 ∧
  (∀ c ∈ a.command, if kindHasArgument c.kind then c.argument ≤ 6 else c.argument = 0) ∧
  a.mics.length ≤ 6 ∧ (a.mics.map (·.seat)).Nodup ∧
  (∀ m ∈ a.mics, 1 ≤ m.seat ∧ m.seat ≤ 60 ∧ m.cls < 4 ∧ m.tag < 32 ∧ m.age ≤ 65535 ∧
    ∀ n ∈ m.displaced, n.station < 16 ∧ 1 ≤ n.item ∧ n.item ≤ 60) ∧
  a.requests.length ≤ 6 ∧ (a.requests.map (·.seat)).Nodup ∧
  (∀ r ∈ a.requests, 1 ≤ r.seat ∧ r.seat ≤ 60 ∧ r.cls < 4 ∧ r.age ≤ 65535) ∧
  a.desks.length ≤ 4 ∧ (a.desks.map (·.desk)).Nodup ∧
  (∀ d ∈ a.desks, d.desk < 4 ∧ 1 ≤ d.output ∧ d.output ≤ 31 ∧ (relayCode d.relay = 2 → 1 ≤ relayLanguage d.relay ∧ relayLanguage d.relay ≤ 31) ∧
    d.selectionAge ≤ 65535 ∧ d.onAirAge ≤ 65535 ∧ ∀ n ∈ d.displaced, n.station < 16 ∧ n.item < 4) ∧
  a.lanes.length ≤ 4 ∧ (a.lanes.map (·.lane)).Nodup ∧
  (∀ l ∈ a.lanes, 16 ≤ l.lane ∧ l.lane ≤ 63 ∧ 1 ≤ l.language ∧ l.language ≤ 31 ∧ l.age ≤ 65535)

end Sys2Proof.Machine
end

