-- ==== Sys2Proof/WellFormed.lean ====
section
/-! DEFINITION. When a command is one that can reach the station's pins. exec is defined on every command; what an
ill-formed one does is no claim about the 1640 (log entry 3). -/

namespace Sys2Proof

/-- A frame carries 64 lanes and a 24-byte control field (section 1.1), six uplink slots (section 4.6) and one sample from
each of four desks (R119). -/
def FrameIn.wf (f : FrameIn) : Bool :=
  f.lanes.length == 64 && f.control.length == Config.controlBytes && f.uplinks.length == 6 && f.deskMics.length == 4

/-- A seat or a unit address is 1..60. -/
def seatOk (a : Nat) : Bool := 1 ≤ a && a ≤ 60

/-- The operands of a well-formed command. The fields of a reply have their widths by their types; a value that makes a
reply Malformed (R59, R69) is kept in. -/
def Instr.wf : Instr → Bool
  | .configMemoryRead r => r.length == Config.recordBytes
  | .loadConfig r => r.length == Config.recordBytes
  | .frameBoundary f => f.wf
  | .fadeInComplete seat | .fadeOutEnd seat | .speakingTimeExpiry seat => seatOk seat
  | .slotClose t | .peerLoss t => t < Config.stations
  | .wallAdoption x => x < 4
  | .unitAbsent a => seatOk a
  | .deskAbsent e => e < 4
  | .badCommandFrame f => !f.isEmpty && (decodePortFrame f).isNone
  | .hsyncMark _ _ | .pollWindowClose _ | .boothWindowClose _
  | .pinReset | .resetRelease _ _ | .hlckTimeout | .switchPoint | .linkFailure | .linkRecovery | .ownSlot
  | .wallSample _ _ | .joiningTimerExpiry | .restart | .readRecord _ _ | .readEvents | .clearEvents _
  | .setEventMask _ | .issueRoomCommand _ _ | .setWallOverride _ _ | .closeSeat _ | .cancelRequest _
  | .emptyTransaction => true

end Sys2Proof
end

