-- ==== Sys2Proof/Certificates/Slice0/Obligations.lean ====
section
/-! DEFINITION. The statements for the provers. Each says what a rule or a table of the manual says of the station, with
hypotheses on the state and the operands alone. -/

open Sys2Proof Sys2Proof.Machine

/-! ### Steps and reset -/

/-- A step takes the command at the front of the queue and runs it on the state with the queue's rest. On an empty
queue the block idles: that is the model's choice (log entry 9), for every timed event is itself a command. -/
def Obligations.StepTakesTheFrontCommand : Prop :=
  (∀ (c : Instr) (rest : List Instr) (s : State), s.pending = c :: rest → step s = exec c { s with pending := rest }) ∧
  ∀ s : State, s.pending = [] → step s = .next s

/-- Every command has its effect in every state: none ends in a fault or a refusal, and none touches the queue. -/
def Obligations.EveryCommandCompletes : Prop :=
  ∀ (i : Instr) (s : State), ∃ t, exec i s = .next t ∧ t.pending = s.pending

/-- What the chapters give each block after power-on or pin reset (R11, R15, R20, R36, R55, R70, R98, R109, R122,
R144, R155, R164, R165, R175, R177, R178), and that the laws of Sys2Proof/Safety.lean hold there. Station number 0,
before the straps are latched, is the model's choice (log entry 4). -/
def Obligations.PowerOnValues : Prop :=
  (let z := State.reset
   (z.station.inReset = true ∧ z.station.state = .unconfigured ∧ z.station.config = none ∧ z.station.accepted = false ∧
     z.station.lastReject = none ∧ z.station.memoryReading = false ∧ z.station.joinTimer = none) ∧
   (z.lif.sync = .searching ∧ z.lif.markMissing = 2 ∧ z.lif.unaligned = 0 ∧ z.lif.good = 0 ∧ z.lif.frame = 0 ∧
     z.lif.epoch = 0 ∧ z.lif.composing = [] ∧ z.lif.onWire = [] ∧ z.lif.writeSet = [] ∧ z.lif.latch = ⟨false, false, [], none, []⟩) ∧
   z.peers = List.replicate 16 none ∧
   z.walls = List.replicate 4 ⟨none, [], false, .moving, none, 0, .moving, .auto⟩ ∧
   (z.room.members = [z.station.number] ∧ z.room.head = z.station.number ∧ z.room.adopted = none ∧
     z.room.marks = List.replicate 16 false ∧ z.room.queue = [] ∧ z.room.current = none ∧ z.room.counter = 0 ∧
     z.room.lastSeen = List.replicate 16 none) ∧
   z.claims = ⟨[], [], [], [], []⟩ ∧
   (z.dlc.units = List.replicate 60 ⟨false, 0, 0, false, 0, none, ⟨false, false, false, false⟩, .off, 0⟩ ∧
     z.dlc.uplinks = List.replicate 6 none ∧ z.dlc.pointer = 1 ∧ z.dlc.window = none) ∧
   z.floor = ⟨[], [], 0⟩ ∧
   z.booth.desks = List.replicate 4
     ⟨false, [], false, 0, 0, false, none, none, .floor, 0, .off, 0, none, false, false, .floor, .floor, .off⟩ ∧
   z.lanes = ⟨[], []⟩ ∧
   z.seats = ⟨List.replicate 8 none, List.replicate 60 none, []⟩ ∧
   (z.mix.plan = ⟨[z.station.number], [], 0, 32768, [], [], List.replicate 8 none, List.replicate 4 .floor, [],
       List.replicate 8 none, List.replicate 4 none⟩ ∧
     z.mix.announced = 0 ∧ z.mix.clip = 0) ∧
   (z.port.flags = 0 ∧ z.port.mask = 0 ∧ z.port.response = none) ∧
   z.pending = []) ∧
  (StationLaw State.reset ∧ LinkLaw State.reset ∧ RoomLaw State.reset ∧ ContextLaw State.reset ∧ SizeLaw State.reset ∧
   MicLaw State.reset ∧ UplinkLaw State.reset ∧ LaneLaw State.reset ∧ RelayLaw State.reset ∧ DeskLaw State.reset ∧
   PollLaw State.reset ∧ SeatLaw State.reset ∧ (∀ c ∈ State.reset.station.config, ConfigLaw State.reset.station.number c))

/-- A pin reset taken in any state returns every block to its power-on value (R165), and the commands that wait still
wait; where the manual gives no value, it is the model's choice (log entry 4). The frame in progress is put out at its
end with the control bytes and the own lanes it had, lane for lane as if no reset had come, and no later frame is (R2,
R6, R7; that its samples are those of the reset's moment is log entry 12, the model's choice). While RSTN is low every
block is held and the port takes nothing (R165, R175): only a reset release ends it, and a frame boundary only passes
the frame on, in bypass from the next boundary (R7). At reset release the straps are latched, the tables that hold the
own number take it, and with source Memory the memory read begins (R165, R166). -/
def Obligations.ResetAndRelease : Prop :=
  (∀ s : State, ∃ t, exec .pinReset s = .next t ∧
     t = { State.reset with lif := { State.reset.lif with latch := t.lif.latch }, pending := s.pending } ∧
     (t.lif.latch.compute = false ∧ t.lif.latch.ownLane = false ∧ t.lif.latch.lanes = [] ∧
       t.lif.latch.control = s.lif.latch.control) ∧
     ∀ f : FrameIn, f.lanes.length = 64 → ∃ u, exec (.frameBoundary f) t = .next u ∧
       u.lif.patternOut = f.pattern ∧ u.lif.controlOut = s.lif.latch.control.getD f.control ∧
       ∀ n < 64, u.lif.lanesOut[n]? =
         (match s.lif.latch.fixed.find? (fun x => x.lane == n) with
          | some x => some x.sample
          | none =>
            if s.lif.latch.ownLane = true ∧ n = s.station.number then some (BitVec.ofInt 24 (ownPartialNow s))
            else match s.lif.latch.lanes.find? (fun u => u.lane == n) with
              | some u => some (BitVec.ofInt 24 (languageSample s u.language))
              | none => f.lanes[n]?)) ∧
  (∀ (s : State), s.station.inReset = true →
     (∀ i : Instr, i ≠ .pinReset → (∀ n c, i ≠ .resetRelease n c) → (∀ f, i ≠ .frameBoundary f) → exec i s = .next s) ∧
     ∀ f : FrameIn, ∃ t, exec (.frameBoundary f) s = .next t ∧ t.lif.latch = ⟨false, false, [], none, []⟩ ∧
       t = { s with lif := { s.lif with
         latch := t.lif.latch, patternOut := f.pattern, lanesOut := t.lif.lanesOut, controlOut := t.lif.controlOut } } ∧
       (s.lif.latch = ⟨false, false, [], none, []⟩ → f.lanes.length = 64 → t.lif.lanesOut = f.lanes ∧ t.lif.controlOut = f.control)) ∧
  (∀ (s : State) (number : BitVec 4) (source : ConfigSource), s.station.inReset = true →
     exec (.resetRelease number source) s = .next { s with
       station := { s.station with
         inReset := false, number := number.toNat, source := source, memoryReading := (source == .memory) }
       room := ⟨[number.toNat], number.toNat, none, List.replicate 16 false, [], none, 0, List.replicate 16 none⟩
       mix := { s.mix with plan :=
         ⟨[number.toNat], [], 0, 32768, [], [], List.replicate 8 none, List.replicate 4 .floor, [],
         List.replicate 8 none, List.replicate 4 none⟩ } })

/-! ### Configuration and start-up -/

/-- The four tests of R168 in their order, by the bytes of Table 11-3: the first that fails gives the rejection
reason. A record that passes them at station n holds a configuration within the table, field by field as the bytes
say: no neighbour is the own station, no input, desk, seat or language of a desk is named twice. -/
def Obligations.ConfigurationRecordTests : Prop :=
  (∀ (n : Nat) (b : List Byte),
     let B := byteAt b
     let W : Nat → Nat := fun i => B i * 256 + B (i + 1)
     let sumOk := (((List.range 108).map B).sum + W 108) % 65536 = 0
     let formatOk := B 0 = 1
     let inRange := (1 ≤ B 1 ∧ B 1 ≤ 60) ∧
       (B 2 ≤ 4 ∧ ∀ i < B 2, B (3 + 2 * i) ≤ 3 ∧ B (4 + 2 * i) ≤ 15 ∧ B (4 + 2 * i) ≠ n) ∧
       (B 11 ≤ 4 ∧ ∀ i < B 11, B (12 + 5 * i) ≤ 3 ∧
         ∀ k < B (13 + 5 * i) % 4, 1 ≤ B (14 + 5 * i + k) ∧ B (14 + 5 * i + k) ≤ 31) ∧
       (B 32 ≤ 16 ∧ ∀ i < B 32, 1 ≤ B (33 + 4 * i) ∧ B (33 + 4 * i) ≤ B 1 ∧ B (34 + 4 * i) ≤ 3) ∧
       (B 97 ≤ 2 ∧ 1 ≤ B 98 ∧ B 98 ≤ 6 ∧ B 99 ≤ 1 ∧ W 100 ≤ 3600 ∧ B 103 ≤ 1 ∧ B 104 ≤ 31 ∧ B 105 ≤ 1 ∧ W 106 ≤ 32767)
     let distinct := (∀ i < B 2, ∀ j < i, B (3 + 2 * i) ≠ B (3 + 2 * j)) ∧
       (∀ i < B 11, ∀ j < i, B (12 + 5 * i) ≠ B (12 + 5 * j)) ∧
       (∀ i < B 32, ∀ j < i, B (33 + 4 * i) ≠ B (33 + 4 * j)) ∧
       (∀ i < B 11, ∀ k < B (13 + 5 * i) % 4, ∀ j < k, B (14 + 5 * i + k) ≠ B (14 + 5 * i + j))
     (rejection n b = some .badSum ↔ ¬ sumOk) ∧
     (rejection n b = some .badFormat ↔ sumOk ∧ ¬ formatOk) ∧
     (rejection n b = some .outOfRange ↔ sumOk ∧ formatOk ∧ ¬ inRange) ∧
     (rejection n b = some .duplicate ↔ sumOk ∧ formatOk ∧ inRange ∧ ¬ distinct) ∧
     (rejection n b = none ↔ sumOk ∧ formatOk ∧ inRange ∧ distinct)) ∧
  (∀ (n : Nat) (b : List Byte), rejection n b = none →
     let B := byteAt b
     let W : Nat → Nat := fun i => B i * 256 + B (i + 1)
     let c := recordConfig b
     ConfigLaw n c ∧ c.seatCount = B 1 ∧
     c.walls = (List.range (B 2)).map (fun i => ⟨B (3 + 2 * i), B (4 + 2 * i)⟩) ∧
     c.desks.map (fun d => (d.desk, d.languages)) = (List.range (B 11)).map (fun i =>
       (B (12 + 5 * i), (List.range (B (13 + 5 * i) % 4)).map (fun k => B (14 + 5 * i + k)))) ∧
     (∀ i < B 11, ((c.desks[i]?).any (·.present) = true ↔ 128 ≤ B (13 + 5 * i))) ∧
     c.seats = (List.range (B 32)).map (fun i => ⟨B (33 + 4 * i), B (34 + 4 * i), W (35 + 4 * i)⟩) ∧
     (c.home.mode = .free ↔ B 97 = 0) ∧ (c.home.mode = .queue ↔ B 97 = 1) ∧ (c.home.mode = .override ↔ B 97 = 2) ∧
     c.home.speakerLimit = B 98 ∧ (c.home.autoAdvance = true ↔ B 99 = 1) ∧ c.home.speakingTime = W 100 ∧
     c.home.warningTime = B 102 ∧ (c.home.interlock = .takeover ↔ B 103 = 1) ∧ c.home.pivot = B 104 ∧
     (c.home.clearOnMute = true ↔ B 105 = 1) ∧ c.home.floorUnder = W 106 ∧ c.home.level = 0)

/-- The events of start-up. The end of the memory read (R166): a rejected record leaves the station as it is but for
the reason and the flag; a valid one is accepted, and the station enters Joining with epoch + 1, 384 frames on the
timer, floor level 0 and its home context adopted (R169, R170); without a read in progress nothing ends. LoadConfig is
answered by the first case of R167 that applies. The Joining timer at 0 expires: the station enters Running, with the
membership of its gathered view, and every peer that this makes a member has its announced command marked as seen
(R170, R28, R104). -/
def Obligations.StartUpEvents : Prop :=
  (∀ (s : State) (record : List Byte), Live s → record.length = 110 →
     (s.station.memoryReading = false → exec (.configMemoryRead record) s = .next s) ∧
     (∀ r, s.station.memoryReading = true → rejection s.station.number record = some r →
       exec (.configMemoryRead record) s = .next { s with
         station := { s.station with memoryReading := false, lastReject := some r }
         port := { s.port with flags := s.port.flags ||| BitVec.twoPow 16 15 } }) ∧
     (s.station.memoryReading = true → rejection s.station.number record = none →
       ∃ t, exec (.configMemoryRead record) s = .next t ∧
         t.station = { s.station with
           memoryReading := false, config := some (recordConfig record), accepted := true
           state := .joining, joinTimer := some 384 } ∧
         t.lif = { s.lif with epoch := (s.lif.epoch + 1) % 256 } ∧ t.floor.level = 0 ∧
         t.room.members = [s.station.number] ∧ t.room.head = s.station.number ∧
         t.room.adopted = some (recordConfig record).home ∧
         t.peers = s.peers ∧ t.dlc = s.dlc ∧ t.seats = s.seats ∧ t.mix = s.mix ∧ t.pending = s.pending)) ∧
  (∀ (s : State) (record : List Byte), Live s → record.length = 110 →
     (s.station.accepted = true → exec (.loadConfig record) s = .next { s with port := { s.port with
       shifted := s.port.response, response := some ⟨0x01, .alreadyConfigured, .none⟩ } }) ∧
     (s.station.accepted = false → s.station.memoryReading = true →
       exec (.loadConfig record) s = .next { s with port := { s.port with
         shifted := s.port.response, response := some ⟨0x01, .busy, .none⟩ } }) ∧
     (∀ r, s.station.accepted = false → s.station.memoryReading = false →
       rejection s.station.number record = some r →
       exec (.loadConfig record) s = .next { s with
         station := { s.station with lastReject := some r }
         port := ⟨s.port.flags ||| BitVec.twoPow 16 15, s.port.mask, some ⟨0x01, .refused r, .none⟩, s.port.response⟩ }) ∧
     (s.station.accepted = false → s.station.memoryReading = false → rejection s.station.number record = none →
       ∃ t, exec (.loadConfig record) s = .next t ∧
         t.port.response = some ⟨0x01, .ok, .none⟩ ∧ t.port.shifted = s.port.response ∧ t.port.mask = s.port.mask ∧
         t.station = { s.station with
           config := some (recordConfig record), accepted := true, state := .joining, joinTimer := some 384 } ∧
         t.lif = { s.lif with epoch := (s.lif.epoch + 1) % 256 } ∧ t.floor.level = 0 ∧
         t.room.members = [s.station.number] ∧ t.room.adopted = some (recordConfig record).home ∧
         t.walls = s.walls.zipIdx.map (fun (w, x) =>
           match (recordConfig record).walls.find? (fun e => e.input = x) with
           | some e => { w with neighbour := some e.neighbour }
           | none => w) ∧
         t.booth.desks.map (fun d => (d.fitted, d.understood)) = s.booth.desks.zipIdx.map (fun (_, e) =>
           match (recordConfig record).desks.find? (fun x => x.desk = e) with
           | some x => (x.present, x.languages)
           | none => (false, [])) ∧
         t.peers = s.peers ∧ t.dlc = s.dlc ∧ t.seats = s.seats ∧ t.mix = s.mix)) ∧
  (∀ s : State, Live s → s.station.state = .joining → s.station.joinTimer = some 0 → RoomLaw s →
     ∃ t, exec .joiningTimerExpiry s = .next t ∧
       t.station = { s.station with state := .running, joinTimer := none } ∧
       t.room.members = membershipOf { s with station := { s.station with state := .running } } ∧
       (∀ m ∈ t.room.members, m < s.room.lastSeen.length → m ≠ s.station.number →
         t.room.lastSeen[m]? = some ((peerAt s m).map (fun e => e.content.sequence))) ∧
       t.peers = s.peers ∧ t.lif = s.lif ∧ t.walls = s.walls ∧ t.dlc = s.dlc ∧ t.seats = s.seats ∧ t.mix = s.mix)

/-- Restart (R173): refused as NotConfigured while Unconfigured; otherwise every table returns to its value for
Restart, the station enters Joining with epoch + 1, every event flag is cleared, and the configuration, the walls, the
link status, the record on the wire and the event mask are kept. That the own partial of the frame before is set to 0
with the mics is the model's choice (log entry 6). -/
def Obligations.RestartResetsTheTables : Prop :=
  ∀ s : State, Live s →
    (s.station.state = .unconfigured → exec .restart s = .next { s with port := { s.port with
      shifted := s.port.response, response := some ⟨0x02, .notConfigured, .none⟩ } }) ∧
    (s.station.state ≠ .unconfigured → ∃ t, exec .restart s = .next t ∧
      t.station = { s.station with state := .joining, joinTimer := some 384 } ∧
      t.lif = { s.lif with epoch := (s.lif.epoch + 1) % 256, composing := [], writeSet := [] } ∧
      t.walls = s.walls ∧ t.peers = List.replicate 16 none ∧
      t.room = ⟨[s.station.number], s.station.number, (s.station.config.map (fun c => { c.home with level := 0 })),
        List.replicate 16 false, [], none, 0, List.replicate 16 none⟩ ∧
      t.claims = ⟨[], [], [], [], []⟩ ∧
      t.dlc = { Dlc.initial with pollOut := s.dlc.pollOut, uplinkIn := s.dlc.uplinkIn } ∧
      t.floor = ⟨[], [], 0⟩ ∧
      t.booth.desks = s.booth.desks.map (fun d => { Desk.initial with fitted := d.fitted, understood := d.understood }) ∧
      t.booth.window = none ∧ t.booth.dueWindow = none ∧ t.booth.left = [] ∧
      t.lanes = ⟨[], []⟩ ∧ t.seats = ⟨List.replicate 8 none, List.replicate 60 none, []⟩ ∧
      t.mix = { s.mix with plan := Plan.initial s.station.number, announced := 0, clip := 0, ownPartial := 0 } ∧
      t.port = ⟨0, s.port.mask, some ⟨0x02, .ok, .none⟩, s.port.response⟩ ∧ t.pending = s.pending)

/-! ### Frames, lanes and audio -/

/-- A frame boundary (R1, R2, R3, R115, R170): the counter advances from 95 back to 0, the boundary's source is kept,
the Joining timer goes down by one, the lanes of an aligned frame are delivered and those of an unaligned one are 0;
the tables of the other blocks stay. With no HLCK edge for the length of one frame, boundaries are taken from the
internal frame timer. The control fields of frames 5s to 5s + 4 are collected, each with the alignment of its frame,
and the fifth closes the slot; frames 80 to 95 carry none, and a slot without its first frames is discarded. At the
end of frame 5s + 4 of an own slot in which the station transmitted, the own announced count becomes the number of
mics in phase Opening, Open or Closing in the record on the wire. -/
def Obligations.FrameBoundaryAdvancesTheCounter : Prop :=
  (∀ (s : State) (f : FrameIn), Live s → s.station.joinTimer ≠ some 0 →
     let aligned := f.pattern = true ∧ s.lif.boundary = .hlck
     ∃ t, exec (.frameBoundary f) s = .next t ∧
       t.lif.frame = (s.lif.frame + 1) % 96 ∧
       t.lif.boundary = (if f.hlckEdge then .hlck else .frameTimer) ∧
       t.lif.clock = (if f.hlckEdge then .hlck else .frameTimer) ∧
       t.station = { s.station with joinTimer := s.station.joinTimer.map (fun n => n - 1) } ∧
       (t.lif.superframeAligned = true ↔ s.lif.superframeAligned = true ∧ aligned) ∧
       (aligned → t.lif.lanesIn = f.lanes) ∧ (¬ aligned → t.lif.lanesIn = List.replicate 64 0) ∧
       (t.lif.sync = s.lif.sync ∧ t.lif.markMissing = s.lif.markMissing ∧ t.lif.unaligned = s.lif.unaligned ∧
         t.lif.good = s.lif.good ∧ t.lif.epoch = s.lif.epoch ∧ t.lif.writeSet = s.lif.writeSet ∧
         t.lif.composing = s.lif.composing ∧ t.lif.onWire = s.lif.onWire) ∧
       t.peers = s.peers ∧ t.walls = s.walls ∧ t.room = s.room ∧ t.claims = s.claims ∧ t.floor = s.floor ∧
       t.lanes = s.lanes ∧ t.seats = s.seats ∧ t.dlc.uplinks = s.dlc.uplinks ∧ t.mix.plan = s.mix.plan ∧
       t.port.mask = s.port.mask ∧ t.port.response = s.port.response ∧ t.pending = s.pending) ∧
  (∀ s : State, Live s → exec .hlckTimeout s = .next { s with lif := { s.lif with clock := .frameTimer } }) ∧
  (∀ (s : State) (f : FrameIn), Live s →
     let entry : Bool × List Byte := (f.pattern && s.lif.boundary == .hlck, f.control)
     let place := s.lif.frame % 5
     ∃ t, exec (.frameBoundary f) s = .next t ∧
       (80 ≤ s.lif.frame → t.lif.slotFrames = s.lif.slotFrames ∧ t.lif.closedSlot = s.lif.closedSlot) ∧
       (s.lif.frame < 80 → place = 0 → t.lif.slotFrames = [entry] ∧ t.lif.closedSlot = s.lif.closedSlot) ∧
       (s.lif.frame < 80 → 1 ≤ place → place ≤ 3 → s.lif.slotFrames.length = place →
         t.lif.slotFrames = s.lif.slotFrames ++ [entry] ∧ t.lif.closedSlot = s.lif.closedSlot) ∧
       (s.lif.frame < 80 → place = 4 → s.lif.slotFrames.length = 4 →
         t.lif.closedSlot = some (s.lif.frame / 5, s.lif.slotFrames ++ [entry]) ∧ t.lif.slotFrames = []) ∧
       (s.lif.frame < 80 → 1 ≤ place → s.lif.slotFrames.length ≠ place →
         t.lif.slotFrames = [] ∧ t.lif.closedSlot = s.lif.closedSlot) ∧
       (∀ a, AnnouncementLaw a → s.lif.onWire = announcementBytes a → s.lif.latch.control ≠ none →
         s.lif.frame = 5 * s.station.number + 4 →
         t.mix.announced = (a.mics.filter (fun m => m.phase ≠ .intent)).length) ∧
       (s.lif.latch.control = none ∨ s.lif.frame ≠ 5 * s.station.number + 4 → t.mix.announced = s.mix.announced))

/-- What the station puts out in the frame that ends (R2, R6, R7): its own partial in its own lane, the language
sample in each lane of the write set, the record's bytes in the control field, and all else, the frame-start pattern
too, as received. That these samples are computed at the boundary that ends the frame is the model's choice (log entry
22). In bypass the frame passes whole. A lane that a pin reset fixed in this frame keeps the sample it had (log entry
12). In the frame that begins it substitutes again only while Joining or Running. -/
def Obligations.FrameBoundarySubstitutesWhatItOwns : Prop :=
  ∀ (s : State) (f : FrameIn), Live s → s.station.joinTimer ≠ some 0 → f.lanes.length = 64 →
    ∃ t, exec (.frameBoundary f) s = .next t ∧
      (∀ n < 64, t.lif.lanesOut[n]? =
        (match s.lif.latch.fixed.find? (fun x => x.lane == n) with
         | some x => some x.sample
         | none =>
           if s.lif.latch.ownLane = true ∧ n = s.station.number then some (BitVec.ofInt 24 (ownPartialNow s))
           else match s.lif.latch.lanes.find? (fun u => u.lane == n) with
             | some u => some (BitVec.ofInt 24 (languageSample s u.language))
             | none => f.lanes[n]?)) ∧
      t.lif.patternOut = f.pattern ∧ t.lif.latch.fixed = [] ∧
      t.lif.controlOut = s.lif.latch.control.getD f.control ∧
      (s.lif.latch = ⟨false, false, [], none, []⟩ → t.lif.lanesOut = f.lanes ∧ t.lif.controlOut = f.control) ∧
      (t.lif.latch.ownLane = true ↔ s.station.state = .joining ∨ s.station.state = .running) ∧
      t.lif.latch.lanes = s.lif.writeSet ∧
      (t.lif.latch.compute = true ↔ s.station.state ≠ .unconfigured) ∧
      (∀ i < 5, s.lif.transmitting = true → t.lif.frame = 5 * s.station.number + i →
        t.lif.latch.control = some ((s.lif.onWire.drop (24 * i)).take 24)) ∧
      (s.lif.transmitting = false → t.lif.latch.control = none)

/-- The frame computation (R110, R113, R114, R117, R118, R120, R121), written out: partial, floor and PA sample,
downlink channel 0, clip counter and Clip flag, with Round as the greatest integer not above (z + 16384) / 32768 and
Sat as the clamp to 24 bits; a language sample as the clamped sum of the producing desk's microphone and the rounded
floor-under part; and the feeds: a free channel carries 0, an allocated one and a headphone the listener source of
their language, which is the floor where the plan names none. Without a computation every output carries 0 (R111).
That the computation of a frame is taken at the boundary that ends it, with the floor-under in force there, is the
model's choice (log entry 22). In output frame 0 a listener that stops using a lane there puts out the lane's last
sample, as R153 says, or that of its source, as R121 says: which of the two is a free choice of Config (log entry 24),
and this holds for either. -/
def Obligations.FrameComputationToTheBit : Prop :=
  (∀ (s : State) (f : FrameIn), Live s → s.station.joinTimer ≠ some 0 →
     let clamp : Int → Int := fun z => if z < -8388608 then -8388608 else if 8388607 < z then 8388607 else z
     let q : PlanMic → Int := fun m => ((s.dlc.uplinkIn.getD m.uplink 0).toInt * m.gain + 16384) / 32768 * m.step / 8
     let sum : Int := (s.mix.plan.members.map (fun t =>
       if t = s.station.number then s.mix.ownPartial.toInt else (s.lif.lanesIn.getD t 0).toInt)).sum
     let raw : Int := (sum * s.mix.plan.factor + 16384) / 32768
     ∃ t, exec (.frameBoundary f) s = .next t ∧
       (s.lif.latch.compute = true →
         t.mix.ownPartial.toInt = clamp ((s.mix.plan.mics.map q).sum) ∧
         t.mix.paOut.toInt = clamp raw ∧ t.mix.downlinkOut.head? = some t.mix.paOut ∧
         (clamp raw = raw → t.mix.clip = s.mix.clip ∧ t.port.flags = s.port.flags) ∧
         (clamp raw ≠ raw → t.mix.clip = min (s.mix.clip + 1) 65535 ∧
           t.port.flags = s.port.flags ||| BitVec.twoPow 16 13)) ∧
       (s.lif.latch.compute = false → t.mix.paOut = 0 ∧ t.mix.downlinkOut = List.replicate 8 0 ∧
         t.mix.headphoneOut = List.replicate 4 0 ∧ t.mix.clip = s.mix.clip ∧ t.port.flags = s.port.flags)) ∧
  (∀ (s : State) (f : FrameIn), Live s → s.station.joinTimer ≠ some 0 → s.lif.latch.compute = true →
     let y : Int := floorSample s
     let sample : Nat → Int := fun l =>
       max (-8388608) (min 8388607 (((s.mix.plan.producers.find? (fun p => p.language == l)).map
         (fun p => (s.booth.micIn.getD p.desk 0).toInt)).getD 0 + (y * (context s).floorUnder + 16384) / 32768))
     let feed : Nat → Int := fun l =>
       match s.mix.plan.listeners.find? (fun x => x.language == l) with
       | some ⟨_, .ownDesk _⟩ => sample l
       | some ⟨_, .lane n⟩ => (s.lif.lanesIn.getD n 0).toInt
       | some ⟨_, .floor⟩ => y
       | none => y
     let takes : Option Nat → Int → Int := fun left x =>
       match left with
       | some n => if s.lif.frame = 0 ∧ Config.lastLaneSampleHeard = true then (s.lif.lanesIn.getD n 0).toInt else x
       | none => x
     ∃ t, exec (.frameBoundary f) s = .next t ∧
       (∀ c, 1 ≤ c → c ≤ 7 → (t.mix.downlinkOut[c]?).map BitVec.toInt =
         some (match s.mix.plan.channels.getD c none with | some l => takes (s.mix.plan.channelsLeave.getD c none) (feed l) | none => 0)) ∧
       (∀ e < 4, (t.mix.headphoneOut[e]?).map BitVec.toInt =
         some (match s.mix.plan.headphones.getD e .floor with | .floor => y | .language l => takes (s.mix.plan.headphonesLeave.getD e none) (feed l))) ∧
       ∀ l, languageSample s l = sample l)

/-- Uplink samples (R65): the frame computation that follows receives, for a Bound channel, the slot's sample when it
carried the bound seat's address and all three samples of every bit agreed, and 0 in every other case. Desk samples
(R119): a desk's sample when the desk is Present, the sample carries its number and all three samples of every bit
agreed, and 0 in every other case. -/
def Obligations.FrameDeliversCleanSamplesOnly : Prop :=
  ∀ (s : State) (f : FrameIn), Live s → s.station.joinTimer ≠ some 0 → s.dlc.uplinks.length = 6 →
    let slot : UplinkSlot → Nat → Prop := fun u seat =>
      u.address.first.toNat = seat ∧ u.address = .same u.address.first ∧ u.sample = .same u.sample.first
    let voice : DeskMic → Nat → Prop := fun m e =>
      m.desk.first.toNat = e ∧ m.desk = .same m.desk.first ∧ m.sample = .same m.sample.first
    ∃ t, exec (.frameBoundary f) s = .next t ∧ t.dlc.uplinkIn.length = 6 ∧ t.booth.micIn.length = 4 ∧
      (∀ i < 6, ∀ seat u, s.dlc.uplinks[i]? = some (some seat) → f.uplinks.getD i none = some u → slot u seat →
        t.dlc.uplinkIn[i]? = some u.sample.first) ∧
      (∀ i < 6, (∀ seat u, s.dlc.uplinks[i]? = some (some seat) → f.uplinks.getD i none = some u → ¬ slot u seat) →
        t.dlc.uplinkIn[i]? = some 0) ∧
      (∀ e < 4, ∀ m, (deskOf s e).present = true → f.deskMics.getD e none = some m → voice m e →
        t.booth.micIn[e]? = some m.sample.first) ∧
      (∀ e < 4, ((deskOf s e).present = true → ∀ m, f.deskMics.getD e none = some m → ¬ voice m e) →
        t.booth.micIn[e]? = some 0)

/-- The poll of a poll frame (R56, R57, R66, R68, R93, R162): at the start of frames 0, 24, 48 and 72 a configured
station polls the address the pointer names, with the entry's acknowledge flag, the lamp in the order of precedence,
which the entry keeps, the overlay, the assigned channel, and the uplink channel and mute of an open mic; the pointer
goes on, from the seat count back to 1. The lamp is Warning for a mic of class 0..1 in Opening or Open with a speaking
time S above 0 of which at most the warning time W is left, and Request for a seat with a request, a place want or a
place intent. At every other frame, and while Unconfigured, no poll goes out: poll, pointer, windows and entries stay.
The window that ends here waits for its classification, and one that waited still is dropped: the model's choice (log
entry 7). The booth poll (R124, R125, R135): at the start of frame 12 + 24e a configured station polls desk e where it
is fitted, with the entry's acknowledge flag and the lamp, which the entry keeps: Loop, NoLane, OnAir, Intent, Engaged
or Off, the first whose condition holds. No booth poll goes out at any other frame, and the window of a desk that is
not fitted stays idle. -/
def Obligations.PollCarriesTheTables : Prop :=
  (∀ (s : State) (f : FrameIn), Live s → s.station.joinTimer ≠ some 0 → s.station.state ≠ .unconfigured →
     (s.lif.frame + 1) % 96 ∈ [0, 24, 48, 72] →
     let a := s.dlc.pointer
     ∃ t p, exec (.frameBoundary f) s = .next t ∧ t.dlc.pollOut = some p ∧ p.address = a ∧ p.ack = (unitOf s a).ack ∧
       p.downlink = (assignmentOf s a).getD 0 ∧ (p.unavailable = true ↔ a ∈ s.seats.deferred) ∧
       p.uplink = (micOf s a).map (·.uplink) ∧ p.mute = (micOf s a).isSome ∧
       ((unitOf s a).fullTimer ≠ 0 → p.lamp = .full) ∧
       ((unitOf s a).fullTimer = 0 → ∀ m, micOf s a = some m → m.phase ≠ .closing →
         let warns := m.cls ≤ 1 ∧ 0 < (context s).speakingTime ∧
           (((context s).speakingTime : Int) * 500 - m.used ≤ (context s).warningTime * 500)
         (warns → p.lamp = .warning) ∧ (¬ warns → p.lamp = .opened)) ∧
       ((unitOf s a).fullTimer = 0 → (∀ m, micOf s a = some m → m.phase = .closing) →
         let asks := (∃ r ∈ s.floor.requests, r.seat = a) ∨ (∃ w ∈ s.claims.placeWants, w.seat = a) ∨
           ∃ c ∈ s.claims.places, c.seat = a ∧ c.stage ≠ .hold
         (asks → p.lamp = .request) ∧ (¬ asks → p.lamp = .off)) ∧
       t.dlc.units = s.dlc.units.zipIdx.map (fun (u, i) => if i + 1 = a then { u with lamp := p.lamp } else u) ∧
       t.dlc.window = some a ∧ t.dlc.dueWindow = s.dlc.window ∧
       t.dlc.pointer = if seatCount s ≤ a then 1 else a + 1) ∧
  (∀ (s : State) (f : FrameIn), Live s → s.station.joinTimer ≠ some 0 →
     s.station.state = .unconfigured ∨ (s.lif.frame + 1) % 96 ∉ [0, 24, 48, 72] →
     ∃ t, exec (.frameBoundary f) s = .next t ∧ t.dlc = { s.dlc with uplinkIn := t.dlc.uplinkIn }) ∧
  (∀ (s : State) (f : FrameIn), Live s → s.station.joinTimer ≠ some 0 →
     let k := (s.lif.frame + 1) % 96
     ∃ t, exec (.frameBoundary f) s = .next t ∧
       (k ∉ [12, 36, 60, 84] → t.booth.pollOut = s.booth.pollOut ∧ t.booth.window = s.booth.window ∧
         t.booth.dueWindow = s.booth.dueWindow ∧ t.booth.desks = s.booth.desks) ∧
       ∀ e < 4, k = 12 + 24 * e →
         (t.booth.dueWindow = s.booth.window) ∧
         (s.station.state = .unconfigured ∨ (deskOf s e).fitted = false →
           t.booth.pollOut = s.booth.pollOut ∧ t.booth.window = none ∧ t.booth.desks = s.booth.desks) ∧
         (s.station.state ≠ .unconfigured → (deskOf s e).fitted = true → ∃ p, t.booth.pollOut = some p ∧
           p.desk = e ∧ p.ack = (deskOf s e).ack ∧ t.booth.window = some e ∧
           t.booth.desks = s.booth.desks.zipIdx.map (fun (d, i) => if i = e then { d with lamp := p.lamp } else d) ∧
           (let d := deskOf s e
            let short := ∃ l ∈ s.lanes.shortage, d.output = some l
            let wants := ∃ w ∈ s.claims.languageWants, w.desk = e;
            (d.loopMark = true → p.lamp = .loop) ∧
            (d.loopMark = false → d.state = .onAir → short → p.lamp = .noLane) ∧
            (d.loopMark = false → d.state = .onAir → ¬ short → p.lamp = .onAir) ∧
            (d.loopMark = false → d.state = .intent ∨ d.state = .off ∧ wants → p.lamp = .intent) ∧
            (d.loopMark = false → d.state = .off → ¬ wants → d.engaged = true → p.lamp = .engaged) ∧
            (d.loopMark = false → d.state = .off → ¬ wants → d.engaged = false → p.lamp = .off))))

/-! ### House sync and the switch point -/

/-- A house sync mark (R8). In Locked it is the expected mark at frame 0, and moves nothing elsewhere. In Searching it
acquires the sync; away from the return from 95 to 0 it also sets the counter to 0, cuts the superframe short (R9),
discards the slot in progress (R3) and the incomplete wall histories (R21), and closes both windows in progress, each
classified on what has arrived (R56, R59, R124): a good reply is taken, no reply is a miss. The poll of the delegate
line goes to the next address, and no booth poll goes out before frame 12. Four points at one boundary are the model's
choice (log entry 7): the delegate line's window is classified before the booth port's; a mark at frame 24, 48 or 72
keeps the poll that the boundary has just sent; a booth poll that the boundary of frame 12, 36, 60 or 84 has just sent
is withdrawn, with its lamp and its window; and at those frames the window that closes is the one that ended there. -/
def Obligations.HouseSyncMark : Prop :=
  (∀ (s : State) (u : Option UnitReply) (d : Option DeskReply), Live s →
    (s.lif.sync = .locked → s.lif.frame = 0 →
      exec (.hsyncMark u d) s = .next { s with lif := { s.lif with markSeen := true } }) ∧
    (s.lif.sync = .locked → s.lif.frame ≠ 0 → exec (.hsyncMark u d) s = .next s) ∧
    (s.lif.sync = .searching → s.lif.frame = 0 → exec (.hsyncMark u d) s =
      .next { s with lif := { s.lif with sync := .locked, markMissing := 0, markSeen := true, acquired := true } }) ∧
    (s.lif.sync = .searching → s.lif.frame ≠ 0 → ∃ t, exec (.hsyncMark u d) s = .next t ∧
      t.lif = { s.lif with
        frame := 0, sync := .locked, markMissing := 0, markSeen := true, acquired := true, superframeAligned := false
        slotFrames := [], transmitting := false, latch := { s.lif.latch with control := none } } ∧
      t.walls = s.walls.map (fun w => { w with history := [] }) ∧
      t.station = s.station ∧ t.peers = s.peers ∧ t.room.members = s.room.members ∧ t.booth.window = none ∧
      (s.station.state ≠ .unconfigured → s.lif.frame ∉ [24, 48, 72] →
        t.dlc.window = some s.dlc.pointer ∧ t.dlc.dueWindow = none ∧
        (t.dlc.pollOut.map (·.address)) = some s.dlc.pointer ∧
        t.dlc.pointer = if seatCount s ≤ s.dlc.pointer then 1 else s.dlc.pointer + 1) ∧
      (s.lif.frame ∈ [24, 48, 72] → t.dlc.window = s.dlc.window ∧ t.dlc.dueWindow = none ∧
        t.dlc.pollOut = s.dlc.pollOut ∧ t.dlc.pointer = s.dlc.pointer))) ∧
  (∀ (s : State) (u : Option UnitReply) (d : Option DeskReply), Live s → s.lif.sync = .searching → s.lif.frame ≠ 0 →
    SizeLaw s →
    let polled := if s.lif.frame ∈ [24, 48, 72] then s.dlc.dueWindow else s.dlc.window
    let desk := if s.lif.frame ∈ [12, 36, 60, 84] then s.booth.dueWindow else s.booth.window
    ∃ t, exec (.hsyncMark u d) s = .next t ∧
      (∀ a ≤ 60, 1 ≤ a → polled = some a →
        (u = none → (unitOf s a).present = true → (unitOf s a).miss ≤ 2 →
          (unitOf t a).miss = (unitOf s a).miss + 1 ∧ ((unitOf t a).present = true ↔ (unitOf s a).miss < 2)) ∧
        (∀ r, u = some r → classifyUnit a u = .clean ∨ classifyUnit a u = .noisy →
          (unitOf t a).present = true ∧ (unitOf t a).miss = 0 ∧ (unitOf t a).ack = !(unitOf s a).ack ∧
          (unitOf t a).keys = (unitContent r).keys)) ∧
      (∀ a ≤ 60, 1 ≤ a → polled ≠ some a → (unitOf t a).miss = (unitOf s a).miss ∧
        (unitOf t a).ack = (unitOf s a).ack ∧ (unitOf t a).keys = (unitOf s a).keys) ∧
      (∀ e < 4, desk = some e →
        (d = none → (deskOf s e).present = true → (deskOf s e).miss ≤ 2 →
          (deskOf t e).miss = (deskOf s e).miss + 1 ∧ ((deskOf t e).present = true ↔ (deskOf s e).miss < 2)) ∧
        (∀ r, d.bind deskContent = some r → classifyDesk e d = .clean ∨ classifyDesk e d = .noisy →
          (deskOf t e).present = true ∧ (deskOf t e).miss = 0 ∧ (deskOf t e).ack = !(deskOf s e).ack ∧
          (deskOf t e).output = some r.output)) ∧
      (∀ e < 4, desk ≠ some e → (deskOf t e).miss = (deskOf s e).miss ∧ (deskOf t e).ack = (deskOf s e).ack ∧
        (deskOf t e).output = (deskOf s e).output)) ∧
  (∀ (s : State) (f : FrameIn) (u : Option UnitReply) (d : Option DeskReply), Live s → s.station.joinTimer ≠ some 0 →
    s.lif.sync = .searching → (s.lif.frame + 1) % 96 ∈ [12, 36, 60, 84] →
    ∃ t v, exec (.frameBoundary f) s = .next t ∧ exec (.hsyncMark u d) t = .next v ∧ v.booth.window = none ∧
      v.booth.pollOut = s.booth.pollOut ∧ v.booth.desks.map (·.lamp) = s.booth.desks.map (·.lamp))

/-- The unaligned count (R9): a switch point tests whether every frame of the superframe that has ended was aligned,
each frame boundary adding its frame to the test; a superframe cut short by the reset of the counter counts as
unaligned. -/
def Obligations.UnalignedCount : Prop :=
  ∀ s : State, Live s →
    (∃ t, exec .switchPoint s = .next t ∧
      (s.lif.superframeAligned = true → t.lif.unaligned = 0) ∧
      (s.lif.superframeAligned = false → t.lif.unaligned = min (s.lif.unaligned + 1) 3) ∧
      t.lif.superframeAligned = true) ∧
    (∀ f : FrameIn, ∃ t, exec (.frameBoundary f) s = .next t ∧ t.lif.unaligned = s.lif.unaligned ∧
      (t.lif.superframeAligned = true ↔
        s.lif.superframeAligned = true ∧ f.pattern = true ∧ s.lif.boundary = .hlck)) ∧
    (∀ u d, s.lif.sync = .searching → s.lif.frame ≠ 0 → ∃ t, exec (.hsyncMark u d) s = .next t ∧
      t.lif.unaligned = s.lif.unaligned ∧ t.lif.superframeAligned = false)

/-- Sync state, mark-missing and good counts at a switch point, and what they hand over (R8, R10): in Joining or
Running a count at its limit raises its flag and takes the station to Isolated; in Isolated a good count of 4 takes it
to Joining. What it hands over comes after its work, whatever that did: a switch point of a Joining or Running station
is its work and then a link failure, that of an Isolated station its work and then a link recovery, each with the
effect that its own row has where its condition holds. -/
def Obligations.SwitchPointJudgesTheLink : Prop :=
  (∀ s : State, Live s → ∃ t, exec .switchPoint s = .next t ∧
     (s.lif.sync = .searching → t.lif.sync = .searching ∧ t.lif.markMissing = s.lif.markMissing) ∧
     (s.lif.sync = .locked → s.lif.markSeen = true → t.lif.sync = .locked ∧ t.lif.markMissing = 0) ∧
     (s.lif.sync = .locked → s.lif.markSeen = false → t.lif.markMissing = min (s.lif.markMissing + 1) 2 ∧
       (t.lif.sync = .searching ↔ t.lif.markMissing = 2)) ∧
     t.lif.good = (if s.lif.sync = .locked ∧ s.lif.acquired = false ∧ s.lif.markSeen = true ∧
       s.lif.superframeAligned = true then min (s.lif.good + 1) 4 else 0) ∧
     (s.station.state = .unconfigured → t.station.state = .unconfigured) ∧
     (s.station.state = .joining ∨ s.station.state = .running → t.station.state =
       if 2 ≤ t.lif.markMissing ∨ 3 ≤ t.lif.unaligned then .isolated else s.station.state) ∧
     (s.station.state = .isolated → t.station.state = if t.lif.good = 4 then .joining else .isolated) ∧
     (t.port.flags.getLsbD 4 = true ↔ s.port.flags.getLsbD 4 = true ∨
       (s.station.state = .joining ∨ s.station.state = .running) ∧ 2 ≤ t.lif.markMissing) ∧
     (t.port.flags.getLsbD 5 = true ↔ s.port.flags.getLsbD 5 = true ∨
       (s.station.state = .joining ∨ s.station.state = .running) ∧ 3 ≤ t.lif.unaligned)) ∧
  (∀ s : State, Live s →
     let w := switchPointWork s
     (s.station.state = .unconfigured → exec .switchPoint s = .next w) ∧
     (s.station.state = .joining ∨ s.station.state = .running → exec .switchPoint s = exec .linkFailure w) ∧
     (s.station.state = .isolated → exec .switchPoint s = exec .linkRecovery w) ∧
     (HandsNothingOver s → exec .switchPoint s = .next w) ∧ w.station = s.station ∧
     (w.lif.markMissing = (evaluateLink s.lif).markMissing ∧ w.lif.unaligned = (evaluateLink s.lif).unaligned ∧
       w.lif.good = (evaluateLink s.lif).good))

/-- What a switch point advances (R16, R67, R80, R89, R91, R92, R132, R140, R145): switch points since arrival, Full
timers, ages of desks and Held lanes, the effective sources; ages, fades and speaking times of the open mics, with the
removal of what has faded out and the end of its hold, and the close with SpeakTimeExpired of what has used its
speaking time up; the request entries age and stand in list order. This is the work of every switch point; where it
hands nothing over, it is all. -/
def Obligations.SwitchPointAdvancesAgesAndFloor : Prop :=
  (∀ s : State, Live s →
     let t := switchPointWork s
     (HandsNothingOver s → exec .switchPoint s = .next t) ∧
     t.peers = s.peers.map (fun e => e.map (fun x => { x with since := min (x.since + 1) 65535 })) ∧
     t.dlc.units = s.dlc.units.map (fun u => { u with fullTimer := u.fullTimer - 1 }) ∧
     t.booth.desks = s.booth.desks.map (fun d => { d with
       onAirAge := if s.station.state ≠ .unconfigured ∧ d.state = .onAir then min (d.onAirAge + 1) 65535 else d.onAirAge
       selectionAge := if s.station.state ≠ .unconfigured ∧ d.fitted = true then min (d.selectionAge + 1) 65535
         else d.selectionAge
       source := d.pendingSource }) ∧
     t.lanes.holdings = s.lanes.holdings.map (fun h => if h.held then { h with age := min (h.age + 1) 65535 } else h) ∧
     t.station = s.station ∧ t.room = s.room ∧ t.walls = s.walls ∧ t.seats = s.seats ∧ t.lanes.shortage = s.lanes.shortage ∧
     t.claims.languages = s.claims.languages ∧ t.claims.lanes = s.claims.lanes ∧ t.floor.level = s.floor.level) ∧
  (∀ s : State, Live s →
     let aged : Mic → Mic := fun m => { m with
       age := min (m.age + 1) 65535
       phase := if m.phase = .opening ∧ 7 ≤ m.step then .opened else m.phase
       step := match m.phase with
         | .opening => min (m.step + 1) 8
         | .opened => 8
         | .closing => m.step - 1
       used := if m.cls ≤ 1 ∧ m.phase ≠ .closing then min (m.used + 1) 1800000 else m.used }
     let gone : Mic → Bool := fun m => m.phase = .closing ∧ m.step ≤ 1
     let expired : Mic → Bool := fun m => m.cls ≤ 1 ∧ m.phase ≠ .closing ∧ 0 < (context s).speakingTime ∧
       (context s).speakingTime * 500 ≤ m.used
     let t := switchPointWork s
     (HandsNothingOver s → exec .switchPoint s = .next t) ∧
       t.floor.mics = (((s.floor.mics.filter (fun m => !gone m)).map aged).map
         (fun m => if expired m then { m with phase := .closing } else m)) ∧
       (t.port.flags.getLsbD 7 = true ↔ s.port.flags.getLsbD 7 = true ∨
         (s.floor.mics.map aged).any expired = true) ∧
       t.claims.places = s.claims.places.filter (fun c =>
         !(c.stage == .hold && s.floor.mics.any (fun m => gone m && m.seat == c.seat))) ∧
       (∀ c ∈ s.claims.places, c ∉ t.claims.places → c.uplink < s.dlc.uplinks.length →
         t.dlc.uplinks[c.uplink]? = some none) ∧
       t.floor.requests.Perm (s.floor.requests.map (fun r => { r with age := min (r.age + 1) 65535 })) ∧
       t.floor.requests.Pairwise (fun a b => b.cls < a.cls ∨ b.cls = a.cls ∧
         (b.age < a.age ∨ b.age = a.age ∧ a.seat ≤ b.seat)))

/-- The plan a switch point latches (R112, R115, R116, R141, R152, R163), after the owners' switch-point rules: the
members, the own mics with their gains and fade steps, the number of open mics and its factor of Table 7-3, the
producing desks, the Held lanes as write set while the station is on the link, the downlink languages, the headphone
sources, and a listener source for every language that one of these two names: the own desk on air for it, else the
lowest lane a member announces Held for it, else the floor. Where a listener keeps its language and stops using the
lane that the plan before named, because an announcement has let it go, the plan keeps the lane, for the last sample
that R153 names (log entry 24). This is the work of every switch point; where it hands nothing over, it is all. -/
def Obligations.SwitchPointLatchesThePlan : Prop :=
  ∀ s : State, Live s →
    let t := switchPointWork s
    (HandsNothingOver s → exec .switchPoint s = .next t) ∧
    t.mix.plan.members = s.room.members ∧
    t.mix.plan.mics = t.floor.mics.map (fun m =>
      { uplink := m.uplink, step := m.step
        gain := match s.station.config.bind (fun c => c.seats.find? (fun e => e.seat == m.seat)) with
          | some e => e.gain
          | none => 32768 }) ∧
    t.mix.plan.openMics = ((memberPeers s).map (fun p =>
        (p.2.content.mics.filter (fun m => m.phase != .intent)).length)).sum +
      (if s.station.state = .running then s.mix.announced else t.floor.mics.length) ∧
    t.mix.plan.factor = [32768, 32768, 23170, 18919, 16384, 14654, 13378, 12385, 11585].getD
      (min t.mix.plan.openMics 8) 0 ∧
    (∀ e l, (⟨e, l⟩ : Producer) ∈ t.mix.plan.producers ↔
      ∃ d, s.booth.desks[e]? = some d ∧ d.state = .onAir ∧ d.output = some l) ∧
    t.lif.writeSet = (if s.station.state = .joining ∨ s.station.state = .running then
      (s.lanes.holdings.filter (·.held)).map (fun h => ⟨h.lane, h.language⟩) else []) ∧
    t.mix.plan.writeSet = t.lif.writeSet ∧ t.lif.latch.lanes = t.lif.writeSet ∧
    t.mix.plan.channels = s.seats.channels.map (fun c => c.map (·.language)) ∧
    t.mix.plan.headphones = s.booth.desks.map (·.pendingSource) ∧
    (∀ l src, (⟨l, src⟩ : Listening) ∈ t.mix.plan.listeners ↔
      ((∃ c ∈ s.seats.channels, c.map (·.language) = some l) ∨ (∃ d ∈ s.booth.desks, d.pendingSource = .language l)) ∧
      match src with
      | .ownDesk e => (∃ d, s.booth.desks[e]? = some d ∧ d.state = .onAir ∧ d.output = some l) ∧
          ∀ e' < e, ∀ d, s.booth.desks[e']? = some d → ¬ (d.state = .onAir ∧ d.output = some l)
      | .lane n => (∀ d ∈ s.booth.desks, ¬ (d.state = .onAir ∧ d.output = some l)) ∧
          (∃ p ∈ memberPeers s, ∃ x ∈ p.2.content.lanes, x.held = true ∧ x.language = l ∧ x.lane = n) ∧
          ∀ p ∈ memberPeers s, ∀ x ∈ p.2.content.lanes, x.held = true → x.language = l → n ≤ x.lane
      | .floor => (∀ d ∈ s.booth.desks, ¬ (d.state = .onAir ∧ d.output = some l)) ∧
          ∀ p ∈ memberPeers s, ∀ x ∈ p.2.content.lanes, x.held = true → x.language ≠ l) ∧
    (let stops : Nat → Nat → Prop := fun n l => (⟨n, l⟩ : LaneUse) ∈ s.booth.left ∧
        (⟨l, .lane n⟩ : Listening) ∉ t.mix.plan.listeners ∧
        (s.mix.plan.listeners.find? (fun x => x.language == l)).map (·.source) = some (.lane n);
      (∀ c n : Nat, t.mix.plan.channelsLeave[c]? = some (some n) ↔ ∃ l, s.mix.plan.channels[c]? = some (some l) ∧
        t.mix.plan.channels[c]? = some (some l) ∧ stops n l) ∧
      (∀ e n : Nat, t.mix.plan.headphonesLeave[e]? = some (some n) ↔ ∃ l, s.mix.plan.headphones[e]? = some (Source.language l) ∧
        t.mix.plan.headphones[e]? = some (Source.language l) ∧ stops n l)) ∧
    t.booth.left = []

/-- A link failure taken in Joining or Running (R171): Isolated with the timer stopped, the Peer Table empty,
membership {self} under the home context, mismatch marks clear and last-seen sequences none, lane intents gone and
Held lanes released, no Takeover intent left that names another station's desk, and the plan set to the station alone.
With no count at its limit, or in another state, nothing comes about (log entry 5, the model's choice). -/
def Obligations.LinkFailureIsolates : Prop :=
  ∀ s : State, Live s →
    let due := (s.station.state = .joining ∨ s.station.state = .running) ∧
      (2 ≤ s.lif.markMissing ∨ 3 ≤ s.lif.unaligned);
    (¬ due → exec .linkFailure s = .next s) ∧
    (due → LaneLaw s → ∃ t, exec .linkFailure s = .next t ∧
      t.station = { s.station with state := .isolated, joinTimer := none } ∧
      t.lif = { s.lif with writeSet := [], transmitting := false } ∧
      t.peers = List.replicate 16 none ∧ t.walls = s.walls ∧ t.seats = s.seats ∧
      t.room.members = [s.station.number] ∧ t.room.head = s.station.number ∧ t.room.adopted = homeContext s ∧
      t.room.marks = List.replicate 16 false ∧ t.room.lastSeen = List.replicate 16 none ∧
      t.room.queue = s.room.queue ∧ t.room.current = s.room.current ∧ t.room.counter = s.room.counter ∧
      t.lanes = ⟨[], []⟩ ∧ t.claims.lanes = [] ∧
      (∀ c ∈ t.claims.languages, isIntent c.stage = true → ∀ n ∈ c.displaced, n.station = s.station.number) ∧
      t.mix.plan.members = [s.station.number] ∧ t.mix.plan.writeSet = [] ∧
      t.mix.plan.openMics = s.floor.mics.length ∧ (∀ x ∈ t.mix.plan.listeners, ∀ n, x.source ≠ .lane n) ∧
      t.mix.plan.channelsLeave = List.replicate 8 none ∧ t.mix.plan.headphonesLeave = List.replicate 4 none ∧
      t.floor.mics.map (·.seat) = s.floor.mics.map (·.seat) ∧ t.dlc.uplinks = s.dlc.uplinks ∧
      (t.port.flags.getLsbD 4 = true ↔ s.port.flags.getLsbD 4 = true ∨ 2 ≤ s.lif.markMissing) ∧
      (t.port.flags.getLsbD 5 = true ↔ s.port.flags.getLsbD 5 = true ∨ 3 ≤ s.lif.unaligned) ∧
      (s.room.members ≠ [s.station.number] → t.port.flags.getLsbD 0 = true))

/-- A link recovery taken in Isolated (R172): the station enters Joining with epoch + 1 and 384 frames on the timer,
every intent is withdrawn and its uplink channel freed, the current room command is removed, last-seen sequences are
none. Otherwise nothing comes about (log entry 5, the model's choice). -/
def Obligations.LinkRecoveryRejoins : Prop :=
  ∀ s : State, Live s →
    let due := s.station.state = .isolated ∧ 4 ≤ s.lif.good;
    (¬ due → exec .linkRecovery s = .next s) ∧
    (due → ∃ t, exec .linkRecovery s = .next t ∧
      t.station = { s.station with state := .joining, joinTimer := some 384 } ∧
      t.lif = { s.lif with epoch := (s.lif.epoch + 1) % 256 } ∧
      (∀ c ∈ t.claims.places, c.stage = .hold) ∧ (∀ c ∈ t.claims.languages, c.stage = .hold) ∧
      (∀ c ∈ t.claims.lanes, c.stage = .hold) ∧
      (UplinkLaw s → ∀ c ∈ s.claims.places, c.stage ≠ .hold → t.dlc.uplinks[c.uplink]? = some none) ∧
      t.room.current = none ∧ t.room.queue = (if s.room.current = none then s.room.queue else s.room.queue.tail) ∧
      t.room.lastSeen = List.replicate 16 none ∧ t.room.members = [s.station.number] ∧
      t.room.adopted = homeContext s ∧ t.walls = s.walls ∧ t.seats = s.seats ∧ t.peers = s.peers)

/-- The three events of one open mic at a switch point (R89, R92), each as the table's row alone performs it: the
entry that reaches step 8 goes to Open, the entry that reaches step 0 leaves the table with its hold and its channel,
and the entry whose speaking time is used up closes with SpeakTimeExpired. Where its moment has not come a row changes
nothing (log entry 5, the model's choice). -/
def Obligations.OneMicAtASwitchPoint : Prop :=
  ∀ (s : State) (seat : Nat), Live s →
    exec (.fadeInComplete seat) s = .next { s with floor := { s.floor with mics := s.floor.mics.map (fun m =>
      if m.seat = seat ∧ m.phase = .opening ∧ 7 ≤ m.step then
        { m with
          age := min (m.age + 1) 65535, phase := .opened, step := 8
          used := if m.cls ≤ 1 then min (m.used + 1) 1800000 else m.used }
      else m) } } ∧
    ((¬ ∃ m ∈ s.floor.mics, m.seat = seat ∧ m.phase = .closing ∧ m.step ≤ 1) → exec (.fadeOutEnd seat) s = .next s) ∧
    ((∃ m ∈ s.floor.mics, m.seat = seat ∧ m.phase = .closing ∧ m.step ≤ 1) →
      ∃ t, exec (.fadeOutEnd seat) s = .next t ∧
        t.floor = { s.floor with mics := s.floor.mics.filter (fun m => m.seat ≠ seat) } ∧
        t.claims = { s.claims with places := s.claims.places.filter (fun c => ¬ (c.seat = seat ∧ c.stage = .hold)) } ∧
        (∀ c ∈ s.claims.places, c.seat = seat → c.stage = .hold → c.uplink < s.dlc.uplinks.length →
          t.dlc.uplinks[c.uplink]? = some none) ∧
        t = { s with floor := t.floor, claims := t.claims, dlc := { s.dlc with uplinks := t.dlc.uplinks } }) ∧
    (let due := ∃ m ∈ s.floor.mics, m.seat = seat ∧ m.cls ≤ 1 ∧ m.phase ≠ .closing ∧ 0 < (context s).speakingTime ∧
        (context s).speakingTime * 500 ≤ m.used;
      (¬ due → exec (.speakingTimeExpiry seat) s = .next s) ∧
      (due → exec (.speakingTimeExpiry seat) s = .next { s with
        floor := { s.floor with mics := s.floor.mics.map (fun m => if m.seat = seat then { m with phase := .closing } else m) }
        port := { s.port with flags := s.port.flags ||| BitVec.twoPow 16 7 } }))

/-! ### Own slot, settlement and conflicts -/

/-- What an own slot announces (R5, R12, R25, R54, R81, R90, R142): on the link the on-wire record holds the
announcement of the tables as they stand when the event is complete, with the room command of R102; it is transmitted
when the counter stands at the own slot. The walls are the configured ones in the order of the record, each with its
effective state; the requests are the first six of the eligible entries in list order and then the ineligible ones;
the desks are the Present ones in ascending order, each with its fields, with on-air age 0 unless OnAir, and with the
displaced name of its entry while OnAir and of its Takeover while in Intent. While Isolated nothing is composed; while
Unconfigured nothing is done. -/
def Obligations.OwnSlotAnnouncesTheTables : Prop :=
  ∀ s : State, Live s →
    (s.station.state = .unconfigured → exec .ownSlot s = .next s) ∧
    (s.station.state = .isolated → ∃ t, exec .ownSlot s = .next t ∧ t.lif = s.lif ∧ t.station = s.station) ∧
    (s.station.state = .joining ∨ s.station.state = .running → s.station.config ≠ none →
      ∃ t a, exec .ownSlot s = .next t ∧ t.lif.onWire = announcementBytes a ∧ t.lif.composing = t.lif.onWire ∧
        (t.lif.transmitting = true ↔ s.lif.frame = 5 * s.station.number) ∧
        a.station = s.station.number ∧ (a.running = true ↔ s.station.state = .running) ∧ a.epoch = s.lif.epoch ∧
        a.head = t.room.head ∧ some a.context = homeContext t ∧
        (∀ c, s.station.config = some c → a.walls = c.walls.map (fun e =>
          { neighbour := e.neighbour
            state := match (wallOf s e.input).setting with
              | .auto => (wallOf s e.input).debounced
              | .forceOpen => .opened
              | .forceClosed => .closed })) ∧
        (∀ m ∈ t.floor.mics, (⟨m.seat, m.cls, .mic m.phase, m.tag, m.age, m.displaced⟩ : AnnMic) ∈ a.mics) ∧
        (∀ c ∈ t.claims.places, c.stage = .hold ∨
          ∃ x ∈ a.mics, x.seat = c.seat ∧ x.cls = c.cls ∧ x.phase = .intent ∧ x.age = 0 ∧ x.displaced = c.displaced ∧
            ∀ tag, (unitOf t c.seat).tag = some tag → x.tag = tag) ∧
        a.mics.length = t.floor.mics.length + (t.claims.places.filter (fun c => isIntent c.stage)).length ∧
        a.mics.Pairwise (fun x y => x.seat ≤ y.seat) ∧
        a.requests = ((t.floor.requests.filter (fun r => (context t).level ≤ r.cls) ++
          t.floor.requests.filter (fun r => r.cls < (context t).level)).take 6).map (fun r => ⟨r.seat, r.cls, r.age⟩) ∧
        a.desks.map (·.desk) = (List.range t.booth.desks.length).filter (fun e => (deskOf t e).present) ∧
        (∀ x ∈ a.desks,
          let d := deskOf t x.desk
          x.output = d.output.getD 0 ∧ x.relay = d.relay ∧ x.state = d.state ∧ x.selectionAge = d.selectionAge ∧
          x.onAirAge = (if d.state = .onAir then d.onAirAge else 0) ∧
          (d.state = .onAir → x.displaced = d.displaced) ∧ (d.state = .off → x.displaced = none) ∧
          (d.state = .intent → x.displaced =
            (t.claims.languages.filter (fun c => c.desk = x.desk ∧ c.stage ≠ .hold)).head?.bind (·.displaced))) ∧
        a.lanes = t.lanes.holdings.map (fun h => ⟨h.held, h.lane, h.language, if h.held then h.age else 0⟩) ∧
        (∀ c, s.room.current = some c → a.sequence = c.sequence ∧ a.command = s.room.queue.head?) ∧
        (s.room.current = none → s.station.state = .joining ∨ s.room.queue = [] →
          a.sequence = s.room.counter ∧ a.command = none) ∧
        (s.room.current = none → s.station.state = .running → s.room.queue ≠ [] →
          a.sequence = (s.room.counter + 1) % 16 ∧ a.command = s.room.queue.head?))

/-- The room command queue and the wants at an own slot (R38, R41, R102): the front entry becomes current with the
next sequence number, is current for three own slots, in Isolated too, and then leaves the queue; in Joining none
becomes current. The want list is empty after every own slot. In Joining the claim table stays, every Press want is a
refused press (R74, R85) and every language want raises DeskEngaged (R130); its desk is engaged then where the room
has a holder of its language, for the source step of the same own slot clears the mark where there is none (R135). -/
def Obligations.OwnSlotQueueAndWants : Prop :=
  (∀ s : State, Live s → s.station.state ≠ .unconfigured → ∃ t, exec .ownSlot s = .next t ∧
     (s.station.state = .joining → s.room.current = none →
       t.room.queue = s.room.queue ∧ t.room.current = none ∧ t.room.counter = s.room.counter) ∧
     (s.station.state ≠ .joining →
       (s.room.current = none → s.room.queue = [] →
         t.room.queue = [] ∧ t.room.current = none ∧ t.room.counter = s.room.counter) ∧
       (s.room.current = none → s.room.queue ≠ [] → t.room.queue = s.room.queue ∧
         t.room.counter = (s.room.counter + 1) % 16 ∧ t.room.current = some ⟨(s.room.counter + 1) % 16, 1⟩) ∧
       ∀ c, s.room.current = some c → t.room.counter = s.room.counter ∧
         (c.repeats < 2 → t.room.queue = s.room.queue ∧ t.room.current = some ⟨c.sequence, c.repeats + 1⟩) ∧
         (2 ≤ c.repeats → t.room.queue = s.room.queue.tail ∧ t.room.current = none))) ∧
  (∀ s : State, Live s → s.station.state ≠ .unconfigured → ∃ t, exec .ownSlot s = .next t ∧
     t.claims.placeWants = [] ∧ t.claims.languageWants = [] ∧
     (s.station.state = .joining →
       t.claims.places = s.claims.places ∧ t.claims.languages = s.claims.languages ∧ t.claims.lanes = s.claims.lanes ∧
       t.floor = s.floor ∧
       (∀ w ∈ s.claims.placeWants, w.origin = .press → t.port.flags.getLsbD 6 = true ∧
         ((unitOf s w.seat).present = true → (unitOf t w.seat).fullTimer = 500)) ∧
       (∀ w ∈ s.claims.languageWants, t.port.flags.getLsbD 9 = true ∧
         (w.desk < s.booth.desks.length → (deskOf s w.desk).output = some w.language → hasHolder s w.language = true →
           (deskOf t w.desk).engaged = true))))

/-- The own slot while Running or Isolated does the claim work (R41): what it leaves of claims, channels and mics is
what the withdraw, settle, conflict and raise steps leave, in this order, after the room command work (R102) and the
desk conflict step (R133). The withdraw step takes out exactly the marked place and language intents (R42), the settle
step leaves no intent unsettled and every Hold of a place as it is (R49), so that every intent standing after the own
slot was raised at it, with its mark clear; and in the end every language in demand has a holding or is short (R53,
R150). A place want that stands alone is raised on the lowest Free uplink channel, or refused where no channel is Free
or where a free place is needed and there is none (R51). The withdraw step releases the Held lanes whose release mark
was set before the own slot and is still set, with their Holds, and takes out the lane intents that are marked or
whose language has no demand any more; every other lane stays (R151, R42). Every command keeps it so that a Held lane
has its release mark exactly while its language has no demand, and that only demanded languages are short (R146,
R150). -/
def Obligations.OwnSlotDoesTheClaimWork : Prop :=
  ((∀ s : State, Live s → s.station.state = .running ∨ s.station.state = .isolated → SizeLaw s → UplinkLaw s → LaneLaw s →
     DeskLaw s →
     let w := deskConflictStep (roomCommandWork s)
     let u := withdrawStep (markedLanes s) w
     let v := settleStep u
     u.claims.places = w.claims.places.filter (fun c => c.stage != .intent true) ∧
     u.claims.languages = w.claims.languages.filter (fun c => c.stage != .intent true) ∧
     (∀ c ∈ w.claims.places, c.stage = .intent true → u.dlc.uplinks[c.uplink]? = some none) ∧
     (let released : Holding → Prop := fun h => h.held = true ∧ h.release = true ∧
         ∃ x ∈ s.lanes.holdings, x.lane = h.lane ∧ x.held = true ∧ x.release = true
      let stays : LaneClaim → Prop := fun c => if c.stage = .hold then ∃ h ∈ w.lanes.holdings, h.lane = c.lane ∧ ¬ released h
        else c.stage = .intent false ∧ hasDemand w c.language = true;
      u.claims.lanes = w.claims.lanes.filter (fun c => c ∈ u.claims.lanes) ∧
      (∀ c ∈ w.claims.lanes, c ∈ u.claims.lanes ↔ stays c) ∧
      u.lanes.holdings = w.lanes.holdings.filter (fun h => h ∈ u.lanes.holdings) ∧
      (∀ h ∈ w.lanes.holdings, h ∈ u.lanes.holdings ↔ ∃ c ∈ u.claims.lanes, c.lane = h.lane) ∧
      (∀ h ∈ w.lanes.holdings, h.held = true → (h ∈ u.lanes.holdings ↔ ¬ released h))) ∧
     (∀ c ∈ v.claims.places, c.stage = .hold) ∧ (∀ c ∈ v.claims.languages, c.stage = .hold) ∧
     (∀ c ∈ v.claims.lanes, c.stage = .hold) ∧ (∀ c ∈ u.claims.places, c.stage = .hold → c ∈ v.claims.places) ∧
     ∃ t, exec .ownSlot s = .next t ∧ t.claims = (raiseStep (laneConflictStep v)).claims ∧
       t.dlc = (raiseStep (laneConflictStep v)).dlc ∧ t.floor = (raiseStep (laneConflictStep v)).floor ∧
       (∀ c ∈ t.claims.places, c.stage ≠ .intent true) ∧ (∀ c ∈ t.claims.languages, c.stage ≠ .intent true) ∧
       (∀ l ≤ 31, 1 ≤ l → hasDemand t l = true → (∃ h ∈ t.lanes.holdings, h.language = l) ∨ l ∈ t.lanes.shortage)) ∧
   (∀ (s : State) (w : PlaceWant), Live s → s.station.state = .running ∨ s.station.state = .isolated → UplinkLaw s →
     s.room.current = none → s.room.queue = [] → s.floor.requests = [] → s.claims.placeWants = [w] →
     (∀ c ∈ s.claims.places, c.stage = .hold ∧ c.seat ≠ w.seat) →
     let noPlace := w.displaced = none ∧ w.cls ≤ 1 ∧ freePlaces s = 0
     ∃ t, exec .ownSlot s = .next t ∧
       (∀ ch < 6, ¬ noPlace → s.dlc.uplinks[ch]? = some none → (∀ k < ch, s.dlc.uplinks[k]? ≠ some none) →
         t.claims.places = s.claims.places ++ [⟨.intent false, w.seat, w.cls, w.displaced, ch, w.origin⟩] ∧
         t.dlc.uplinks = s.dlc.uplinks.set ch (some w.seat)) ∧
       (noPlace ∨ (∀ k < 6, s.dlc.uplinks[k]? ≠ some none) →
         t.claims.places = s.claims.places ∧ t.dlc.uplinks = s.dlc.uplinks ∧
         (w.origin = .press → t.port.flags.getLsbD 6 = true)))) ∧
  ((∀ (s : State) (l : Nat), hasDemand s l = true ↔ s.station.state = .running ∧ 2 ≤ s.room.members.length ∧
      ∃ d ∈ s.booth.desks, d.state = .onAir ∧ d.output = some l) ∧
   (∀ (i : Instr) (s t : State),
      let marks : State → Prop := fun v => (∀ h ∈ v.lanes.holdings, h.held = true →
          (h.release = true ↔ hasDemand v h.language = false)) ∧ ∀ l ∈ v.lanes.shortage, hasDemand v l = true
      exec i s = .next t → StationLaw s → marks s → marks t))

/-- Settlement of a place intent (R44, R45, R49). A Normal one of class 0..1 wins exactly while counted holders and
higher-keyed counted intents are fewer than the speaker limit, so that it never takes the room above its limit; one of
class 2..3 always wins. A win makes the claim a Hold on its uplink channel with an open mic in Opening; a loss removes
the claim and frees the channel. An Override wins exactly when the mic it names is Opening or Open in the view, no
Override intent naming that mic has a higher key, and no sounding mic that displaced it is younger than it; the win
closes an own mic so named. -/
def Obligations.PlaceSettlement : Prop :=
  (∀ (s : State) (c : PlaceClaim), UplinkLaw s → c ∈ s.claims.places → isIntent c.stage = true →
     (c.displaced = none → (placeWins s c = true ↔ 2 ≤ c.cls ∨
       countedHolders s + ((countedIntents s).filter
         (fun k => placeHigher k ⟨c.cls, s.station.number, c.seat⟩)).length < (context s).speakerLimit)) ∧
     (c.displaced = none → c.cls ≤ 1 →
       countedHolders (settlePlace s c) ≤ max (countedHolders s) (context s).speakerLimit) ∧
     (placeWins s c = true →
       { c with stage := .hold } ∈ (settlePlace s c).claims.places ∧
       (settlePlace s c).dlc.uplinks = s.dlc.uplinks ∧
       (∀ r ∈ (settlePlace s c).floor.requests, r.seat ≠ c.seat) ∧
       ∃ m ∈ (settlePlace s c).floor.mics, m.seat = c.seat ∧ m.cls = c.cls ∧ m.uplink = c.uplink ∧ m.phase = .opening ∧
         m.step = 0 ∧ m.age = 0 ∧ m.used = 0 ∧ m.displaced = c.displaced) ∧
     (placeWins s c = false →
       (∀ x ∈ (settlePlace s c).claims.places, x.seat ≠ c.seat) ∧
       (settlePlace s c).dlc.uplinks = s.dlc.uplinks.set c.uplink none ∧
       (settlePlace s c).floor = s.floor ∧
       (c.origin = .press → (settlePlace s c).port.flags.getLsbD 6 = true))) ∧
  (∀ (s : State) (c : PlaceClaim) (n : Named), UplinkLaw s → c ∈ s.claims.places → isIntent c.stage = true →
     c.displaced = some n →
     (placeWins s c = true → ∃ m ∈ roomMics s, m.station = n.station ∧ m.seat = n.item ∧
       (∀ x ∈ s.claims.places, isIntent x.stage = true → x.displaced = some n →
         placeHigher ⟨x.cls, s.station.number, x.seat⟩ ⟨c.cls, s.station.number, c.seat⟩ = false) ∧
       (∀ p ∈ memberPeers s, ∀ x ∈ p.2.content.mics, x.phase = .intent → x.displaced = some n →
         placeHigher ⟨x.cls, p.1, x.seat⟩ ⟨c.cls, s.station.number, c.seat⟩ = false) ∧
       ∀ y ∈ roomMics s, y.displaced = some n → m.age ≤ y.age) ∧
     ((∀ m ∈ roomMics s, ¬ (m.station = n.station ∧ m.seat = n.item)) → placeWins s c = false) ∧
     ((∃ m ∈ roomMics s, m.station = n.station ∧ m.seat = n.item) →
       (∀ k ∈ overrideKeys s n, placeHigher k ⟨c.cls, s.station.number, c.seat⟩ = false) →
       (∀ m ∈ roomMics s, m.station = n.station → m.seat = n.item → ∀ y ∈ roomMics s, y.displaced = some n →
         m.age ≤ y.age) → placeWins s c = true) ∧
     (placeWins s c = true → n.station = s.station.number →
       ∀ m ∈ (settlePlace s c).floor.mics, m.seat = n.item → m.phase = .closing))

/-- Settlement of a language intent (R46, R47, R49, R130): a Normal one wins exactly when the room has no holder of
its language and no language intent for it has a higher key; a Takeover exactly when the desk it names is on air for
the language in the view and no other Takeover intent naming that desk has a higher key. A win sets the desk OnAir
with on-air age 0 and makes the claim a Hold, and every other own desk on air for the language, the named one or not,
goes Off, engaged, with the end of its hold: for a desk not named that is R134 as the model reads it beside R47 and
R130 (log entry 20), and that its on-air age and displaced name stay is the model's choice (log entry 14). A loss
removes the claim and sets the desk Off, engaged. -/
def Obligations.LanguageSettlement : Prop :=
  ∀ (s : State) (c : LanguageClaim), c ∈ s.claims.languages → isIntent c.stage = true → c.desk < s.booth.desks.length →
    (c.displaced = none → (languageWins s c = true ↔
      (∀ d ∈ s.booth.desks, ¬ (d.state = .onAir ∧ d.output = some c.language)) ∧
      (∀ p ∈ memberPeers s, ∀ x ∈ p.2.content.desks, ¬ (x.state = .onAir ∧ x.output = c.language)) ∧
      (∀ x ∈ s.claims.languages, isIntent x.stage = true → x.language = c.language → c.desk ≤ x.desk) ∧
      ∀ p ∈ memberPeers s, ∀ x ∈ p.2.content.desks, x.state = .intent → x.output = c.language →
        s.station.number < p.1 ∨ s.station.number = p.1 ∧ c.desk ≤ x.desk)) ∧
    (∀ n, c.displaced = some n → (languageWins s c = true ↔
      ((n.station = s.station.number ∧ (∃ d, s.booth.desks[n.item]? = some d ∧ d.state = .onAir ∧ d.output = some c.language)) ∨
        ∃ p ∈ memberPeers s, p.1 = n.station ∧ ∃ x ∈ p.2.content.desks, x.desk = n.item ∧ x.state = .onAir ∧
          x.output = c.language) ∧
      (∀ x ∈ s.claims.languages, isIntent x.stage = true → x.displaced = some n → c.desk ≤ x.desk) ∧
      (∀ p ∈ memberPeers s, ∀ x ∈ p.2.content.desks, x.state = .intent → x.displaced = some n →
        s.station.number < p.1 ∨ s.station.number = p.1 ∧ c.desk ≤ x.desk))) ∧
    (languageWins s c = true → ∀ e < 4, e ≠ c.desk →
      let aside := (deskOf s e).state = .onAir ∧ (deskOf s e).output = some c.language
      (aside → deskOf (settleLanguage s c) e = { deskOf s e with state := .off, engaged := true } ∧
        (settleLanguage s c).port.flags.getLsbD 9 = true ∧
        ∀ x ∈ (settleLanguage s c).claims.languages, x.desk = e → x.stage ≠ .hold) ∧
      (¬ aside → deskOf (settleLanguage s c) e = deskOf s e ∧
        ∀ x ∈ s.claims.languages, x.desk = e → x ∈ (settleLanguage s c).claims.languages)) ∧
    (languageWins s c = true → ∃ d, (settleLanguage s c).booth.desks[c.desk]? = some d ∧ d.state = .onAir ∧
      d.onAirAge = 0 ∧ d.displaced = c.displaced ∧ d.engaged = false ∧
      (c.displaced ≠ some ⟨s.station.number, c.desk⟩ → { c with stage := .hold } ∈ (settleLanguage s c).claims.languages) ∧
      (∀ n, c.displaced = some n → n.station = s.station.number → n.item ≠ c.desk →
        (∀ x ∈ (settleLanguage s c).claims.languages, x.desk = n.item → x.stage ≠ .hold) ∧
        ∀ x, (settleLanguage s c).booth.desks[n.item]? = some x → x.state = .off ∧ x.engaged = true)) ∧
    (languageWins s c = false → ∃ d, (settleLanguage s c).booth.desks[c.desk]? = some d ∧ d.state = .off ∧
      d.engaged = true ∧ (settleLanguage s c).port.flags.getLsbD 9 = true ∧
      ∀ x ∈ (settleLanguage s c).claims.languages, x.desk = c.desk → x.stage = .hold)

/-- Settlement of a lane intent (R48): it wins exactly when no Running peer, of whatever room, announces the lane Held
and none with a lower number announces it as Intent. A win makes claim and holding Held with hold age 0, a loss
removes both. -/
def Obligations.LaneSettlement : Prop :=
  ∀ (s : State) (c : LaneClaim), LaneLaw s → c ∈ s.claims.lanes → isIntent c.stage = true →
    (laneWins s c = true ↔ ∀ t < 16, t ≠ s.station.number → ∀ e, peerAt s t = some e → e.content.running = true →
      ∀ x ∈ e.content.lanes, x.lane = c.lane → x.held = false ∧ ¬ t < s.station.number) ∧
    (laneWins s c = true → { c with stage := .hold } ∈ (settleLane s c).claims.lanes ∧
      ∃ h ∈ (settleLane s c).lanes.holdings, h.lane = c.lane ∧ h.language = c.language ∧ h.held = true ∧ h.age = 0) ∧
    (laneWins s c = false → (∀ x ∈ (settleLane s c).claims.lanes, x.lane ≠ c.lane) ∧
      ∀ h ∈ (settleLane s c).lanes.holdings, h.lane ≠ c.lane)

/-- The raise step, want by want. A place want (R51): dropped without effect where its seat is busy; refused where no
uplink channel is Free, or where it needs a free place and there is none; otherwise an Intent on the lowest Free
channel. A language want (R52): dropped where its desk has an entry; the desk engaged where a Normal one finds a
holder; otherwise an Intent, and the desk in Intent. A lane search (R53, R148, R149, R150): for each language in
demand without a holding, an Intent and a holding on the lowest free lane, or the language short with LaneShortage.
The lane view (R147): the lane that the search finds is the lowest of 16..63 that no Running peer, of whatever room,
announces in either state and that the own holdings do not name; it finds none exactly when every lane is busy. -/
def Obligations.RaiseStepRaisesOrRefuses : Prop :=
  ((∀ (s : State) (w : PlaceWant),
     let t := raisePlace s w
     let busy := (∃ c ∈ s.claims.places, c.seat = w.seat) ∨ ∃ m ∈ s.floor.mics, m.seat = w.seat
     let noChannel := ∀ x ∈ s.dlc.uplinks, x ≠ none
     let noPlace := w.displaced = none ∧ w.cls ≤ 1 ∧ freePlaces s = 0
     (busy → t = s) ∧
     (¬ busy → noChannel ∨ noPlace → t.claims = s.claims ∧ t.dlc.uplinks = s.dlc.uplinks ∧ t.floor = s.floor ∧
       (w.origin = .press → t.port.flags.getLsbD 6 = true) ∧ (w.origin ≠ .press → t = s)) ∧
     (∀ ch < s.dlc.uplinks.length, ¬ busy → ¬ noPlace → s.dlc.uplinks[ch]? = some none →
       (∀ k < ch, s.dlc.uplinks[k]? ≠ some none) → t = { s with
         claims := { s.claims with
           places := s.claims.places ++ [⟨.intent false, w.seat, w.cls, w.displaced, ch, w.origin⟩] }
         dlc := { s.dlc with uplinks := s.dlc.uplinks.set ch (some w.seat) } })) ∧
   (∀ (s : State) (w : LanguageWant), w.desk < s.booth.desks.length →
     let t := raiseLanguage s w
     let busy := ∃ c ∈ s.claims.languages, c.desk = w.desk
     (busy → t = s) ∧
     (¬ busy → w.displaced = none → holders s w.language ≠ [] → t.claims = s.claims ∧
       deskOf t w.desk = { deskOf s w.desk with engaged := true } ∧ t.port.flags.getLsbD 9 = true) ∧
     (¬ busy → w.displaced ≠ none ∨ holders s w.language = [] →
       t.claims = { s.claims with
         languages := s.claims.languages ++ [⟨.intent false, w.desk, w.language, w.displaced⟩] } ∧
       deskOf t w.desk = { deskOf s w.desk with state := .intent } ∧ t.port = s.port)) ∧
   (∀ (s : State) (l : Nat),
     let t := raiseLane s l
     (∀ n, lowestFreeLane s = some n → t.claims = { s.claims with lanes := s.claims.lanes ++ [⟨.intent false, n, l⟩] } ∧
       t.lanes.holdings.Perm (⟨n, l, false, 0, false⟩ :: s.lanes.holdings) ∧ l ∉ t.lanes.shortage) ∧
     (lowestFreeLane s = none → t.claims = s.claims ∧ t.lanes.holdings = s.lanes.holdings ∧ l ∈ t.lanes.shortage ∧
       t.port.flags.getLsbD 11 = true) ∧
     (l ∈ unmetLanguages s ↔ 1 ≤ l ∧ l ≤ 31 ∧ s.station.state = .running ∧ 2 ≤ s.room.members.length ∧
       (∃ d ∈ s.booth.desks, d.state = .onAir ∧ d.output = some l) ∧ ∀ h ∈ s.lanes.holdings, h.language ≠ l))) ∧
  (∀ s : State,
     let busy : Nat → Prop := fun n =>
       (∃ t < 16, t ≠ s.station.number ∧ ∃ e, peerAt s t = some e ∧ e.content.running = true ∧
         ∃ x ∈ e.content.lanes, x.lane = n) ∨ ∃ h ∈ s.lanes.holdings, h.lane = n;
     (∀ n, laneBusy s n = true ↔ busy n) ∧
     (∀ n, lowestFreeLane s = some n ↔ 16 ≤ n ∧ n ≤ 63 ∧ ¬ busy n ∧ ∀ k, 16 ≤ k → k < n → busy k) ∧
     (lowestFreeLane s = none ↔ ∀ n, 16 ≤ n → n ≤ 63 → busy n))

/-- Conflicts and displacement. Lane holder conflict (R50): a Held lane is kept exactly where it is kept by age and
number against every Running peer that announces it Held, and is otherwise given up with its Hold. Desk conflict
(R133), while Running: an own desk on air goes Off, engaged, exactly where another holder of its language among the
member peers names it as displaced or keeps against it; that its on-air age and displaced name stay then is the
model's choice (log entry 14). Displacement at an arrival, from any room (R88, R131): the own mics of class 0..1 and
the own desks on air that the announcement names as displaced, and that are older than what it names them by, are
closed or set Off; no other desk changes. -/
def Obligations.ConflictAndDisplacement : Prop :=
  (∀ s : State, LaneLaw s →
    let t := laneConflictStep s
    let keeps : Nat → Nat → Prop := fun n age => ∀ k < 16, k ≠ s.station.number → ∀ e, peerAt s k = some e →
      e.content.running = true → ∀ x ∈ e.content.lanes, x.lane = n → x.held = true →
        if s.station.number < k then min (x.age + e.since) 65535 < age + 2 else min (x.age + e.since) 65535 + 3 ≤ age
    (∀ h ∈ t.lanes.holdings, h ∈ s.lanes.holdings) ∧
    (∀ h ∈ s.lanes.holdings, h.held = false ∨ keeps h.lane h.age →
      h ∈ t.lanes.holdings ∧ ∀ c ∈ s.claims.lanes, c.lane = h.lane → c ∈ t.claims.lanes) ∧
    (∀ h ∈ s.lanes.holdings, h.held = true → ¬ keeps h.lane h.age →
      (∀ x ∈ t.lanes.holdings, x.lane ≠ h.lane) ∧ ∀ c ∈ t.claims.lanes, c.lane ≠ h.lane)) ∧
  (∀ s : State, s.booth.desks.length = 4 →
    let t := deskConflictStep s
    let yields : Nat → Prop := fun e => s.station.state = .running ∧ (deskOf s e).state = .onAir ∧
      ∃ p ∈ memberPeers s, ∃ x ∈ p.2.content.desks, x.state = .onAir ∧ (deskOf s e).output = some x.output ∧
        (x.displaced = some ⟨s.station.number, e⟩ ∨
          if s.station.number < p.1 then (deskOf s e).onAirAge + 2 ≤ min (x.onAirAge + p.2.since) 65535
          else (deskOf s e).onAirAge < min (x.onAirAge + p.2.since) 65535 + 3)
    (∀ e < 4, yields e → deskOf t e = { deskOf s e with state := .off, engaged := true } ∧ t.port.flags.getLsbD 9 = true ∧
      ∀ c ∈ t.claims.languages, c.desk = e → c.stage ≠ .hold) ∧
    (∀ e < 4, ¬ yields e → deskOf t e = deskOf s e ∧ ∀ c ∈ s.claims.languages, c.desk = e → c ∈ t.claims.languages)) ∧
  (∀ (s : State) (t : Nat) (frames : List (Bool × List Byte)) (a : Announcement), Live s → SizeLaw s →
    s.station.state = .joining ∨ s.station.state = .running → s.lif.closedSlot = some (t, frames) → t < 16 →
    t ≠ s.station.number → validAnnouncement t frames = some a →
    let named : Nat → Prop := fun e => (deskOf s e).state = .onAir ∧ ∃ x ∈ a.desks, x.state = .onAir ∧
      x.displaced = some ⟨s.station.number, e⟩ ∧ (deskOf s e).output = some x.output ∧ x.onAirAge < (deskOf s e).onAirAge
    ∃ u, exec (.slotClose t) s = .next u ∧
      (∀ m ∈ u.floor.mics, m.cls ≤ 1 → (∃ x ∈ a.mics, x.phase ≠ .intent ∧ x.displaced = some ⟨s.station.number, m.seat⟩ ∧
        x.age < m.age) → m.phase = .closing) ∧
      (∀ e < 4, named e → (deskOf u e).state = .off ∧ (deskOf u e).engaged = true ∧ u.port.flags.getLsbD 9 = true ∧
        ∀ c ∈ u.claims.languages, c.desk = e → c.stage ≠ .hold) ∧
      (∀ e < 4, ¬ named e → (deskOf u e).state = (deskOf s e).state ∧ (deskOf u e).engaged = (deskOf s e).engaged)) ∧
  (∀ (s : State) (a : Announcement), applyOverrides a s = { s with floor := { s.floor with
    mics := s.floor.mics.map (fun m =>
      if m.phase ≠ .closing ∧ m.cls ≤ 1 ∧ ∃ x ∈ a.mics, x.phase ≠ .intent ∧
        x.displaced = some ⟨s.station.number, m.seat⟩ ∧ x.age < m.age then { m with phase := .closing } else m) } })

/-- The source step of an own slot (R139, R140): it follows the claim work, and the loop check comes first in it. The
own desks are examined in ascending order, each on the state that the one before leaves. A desk on air that relays a
language is in a loop where the path from that language, holder by holder, comes back to its own output language in at
most four steps; it is forced where it loses against every other manual-relay holder met, and then its selection is
Floor with age 0, its loop mark is set and RelayLoop (bit 10) is raised. Then every desk without a holder of its
output language in the room loses the engaged mark (R135), and every pending source is worked out: Floor, the language
selected, or what Auto resolves to. Of several holders of a language the one with the greatest on-air age is taken,
ties to the lower station and then the lower desk. The holders of a language are the own desks and the members' desks
that are OnAir with it. -/
def Obligations.LoopCheckAndSourceStep : Prop :=
  (∀ s : State, Live s → s.station.state ≠ .unconfigured →
     let v := sourceStep (claimWork (markedLanes s) (deskConflictStep (roomCommandWork s)))
     ∃ t, exec .ownSlot s = .next t ∧ t.booth = v.booth ∧ t.port = v.port) ∧
  (∀ s : State, s.booth.desks.length = 4 →
     let first : State → Nat → Holder → Prop := fun u m h =>
       firstHolder (fun x => min (x.onAirAge + x.since) 65535) (holders u m) = some h
     let leads : State → Holder → Nat → Prop := fun u h n =>
       h.relay = .language n ∨ h.relay = .auto ∧ n = (context u).pivot ∧ n ≠ 0 ∧ n ≠ h.output
     let path : State → Nat → Nat → List Holder → Prop := fun u l o hs => 1 ≤ hs.length ∧ hs.length ≤ 4 ∧
       ∃ ms : List Nat, ms.length = hs.length + 1 ∧ ms[0]? = some l ∧
         (∀ i < hs.length, ∀ m h n, ms[i]? = some m → hs[i]? = some h → ms[i + 1]? = some n →
           first u m h ∧ leads u h n ∧ (n = o ↔ i + 1 = hs.length))
     let loses : State → Nat → Holder → Prop := fun u e h =>
       if h.station = u.station.number then
         (deskOf u e).selectionAge < h.selectionAge ∨ (deskOf u e).selectionAge = h.selectionAge ∧ h.desk < e
       else if u.station.number < h.station then
         (deskOf u e).selectionAge + 2 ≤ min (h.selectionAge + h.since) 65535
       else (deskOf u e).selectionAge < min (h.selectionAge + h.since) 65535 + 3
     let forced : State → Nat → Prop := fun u e => (deskOf u e).state = .onAir ∧
       ∃ o l hs, (deskOf u e).output = some o ∧ (deskOf u e).relay = .language l ∧ path u l o hs ∧
         ∀ h ∈ hs, (∃ n, h.relay = .language n) → loses u e h
     let t := loopCheck s
     (∃ w : Nat → State, w 0 = s ∧ w 4 = t ∧ ∀ e < 4,
       (forced (w e) e → w (e + 1) = { w e with
         booth := { (w e).booth with desks := (w e).booth.desks.set e { deskOf (w e) e with
           relay := .floor, selectionAge := 0, loopMark := true } }
         port := { (w e).port with flags := (w e).port.flags ||| BitVec.twoPow 16 10 } }) ∧
       (¬ forced (w e) e → w (e + 1) = w e)) ∧
     sourceStep s = { t with booth := { t.booth with desks := t.booth.desks.map (fun d => { d with
       engaged := d.engaged && d.output.any (fun l => hasHolder t l)
       pendingSource := match d.relay with
         | .floor => .floor
         | .language l => .language l
         | .auto => resolveAuto t d }) } }) ∧
  (∀ (age : Holder → Nat) (hs : List Holder),
     (firstHolder age hs = none ↔ hs = []) ∧
     ∀ h, firstHolder age hs = some h → h ∈ hs ∧ ∀ x ∈ hs, age x < age h ∨ age x = age h ∧
       (h.station < x.station ∨ h.station = x.station ∧ h.desk ≤ x.desk)) ∧
  (∀ (s : State) (l : Nat) (h : Holder), h ∈ holders s l ↔
     (∃ e d, s.booth.desks[e]? = some d ∧ d.state = .onAir ∧ d.output = some l ∧
       h = ⟨s.station.number, e, l, d.relay, d.onAirAge, d.selectionAge, 0, d.displaced⟩) ∨
     ∃ p ∈ memberPeers s, ∃ d ∈ p.2.content.desks, d.state = .onAir ∧ d.output = l ∧
       h = ⟨p.1, d.desk, l, d.relay, d.onAirAge, d.selectionAge, p.2.since, d.displaced⟩)

/-- The counts and the ranking that the floor works with. Places (R43): counted holders, counted intents and free
places, from the own tables and the members' announcements; the mics of the room are the own ones and the members' in
phase Opening or Open. The room ranking (R82): the eligible requests of the station and of its members whose seat has
no place intent, by class and age descending, then station and seat ascending. Auto-advance (R83): in Queue mode with
auto-advance, the raise step files a want of origin AutoAdvance for each own entry among as many entries of the
ranking as there are free places, in place of a want of the same seat, and no other; an own slot with one eligible
request and nothing else to do raises it. -/
def Obligations.PlacesAndRoomRanking : Prop :=
  (∀ s : State,
     (∀ t e, (t, e) ∈ memberPeers s ↔
       t < 16 ∧ t ≠ s.station.number ∧ t ∈ s.room.members ∧ peerAt s t = some e ∧ e.content.running = true) ∧
     ((memberPeers s).map (·.1)).Pairwise (· < ·) ∧
     countedHolders s = (s.floor.mics.filter (fun m => m.cls ≤ 1 ∧ m.phase ≠ .closing)).length +
       ((memberPeers s).map (fun p => (p.2.content.mics.filter (fun m =>
         m.cls ≤ 1 ∧ (m.phase = .mic .opening ∨ m.phase = .mic .opened))).length)).sum ∧
     (countedIntents s).Perm
       ((s.claims.places.filter (fun c => c.cls ≤ 1 ∧ c.stage ≠ .hold)).map (fun c => ⟨c.cls, s.station.number, c.seat⟩) ++
        (memberPeers s).flatMap (fun p => (p.2.content.mics.filter (fun m => m.cls ≤ 1 ∧ m.phase = .intent)).map
          (fun m => ⟨m.cls, p.1, m.seat⟩))) ∧
     (freePlaces s : Int) = max 0 ((context s).speakerLimit - countedHolders s - (countedIntents s).length : Int) ∧
     ∀ x : RoomMic, x ∈ roomMics s ↔
       (∃ m ∈ s.floor.mics, m.phase ≠ .closing ∧ x = ⟨s.station.number, m.seat, m.cls, m.age, m.tag, m.displaced⟩) ∨
       ∃ p ∈ memberPeers s, ∃ m ∈ p.2.content.mics, (m.phase = .mic .opening ∨ m.phase = .mic .opened) ∧
         x = ⟨p.1, m.seat, m.cls, m.age, m.tag, m.displaced⟩) ∧
  (∀ s : State,
     let below : Ranked → Ranked → Prop := fun a b => a.cls < b.cls ∨ a.cls = b.cls ∧ (a.age < b.age ∨ a.age = b.age ∧
       (b.station < a.station ∨ b.station = a.station ∧ b.seat ≤ a.seat))
     (roomRanking s).Pairwise (fun a b => below b a) ∧
     (roomRanking s).Perm
       ((s.floor.requests.filter (fun r => (context s).level ≤ r.cls ∧
           ∀ c ∈ s.claims.places, c.seat = r.seat → c.stage = .hold)).map
             (fun r => ⟨s.station.number, r.seat, r.cls, r.age⟩) ++
        (memberPeers s).flatMap (fun p => (p.2.content.requests.filter (fun r => (context s).level ≤ r.cls ∧
           ∀ m ∈ p.2.content.mics, m.seat = r.seat → m.phase ≠ .intent)).map
             (fun r => ⟨p.1, r.seat, r.cls, r.age⟩)))) ∧
  (∀ s : State, s.station.state ≠ .unconfigured →
     let t := deriveAutoAdvance s
     let granted := ((roomRanking s).take (freePlaces s)).filter (fun r => r.station = s.station.number)
     let live : Nat → Prop := fun seat => ∃ c ∈ s.claims.places, c.seat = seat ∧ c.stage ≠ .intent true
     raiseStep s = (unmetLanguages (raiseLanguages (raisePlaces t))).foldl raiseLane (raiseLanguages (raisePlaces t)) ∧
     t = { s with claims := { s.claims with placeWants := t.claims.placeWants } } ∧
     ((context s).mode ≠ .queue ∨ (context s).autoAdvance = false ∨ freePlaces s = 0 → t = s) ∧
     ((context s).mode = .queue → (context s).autoAdvance = true → ∀ w : PlaceWant, w ∈ t.claims.placeWants ↔
       (w ∈ s.claims.placeWants ∧ ∀ r ∈ granted, r.seat = w.seat → live r.seat) ∨
       ∃ pre r post, granted = pre ++ r :: post ∧ (∀ x ∈ post, x.seat ≠ r.seat) ∧ ¬ live r.seat ∧
         w = ⟨r.seat, r.cls, none, .autoAdvance⟩)) ∧
  (∀ (s : State) (r : Request), Live s → s.station.state = .running ∨ s.station.state = .isolated → UplinkLaw s →
     s.room.current = none → s.room.queue = [] → s.room.members = [s.station.number] → s.floor.requests = [r] →
     s.claims.placeWants = [] → (∀ c ∈ s.claims.places, c.stage = .hold ∧ c.seat ≠ r.seat) →
     (context s).mode = .queue → (context s).autoAdvance = true → (context s).level ≤ r.cls → 0 < freePlaces s →
     ∀ ch < 6, s.dlc.uplinks[ch]? = some none → (∀ k < ch, s.dlc.uplinks[k]? ≠ some none) →
       ∃ t, exec .ownSlot s = .next t ∧
         t.claims.places = s.claims.places ++ [⟨.intent false, r.seat, r.cls, none, ch, .autoAdvance⟩] ∧
         t.dlc.uplinks = s.dlc.uplinks.set ch (some r.seat))

/-- Two stations of one hall. Members produce the same floor sample when their latched member sets and factors are
equal and each has every member's partial of the frame before: its own computed one, and the others from their lanes
(R117). Stations that each see the other's intent, and as many holders, never both win the last place: the static keys
are in order, and the lower one counts the higher (R44, section 3.10). -/
def Obligations.TwoStationsAgree : Prop :=
  (∀ s s' : State, s.mix.plan.members.Perm s'.mix.plan.members → s.mix.plan.factor = s'.mix.plan.factor →
     (∀ t ∈ s.mix.plan.members,
       (if t = s.station.number then s.mix.ownPartial else s.lif.lanesIn.getD t 0) =
       (if t = s'.station.number then s'.mix.ownPartial else s'.lif.lanesIn.getD t 0)) →
     floorSample s = floorSample s') ∧
  (∀ (s s' : State) (c c' : PlaceClaim),
     c.displaced = none → c'.displaced = none → c.cls ≤ 1 → c'.cls ≤ 1 → s.station.number ≠ s'.station.number →
     (⟨c'.cls, s'.station.number, c'.seat⟩ : PlaceKey) ∈ countedIntents s →
     (⟨c.cls, s.station.number, c.seat⟩ : PlaceKey) ∈ countedIntents s' →
     countedHolders s + 1 = (context s).speakerLimit → countedHolders s' + 1 = (context s').speakerLimit →
     ¬ (placeWins s c = true ∧ placeWins s' c' = true))

/-! ### Slot closes, peers and rooms -/

/-- A valid announcement at its slot close, on the link (R3, R16, R17, R103, R31): the entry takes the content whole
with both counts 0, PeerChanged is raised at an arrival, a change of state or of epoch, the membership is formed anew,
the announced sequence becomes the last seen, the mismatch mark follows the heads, and the lanes that a member holds
no more are noted for the next switch point, the model's own bookkeeping for R153 (log entry 24). -/
def Obligations.AnnouncementArrives : Prop :=
  ∀ (s : State) (t : Nat) (frames : List (Bool × List Byte)) (a : Announcement), Live s → SizeLaw s →
    s.station.state = .joining ∨ s.station.state = .running → s.lif.closedSlot = some (t, frames) → t < 16 →
    t ≠ s.station.number → validAnnouncement t frames = some a →
    ∃ u, exec (.slotClose t) s = .next u ∧ u.lif = { s.lif with closedSlot := none } ∧ u.station = s.station ∧
      u.peers = s.peers.set t (some ⟨0, 0, a⟩) ∧
      (u.port.flags.getLsbD 3 = true ↔ s.port.flags.getLsbD 3 = true ∨
        ∀ e, peerAt s t = some e → e.content.epoch ≠ a.epoch ∨ e.content.running ≠ a.running) ∧
      u.room.members = membershipOf { s with peers := u.peers } ∧
      (u.room.members ≠ s.room.members → u.port.flags.getLsbD 0 = true) ∧
      u.room.lastSeen[t]? = some (some a.sequence) ∧
      (let differs := s.station.state = .running ∧ t ∈ u.room.members ∧ a.head ≠ u.room.head;
        (u.room.marks[t]? = some true ↔ differs) ∧
        (u.port.flags.getLsbD 14 = true ↔ s.port.flags.getLsbD 14 = true ∨
          differs ∧ s.room.marks[t]? = some true)) ∧
      u.walls = s.walls ∧ u.dlc.uplinks = s.dlc.uplinks ∧ u.seats = s.seats ∧ u.mix = s.mix ∧
      (∀ x : LaneUse, x ∈ u.booth.left ↔ x ∈ s.booth.left ∨ t ∈ s.room.members ∧ ∃ e, peerAt s t = some e ∧
        (∃ y ∈ e.content.lanes, y.held = true ∧ y.lane = x.lane ∧ y.language = x.language) ∧
        ∀ y ∈ a.lanes, y.held = true → y.lane = x.lane → y.language ≠ x.language)

/-- A missing announcement (R18, R31): an Absent entry stays Absent, the first and the second miss keep the entry as
last announced, the third makes it Absent with PeerChanged and the membership formed anew; the mismatch mark is
cleared. What is received while Unconfigured or Isolated, or in the own slot, is discarded; a slot not received whole
has no close (R3). The row PEER_LOSS alone takes the peer out as the slot close of the third miss does, and changes
nothing where the miss is not the third (log entry 5, the model's choice). -/
def Obligations.AnnouncementMissing : Prop :=
  (∀ (s : State) (t : Nat) (frames : List (Bool × List Byte)), Live s → SizeLaw s → t < 16 →
     (s.lif.closedSlot = none → exec (.slotClose t) s = .next s) ∧
     (s.lif.closedSlot = some (t, frames) → t = s.station.number →
       exec (.slotClose t) s = .next { s with lif := { s.lif with closedSlot := none } }) ∧
     (s.lif.closedSlot = some (t, frames) → t ≠ s.station.number →
       (s.station.state = .unconfigured ∨ s.station.state = .isolated →
         exec (.slotClose t) s = .next { s with
           lif := { s.lif with closedSlot := none }, room := { s.room with marks := s.room.marks.set t false } }) ∧
       (s.station.state = .joining ∨ s.station.state = .running → validAnnouncement t frames = none →
         (peerAt s t = none → exec (.slotClose t) s = .next { s with
           lif := { s.lif with closedSlot := none }, room := { s.room with marks := s.room.marks.set t false } }) ∧
         (∀ e, peerAt s t = some e → e.miss < 2 → exec (.slotClose t) s = .next { s with
           lif := { s.lif with closedSlot := none }, room := { s.room with marks := s.room.marks.set t false }
           peers := s.peers.set t (some { e with miss := e.miss + 1 }) }) ∧
         (∀ e, peerAt s t = some e → 2 ≤ e.miss → ∃ u, exec (.slotClose t) s = .next u ∧
           u.lif = { s.lif with closedSlot := none } ∧ u.station = s.station ∧ u.peers = s.peers.set t none ∧
           u.port.flags.getLsbD 3 = true ∧ u.room.members = membershipOf { s with peers := u.peers } ∧
           u.room.marks[t]? = some false ∧ u.room.lastSeen.length = 16 ∧ u.walls = s.walls ∧ u.seats = s.seats)))) ∧
  (∀ (s : State) (t : Nat), Live s → SizeLaw s →
     let due := (s.station.state = .joining ∨ s.station.state = .running) ∧ t ≠ s.station.number ∧
       ∃ e, peerAt s t = some e ∧ 2 ≤ e.miss;
     (¬ due → exec (.peerLoss t) s = .next s) ∧
     (due → ∃ u, exec (.peerLoss t) s = .next u ∧ u.peers = s.peers.set t none ∧ u.station = s.station ∧
       u.port.flags.getLsbD 3 = true ∧ u.room.members = membershipOf { s with peers := u.peers } ∧
       (u.room.members ≠ s.room.members → u.port.flags.getLsbD 0 = true)) ∧
     (due → ∀ frames, s.lif.closedSlot = some (t, frames) → validAnnouncement t frames = none →
       exec (.peerLoss t) s = exec (.slotClose t) s))

/-- The membership of a Running station (R27) is what can be reached from it over pairs of candidates that count open
(R26), in ascending order: 15 passes are enough, and its head is its lowest member. The pair counts open when there is
a report about it and every report says Open. -/
def Obligations.MembershipIsReachability : Prop :=
  ∀ s : State, s.station.state = .running → s.station.number < 16 →
    (∀ m, m ∈ membershipOf s ↔
      Relation.ReflTransGen (fun a b => b ∈ candidates s ∧ countsOpen s a b = true) s.station.number m) ∧
    (membershipOf s).Pairwise (· < ·) ∧
    (headOf s (membershipOf s) ∈ membershipOf s ∧ ∀ m ∈ membershipOf s, headOf s (membershipOf s) ≤ m) ∧
    (∀ m, m ∈ candidates s ↔ m = s.station.number ∨
      m < 16 ∧ ∃ e, peerAt s m = some e ∧ e.content.running = true) ∧
    ∀ a b, countsOpen s a b = true ↔ a ≠ b ∧
      ((∃ w ∈ reportsOf s a, w.neighbour = b) ∨ ∃ w ∈ reportsOf s b, w.neighbour = a) ∧
      (∀ w ∈ reportsOf s a, w.neighbour = b → w.state = .opened) ∧
      ∀ w ∈ reportsOf s b, w.neighbour = a → w.state = .opened

/-- A context change at the floor, the claims and the desks. A rise of the adopted floor level (R96): own mics below
the new level close, the pending claims of seats below it are withdrawn. A change of mode (R40, R95): the request list
is cleared when the mode leaves Queue, Override claims go when it leaves Override, in a change to Queue too, where the
model follows R40 and not R95 (its reading: log entry 26). The interlock going from Takeover to Refuse (R40) takes the
Takeover claims. Every other mic, request, want and claim stays, and of the desks only the pending source is worked
out anew (R140). A recomputation (R29, R30, R33 to R35, R104) puts membership, head and adopted context in place, with
the copy of a peer head's floor level, presents a changed membership first, with RoomChanged, the newcomers' commands
marked as seen and, in a room of one, the lane intents marked, and then the context change where the adopted context
goes from one to a different one. So at the slot close at which the head's announcement raises the level, the own mics
below it are Closing in the next state and no place claim below it is pending. -/
def Obligations.ContextChangeActsAtOnce : Prop :=
  (∀ (s : State) (before after : Context),
     let t := presentContext before after s
     let rises := before.level < after.level
     let leavesQueue := before.mode = .queue ∧ after.mode ≠ .queue
     let leavesOverride := before.mode = .override ∧ after.mode ≠ .override
     let refuses := before.interlock = .takeover ∧ after.interlock = .refuse
     let touched : Nat → Prop := fun q => (leavesQueue ∧ ∃ r ∈ s.floor.requests, r.seat = q) ∨
       (rises ∧ ((∃ w ∈ s.claims.placeWants, w.seat = q ∧ w.cls < after.level) ∨
         ∃ c ∈ s.claims.places, c.seat = q ∧ isLiveIntent c.stage = true ∧ c.cls < after.level))
     t.floor.mics = s.floor.mics.map (fun m =>
       if rises ∧ m.cls < after.level then { m with phase := .closing } else m) ∧
     (leavesQueue → t.floor.requests = []) ∧ (¬ leavesQueue → t.floor.requests = s.floor.requests) ∧
     t.floor.level = s.floor.level ∧
     (∀ c ∈ t.claims.places, rises → c.cls < after.level → isLiveIntent c.stage = false) ∧
     (∀ w ∈ t.claims.placeWants, rises → after.level ≤ w.cls) ∧
     (leavesQueue → ∀ r ∈ s.floor.requests, pendingPlace t r.seat = false) ∧
     (leavesOverride → (∀ w ∈ t.claims.placeWants, w.displaced = none) ∧
       ∀ c ∈ t.claims.places, c.displaced ≠ none → isLiveIntent c.stage = false) ∧
     (∀ w ∈ s.claims.placeWants, ¬ touched w.seat → ¬ (leavesOverride ∧ w.displaced ≠ none) → w ∈ t.claims.placeWants) ∧
     (∀ c ∈ s.claims.places, c.stage = .hold ∨ ¬ touched c.seat ∧ ¬ (leavesOverride ∧ c.displaced ≠ none) →
       c ∈ t.claims.places) ∧
     t.claims.places.map (fun c => (c.seat, c.cls, c.displaced, c.uplink, c.origin)) =
       s.claims.places.map (fun c => (c.seat, c.cls, c.displaced, c.uplink, c.origin)) ∧
     t.claims.languageWants = s.claims.languageWants.filter (fun w => ¬ (refuses ∧ w.displaced ≠ none)) ∧
     t.claims.languages = s.claims.languages.map (fun c =>
       if refuses ∧ c.displaced ≠ none ∧ c.stage ≠ .hold then { c with stage := .intent true } else c) ∧
     t.claims.lanes = s.claims.lanes ∧
     t.booth.desks = s.booth.desks.map (fun d => { d with pendingSource := match d.relay with
       | .floor => .floor
       | .language l => .language l
       | .auto => resolveAuto t d }) ∧
     t = { s with floor := t.floor, claims := t.claims, booth := { s.booth with desks := t.booth.desks } }) ∧
  (∀ s : State,
     let members := membershipOf s
     let head := headOf s members
     let home := s.station.config.map (fun c => { c.home with level := s.floor.level })
     let adopted : Option Context := if head = s.station.number then home
       else match peerAt s head with
         | some e => some e.content.context
         | none => home
     let level := if head = s.station.number then s.floor.level else (adopted.map (·.level)).getD s.floor.level
     let moved := members ≠ s.room.members
     ∃ v : State,
       v = { s with
         room := { s.room with members := members, head := head, adopted := adopted, lastSeen := v.room.lastSeen }
         floor := { s.floor with level := level }, lanes := v.lanes
         claims := { s.claims with lanes := v.claims.lanes }, port := { s.port with flags := v.port.flags } } ∧
       (¬ moved → v.lanes = s.lanes ∧ v.claims = s.claims ∧ v.port = s.port ∧ v.room.lastSeen = s.room.lastSeen) ∧
       (moved → v.port.flags = s.port.flags ||| BitVec.twoPow 16 0 ∧
         (2 ≤ members.length → v.claims = s.claims) ∧
         (members.length < 2 → v.claims.lanes = s.claims.lanes.map (fun c =>
           if c.stage = .hold then c else { c with stage := .intent true })) ∧
         ∀ t < s.room.lastSeen.length,
           let joins := t ∈ members ∧ t ∉ s.room.members ∧ t ≠ s.station.number
           (∀ e, joins → peerAt s t = some e → v.room.lastSeen[t]? = some (some e.content.sequence)) ∧
           (¬ joins ∨ peerAt s t = none → v.room.lastSeen[t]? = s.room.lastSeen[t]?)) ∧
       (∀ before after, s.room.adopted = some before → adopted = some after → before ≠ after →
         recompute s = presentContext before after v) ∧
       (s.room.adopted = none ∨ adopted = none ∨ s.room.adopted = adopted → recompute s = v)) ∧
  (∀ (s : State) (t : Nat) (frames : List (Bool × List Byte)) (a : Announcement), Live s → SizeLaw s →
     s.station.state = .joining ∨ s.station.state = .running → s.lif.closedSlot = some (t, frames) → t < 16 →
     t ≠ s.station.number → validAnnouncement t frames = some a →
     headOf s (membershipOf { s with peers := s.peers.set t (some ⟨0, 0, a⟩) }) = t →
     ∃ u, exec (.slotClose t) s = .next u ∧ u.room.head = t ∧ u.room.adopted = some a.context ∧
       u.floor.level = a.context.level ∧
       ∀ before, s.room.adopted = some before → before.level < a.context.level →
         (∀ m ∈ u.floor.mics, m.cls < a.context.level → m.phase = .closing) ∧
         (∀ w ∈ u.claims.placeWants, a.context.level ≤ w.cls) ∧
         ∀ c ∈ u.claims.places, c.cls < a.context.level → isLiveIntent c.stage = false)

/-- What acting on a room command does (R105 to R108): PriorityMute closes the own mics of class 0..1, withdraws their
pending claims and, with clear-on-mute, clears the request list, classes 2 and 3 untouched; CancelAll clears the
request list, withdraws the pending place claims of the seats it removes and touches nothing else; SetFloorLevel is
applied by the head alone and up to 3; GrantNext(c) files a Normal want for each own entry among the first c of the
room ranking, 6 for an argument of 0, but for a seat that has a live claim, and files no other want. At an arrival
(R103) the station acts on a command it has not seen, of a member, while Running, and on no other; the announced
sequence is then the last seen, so the same announcement is not acted on again. An own slot acts on the front of the
queue as it becomes current, before the claim work of the same own slot, and at no later own slot (R102, R105); a slot
close runs the command test after the recomputation, and the displacements after it. That they come after it is the
model's choice (log entry 13). -/
def Obligations.RoomCommandsAct : Prop :=
  ((∀ (s : State) (v : Nat), let t := actOn ⟨.priorityMute, v⟩ s
     t.floor.mics = s.floor.mics.map (fun m => if m.cls ≤ 1 then { m with phase := .closing } else m) ∧
     (∀ w ∈ t.claims.placeWants, 2 ≤ w.cls) ∧
     (∀ c ∈ t.claims.places, c.cls ≤ 1 → isLiveIntent c.stage = false) ∧
     ((context s).clearOnMute = true → t.floor.requests = []) ∧
     ((context s).clearOnMute = false → t.floor.requests = s.floor.requests ∧
       (∀ w ∈ s.claims.placeWants, 2 ≤ w.cls → w ∈ t.claims.placeWants) ∧
       ∀ c ∈ s.claims.places, 2 ≤ c.cls → c ∈ t.claims.places)) ∧
   (∀ (s : State) (v : Nat), let t := actOn ⟨.cancelAll, v⟩ s
      t = { s with floor := { s.floor with requests := [] }, claims := { s.claims with
        placeWants := s.claims.placeWants.filter (fun w => ¬ ∃ r ∈ s.floor.requests, r.seat = w.seat)
        places := s.claims.places.map (fun c =>
          if (∃ r ∈ s.floor.requests, r.seat = c.seat) ∧ c.stage ≠ .hold then { c with stage := .intent true } else c) } }) ∧
   (∀ (s : State) (v : Nat), s.room.head ≠ s.station.number ∨ 3 < v ∨ s.floor.level = v →
     actOn ⟨.setFloorLevel, v⟩ s = s) ∧
   (∀ (s : State) (v : Nat), RoomLaw s → s.station.number < 16 →
     s.room.members = membershipOf s → s.room.head = s.station.number → v ≤ 3 →
     (actOn ⟨.setFloorLevel, v⟩ s).floor.level = v) ∧
   (∀ (s : State) (c : Nat), s.station.state ≠ .unconfigured →
      let t := actOn ⟨.grantNext, c⟩ s
      let granted := ((roomRanking s).take (if c = 0 then 6 else c)).filter (fun r => r.station = s.station.number)
      t = { s with claims := { s.claims with placeWants := t.claims.placeWants } } ∧
      (∀ r ∈ granted, (∃ x ∈ s.claims.places, x.seat = r.seat ∧ x.stage ≠ .intent true) ∨
        ∃ w ∈ t.claims.placeWants, w.seat = r.seat ∧ w.displaced = none ∧ w.origin = .grantNext) ∧
      (∀ w ∈ s.claims.placeWants, (∀ r ∈ granted, r.seat ≠ w.seat) → w ∈ t.claims.placeWants) ∧
      ∀ w ∈ t.claims.placeWants, w ∈ s.claims.placeWants ∨ w.displaced = none ∧ w.origin = .grantNext ∧
        ∃ r ∈ granted, r.seat = w.seat ∧ r.cls = w.cls)) ∧
  (∀ (s : State) (t : Nat) (a : Announcement), t < s.room.lastSeen.length →
     let u := commandTest t a s
     u.room.lastSeen[t]? = some (some a.sequence) ∧ commandTest t a u = u ∧
     (∀ c, a.command = some c → s.station.state = .running → t ∈ s.room.members →
       s.room.lastSeen[t]? ≠ some (some a.sequence) →
       u = { actOn c s with room := { (actOn c s).room with
         lastSeen := (actOn c s).room.lastSeen.set t (some a.sequence) } }) ∧
     (a.command = none ∨ s.station.state ≠ .running ∨ t ∉ s.room.members ∨
         s.room.lastSeen[t]? = some (some a.sequence) →
       u = { s with room := { s.room with lastSeen := s.room.lastSeen.set t (some a.sequence) } })) ∧
  (∀ s : State, Live s → s.station.state ≠ .unconfigured →
     let w := roomCommandWork s
     let n := (s.room.counter + 1) % 16
     (s.station.state = .joining ∨ s.room.current = none ∧ s.room.queue = [] → w = s) ∧
     (s.station.state ≠ .joining →
       (∀ c, s.room.current = some c →
         w = { s with room := { s.room with current := some { c with repeats := c.repeats + 1 } } }) ∧
       ∀ c, s.room.current = none → s.room.queue.head? = some c →
         w = actOn c { s with room := { s.room with counter := n, current := some ⟨n, 1⟩ } }) ∧
     exec .ownSlot s = .next (evalDemand (retireCommand (compose (sourceStep
       (claimWork (markedLanes s) (deskConflictStep w))))))) ∧
  (∀ (s : State) (t : Nat) (frames : List (Bool × List Byte)) (a : Announcement), Live s →
     s.station.state = .joining ∨ s.station.state = .running → s.lif.closedSlot = some (t, frames) →
     t ≠ s.station.number → validAnnouncement t frames = some a →
     ∃ w v : State,
       w = { s with
         lif := { s.lif with closedSlot := none }, peers := s.peers.set t (some ⟨0, 0, a⟩)
         room := { s.room with lastSeen := if (peerAt s t).any (fun e => e.content.epoch ≠ a.epoch)
           then s.room.lastSeen.set t none else s.room.lastSeen }
         booth := { s.booth with left := w.booth.left }, port := { s.port with flags := w.port.flags } } ∧
       v = { recompute w with
         room := { (recompute w).room with marks := v.room.marks }
         port := { (recompute w).port with flags := v.port.flags } } ∧
       exec (.slotClose t) s = .next (evalDemand (applyTakeovers a (applyOverrides a (commandTest t a v)))))

/-! ### Walls -/

/-- Sampling and debounce of one wall input (R21, R22, R23): the frame-0 sample starts the history, the frame-32
sample joins it, and the frame-64 sample completes it and is evaluated at once: majority of three of each contact,
noise flag, candidate and stability count, adoption with the 25th. At other frames nothing is sampled. The row
WALL_ADOPTION alone takes the candidate whose count would reach 25 as the debounced state, with WallChanged and
WallFault for a configured wall whatever its override, and a changed effective state reaches the membership; where the
count would not reach 25 nothing comes about (log entry 5, the model's choice). -/
def Obligations.WallSampleAndAdoption : Prop :=
  (∀ (s : State) (c o : BitVec 4), Live s → s.walls.length = 4 →
     (s.lif.frame ≠ 0 → s.lif.frame ≠ 32 → s.lif.frame ≠ 64 → exec (.wallSample c o) s = .next s) ∧
     ∃ t, exec (.wallSample c o) s = .next t ∧ t.lif = s.lif ∧ t.station = s.station ∧ t.peers = s.peers ∧
       ∀ x < 4, ∀ w w', s.walls[x]? = some w → t.walls[x]? = some w' →
         let now := (c.getLsbD x, o.getLsbD x)
         (s.lif.frame = 0 → w' = { w with history := [now] }) ∧
         (s.lif.frame = 32 → ∀ a, w.history = [a] → w' = { w with history := [a, now] }) ∧
         (s.lif.frame = 64 → ∀ a b, w.history = [a, b] →
           let two : Bool → Bool → Bool → Bool := fun p q r => p && q || (p && r || q && r)
           let derived : WallState := match two a.1 b.1 now.1, two a.2 b.2 now.2 with
             | true, false => .closed
             | false, true => .opened
             | false, false => .moving
             | true, true => .fault
           w'.derived = derived ∧ (w'.noise = false ↔ a = b ∧ b = now) ∧ w'.history = [a, b, now] ∧
           w'.setting = w.setting ∧ w'.neighbour = w.neighbour ∧
           (derived = w.debounced → w.count < 25 →
             w'.candidate = none ∧ w'.count = 0 ∧ w'.debounced = w.debounced) ∧
           (derived ≠ w.debounced → w.candidate ≠ some derived →
             w'.candidate = some derived ∧ w'.count = 1 ∧ w'.debounced = w.debounced) ∧
           (derived ≠ w.debounced → w.candidate = some derived → w.count < 24 →
             w'.candidate = some derived ∧ w'.count = w.count + 1 ∧ w'.debounced = w.debounced) ∧
           (derived ≠ w.debounced → w.candidate = some derived → 24 ≤ w.count →
             w'.candidate = none ∧ w'.count = 0 ∧ w'.debounced = derived ∧
             (w.neighbour ≠ none → t.port.flags.getLsbD 1 = true) ∧
             (w.neighbour ≠ none → derived = .fault → t.port.flags.getLsbD 2 = true)))) ∧
  (∀ (s : State) (x : Nat), Live s → s.walls.length = 4 → x < 4 →
     ((wallOf s x).candidate = none ∨ (wallOf s x).count < 24 → exec (.wallAdoption x) s = .next s) ∧
     (∀ c, (wallOf s x).candidate = some c → 24 ≤ (wallOf s x).count → ∃ t, exec (.wallAdoption x) s = .next t ∧
       t.walls = s.walls.set x { wallOf s x with debounced := c, candidate := none, count := 0 } ∧
       ((wallOf s x).neighbour = none → t.port = s.port ∧ t.room = s.room) ∧
       ((wallOf s x).neighbour ≠ none → t.port.flags.getLsbD 1 = true ∧
         (c = .fault → t.port.flags.getLsbD 2 = true)) ∧
       ((wallOf s x).neighbour ≠ none → (wallOf s x).setting = .auto → c ≠ (wallOf s x).debounced →
         t.room.members = membershipOf { s with walls := t.walls }) ∧
       ((wallOf s x).setting ≠ .auto → t.room = s.room) ∧ t.lif = s.lif ∧ t.station = s.station))

/-- SetWallOverride (R24, R179): BadArgument for an input above 3 or an unknown override; otherwise the override is
set and the effective state follows it at once, the debounce going on beneath. A changed effective state of a
configured wall raises WallChanged and reaches the membership; an unchanged one raises nothing and hands nothing over.
-/
def Obligations.WallOverrideActsAtOnce : Prop :=
  ∀ (s : State) (input setting : Byte), Live s → s.walls.length = 4 →
    (3 < input.toNat ∨ 2 < setting.toNat → exec (.setWallOverride input setting) s = .next { s with
      port := { s.port with shifted := s.port.response, response := some ⟨0x08, .badArgument, .none⟩ } }) ∧
    (∀ o, input.toNat ≤ 3 → (setting.toNat = 0 ∧ o = .auto ∨ setting.toNat = 1 ∧ o = .forceOpen ∨
        setting.toNat = 2 ∧ o = .forceClosed) →
      let w := wallOf s input.toNat
      let was : WallState := match w.setting with
        | .auto => w.debounced
        | .forceOpen => .opened
        | .forceClosed => .closed
      let is : WallState := match o with
        | .auto => w.debounced
        | .forceOpen => .opened
        | .forceClosed => .closed
      ∃ t, exec (.setWallOverride input setting) s = .next t ∧
        t.walls = s.walls.set input.toNat { w with setting := o } ∧ effective { w with setting := o } = is ∧
        t.port.response = some ⟨0x08, .ok, .none⟩ ∧ t.port.shifted = s.port.response ∧
        (w.neighbour = none ∨ was = is → t = { s with walls := t.walls, port := { s.port with
          response := t.port.response, shifted := t.port.shifted } }) ∧
        (w.neighbour ≠ none → was ≠ is → t.port.flags.getLsbD 1 = true ∧
          t.room.members = membershipOf { s with walls := t.walls }))

/-! ### Delegate line and floor control -/

/-- A good reply at the close of its window (R59, R60, R62): its content is the majority of the three samples of each
bit, and a bit whose samples do not agree makes it Noisy, which only the noise count shows. Presence, miss and noise
counts, acknowledge flag, selection, tag and key report are taken, UnitChanged is raised where the unit was Absent,
and the unit has a seat channel; the keys are dispatched last, on a state in which floor, claims and rooms are still
as they were but for the tag of the seat's mic. The selection is handed to the seat channels where it is another or
the unit was Absent (R158). The keys (R63, R78, R101): Mic is the Mic press of the seat; Cancel removes its request
and withdraws its pending place claim and leaves its mic; Priority asks for PriorityMute from a seat of class 3 alone
and Next for GrantNext(1) from one of class 2 or 3, in this order, each on the state that the one before leaves; a
chair request joins the tail of the queue, or is refused with RequestRefused where the queue holds 4 entries. -/
def Obligations.GoodUnitReply : Prop :=
  ((∀ (s : State) (a : Nat) (r : UnitReply), Live s → SizeLaw s → ChannelLaw s → closingWindow s = some a →
     1 ≤ a → a ≤ 60 → r.ended = true → r.framed = true → (fieldValue r.address).toNat = a → fieldValue r.tag ≠ 0 →
     let keys : Keys := ⟨bitValue r.mic, bitValue r.cancel, bitValue r.priority, bitValue r.next⟩
     let tag := (fieldValue r.tag).toNat
     let clean := r.restAgreed = true ∧ r.address = .same r.address.first ∧ r.mic = .same r.mic.first ∧
       r.cancel = .same r.cancel.first ∧ r.priority = .same r.priority.first ∧ r.next = .same r.next.first ∧
       r.selection = .same r.selection.first ∧ r.tag = .same r.tag.first
     ∃ u t, exec (.pollWindowClose (some r)) s = .next t ∧ t = dispatchKeys a keys u ∧
       u.claims = s.claims ∧ u.room = s.room ∧ u.floor.requests = s.floor.requests ∧
       u.floor.mics = s.floor.mics.map (fun m =>
         if m.seat = a ∧ (unitOf s a).tag ≠ some tag then { m with tag := tag } else m) ∧
       (unitOf t a).present = true ∧ (unitOf t a).miss = 0 ∧ (unitOf t a).ack = !(unitOf s a).ack ∧
       (unitOf t a).selection = (fieldValue r.selection).toNat ∧ (unitOf t a).tag = some tag ∧ (unitOf t a).keys = keys ∧
       (unitOf t a).noise = (if clean then (unitOf s a).noise else min ((unitOf s a).noise + 1) 255) ∧
       (let same := (unitOf s a).present = true ∧ (unitOf s a).selection = (fieldValue r.selection).toNat
        let v := handOverSelection a (fieldValue r.selection).toNat s;
        (same → t.seats = s.seats) ∧ (¬ same → t.seats = v.seats) ∧
        (t.port.flags.getLsbD 12 = true ↔ s.port.flags.getLsbD 12 = true ∨ ¬ same ∧ v.port.flags.getLsbD 12 = true)) ∧
       (∃ c, assignmentOf t a = some c) ∧ t.dlc.uplinks = s.dlc.uplinks ∧
       (∀ b ≤ 60, 1 ≤ b → b ≠ a → unitOf t b = unitOf s b) ∧
       (t.port.flags.getLsbD 8 = true ↔ s.port.flags.getLsbD 8 = true ∨ (unitOf s a).present = false)) ∧
   (∀ (w : Nat) (x : Thrice (BitVec w)) (i : Nat), (fieldValue x).getLsbD i = true ↔
     x.first.getLsbD i = true ∧ x.second.getLsbD i = true ∨ x.first.getLsbD i = true ∧ x.third.getLsbD i = true ∨
       x.second.getLsbD i = true ∧ x.third.getLsbD i = true) ∧
   (∀ x : Thrice Bool, bitValue x = true ↔ x.first = true ∧ x.second = true ∨ x.first = true ∧ x.third = true ∨
     x.second = true ∧ x.third = true)) ∧
  (∀ (s : State) (a : Nat) (k : Keys),
     let chair : RoomCommand → State → State := fun c v =>
       if v.room.queue.length < 4 then { v with room := { v.room with queue := v.room.queue ++ [c] } }
       else { v with port := { v.port with flags := v.port.flags ||| BitVec.twoPow 16 6 } }
     let v1 := if k.mic = true then micPress a s else s
     let v2 : State := if k.cancel = true then { v1 with
         floor := { v1.floor with requests := v1.floor.requests.filter (fun r => r.seat ≠ a) }
         claims := { v1.claims with
           placeWants := v1.claims.placeWants.filter (fun w => w.seat ≠ a)
           places := v1.claims.places.map (fun c =>
             if c.seat = a ∧ c.stage ≠ .hold then { c with stage := .intent true } else c) } }
       else v1
     let v3 := if k.priority = true ∧ seatClass s a = 3 then chair ⟨.priorityMute, 0⟩ v2 else v2
     dispatchKeys a k s = if k.next = true ∧ 2 ≤ seatClass s a then chair ⟨.grantNext, 1⟩ v3 else v3)

/-- No good reply in the window (R59, R60, R61): a Missing or Malformed reply changes nothing at an Absent unit, and
at a Present one counts a miss; the third makes it Absent with UnitChanged, its request gone, its mic closing, its
claims withdrawn and its seat channel left, while flag, selection and tag stay. UNIT_ABSENT alone does the same where
the miss is the third, and nothing elsewhere (log entry 5, the model's choice). -/
def Obligations.BadUnitReply : Prop :=
  ∀ (s : State) (a : Nat) (reply : Option UnitReply), Live s → SizeLaw s → SeatLaw s → 1 ≤ a → a ≤ 60 →
    let bad := ∀ r, reply = some r → r.ended = false ∨ r.framed = false ∨ (fieldValue r.address).toNat ≠ a ∨ fieldValue r.tag = 0
    let lost : State → Prop := fun t =>
      (unitOf t a) = { unitOf s a with present := false, miss := 3, fullTimer := 0, keys := ⟨false, false, false, false⟩ } ∧
      assignmentOf t a = none ∧ t.seats = (dropSelection a s).seats ∧ t.port.flags.getLsbD 8 = true ∧ (∀ r ∈ t.floor.requests, r.seat ≠ a) ∧
      (∀ m ∈ t.floor.mics, m.seat = a → m.phase = .closing) ∧ (∀ w ∈ t.claims.placeWants, w.seat ≠ a) ∧
      (∀ c ∈ t.claims.places, c.seat = a → isLiveIntent c.stage = false) ∧ t.dlc.uplinks = s.dlc.uplinks ∧
      (∀ b ≤ 60, 1 ≤ b → b ≠ a → unitOf t b = unitOf s b)
    (closingWindow s = none → exec (.pollWindowClose reply) s = .next s) ∧
    (closingWindow s = some a → bad →
      ((unitOf s a).present = false → exec (.pollWindowClose reply) s = .next (takeWindow s)) ∧
      ((unitOf s a).present = true → (unitOf s a).miss < 2 → ∃ t, exec (.pollWindowClose reply) s = .next t ∧
        unitOf t a = { unitOf s a with miss := (unitOf s a).miss + 1 } ∧
        (∀ b ≤ 60, 1 ≤ b → b ≠ a → unitOf t b = unitOf s b) ∧ t.floor = s.floor ∧ t.claims = s.claims ∧
        t.seats = s.seats ∧ t.port = s.port) ∧
      ((unitOf s a).present = true → 2 ≤ (unitOf s a).miss →
        ∃ t, exec (.pollWindowClose reply) s = .next t ∧ lost t ∧ exec (.unitAbsent a) s = .next t)) ∧
    ((unitOf s a).present = true → 2 ≤ (unitOf s a).miss → ∃ t, exec (.unitAbsent a) s = .next t ∧ lost t) ∧
    ((unitOf s a).present = false ∨ (unitOf s a).miss < 2 → exec (.unitAbsent a) s = .next s)

/-- The seat channels (R157 to R161). Assignment of selection S to a unit without one: selection 0 plays channel 0; a
channel that carries S counts one unit more; else the lowest Free channel of 1..7 becomes S's with count 1; else the
unit joins the tail of the deferred list on channel 0 and SeatChannelShortage (bit 12) is raised. Leaving: the channel
counts one unit less; a unit on channel 0 leaves the list, the others keeping their order; at count 0 the channel goes
to the language that the head of the list waits for, with every unit that waits for it, and stays Free where nobody
waits. A hand-over is a leaving and then an assignment. -/
def Obligations.SeatChannelsAreHandedOver : Prop :=
  (∀ (s : State) (a sel : Nat), 1 ≤ a →
     let t := assignSelection a sel s
     let now : List (Option Downlink) → Nat → SeatChannels := fun table c =>
       ⟨table, s.seats.assigned.set (a - 1) (some c), s.seats.deferred⟩
     let carries : Nat → Prop := fun c => (channelOf s c).map (·.language) = some sel
     (sel = 0 → t = { s with seats := now s.seats.channels 0 }) ∧
     (sel ≠ 0 → ∀ c, 1 ≤ c → c ≤ 7 → ∀ d, channelOf s c = some d → d.language = sel →
       (∀ k, 1 ≤ k → k < c → ¬ carries k) →
       t = { s with seats := now (s.seats.channels.set c (some ⟨sel, d.count + 1⟩)) c }) ∧
     (sel ≠ 0 → (∀ k, 1 ≤ k → k ≤ 7 → ¬ carries k) →
       (∀ c, 1 ≤ c → c ≤ 7 → channelOf s c = none → (∀ k, 1 ≤ k → k < c → channelOf s k ≠ none) →
         t = { s with seats := now (s.seats.channels.set c (some ⟨sel, 1⟩)) c }) ∧
       ((∀ k, 1 ≤ k → k ≤ 7 → channelOf s k ≠ none) → t = { s with
         seats := { now s.seats.channels 0 with deferred := s.seats.deferred ++ [a] }
         port := { s.port with flags := s.port.flags ||| BitVec.twoPow 16 12 } }))) ∧
  (∀ (s : State) (a : Nat), 1 ≤ a → a ≤ 60 → s.seats.assigned.length = 60 →
     let t := dropSelection a s
     let left := s.seats.assigned.set (a - 1) none
     t = { s with seats := t.seats } ∧
     (assignmentOf s a = none → t.seats = ⟨s.seats.channels, left, s.seats.deferred⟩) ∧
     (assignmentOf s a = some 0 → t.seats = ⟨s.seats.channels, left, s.seats.deferred.filter (fun x => x ≠ a)⟩) ∧
     (∀ c d, assignmentOf s a = some c → c ≠ 0 → channelOf s c = some d →
       (2 ≤ d.count → t.seats =
         ⟨s.seats.channels.set c (some { d with count := d.count - 1 }), left, s.seats.deferred⟩) ∧
       (d.count ≤ 1 → s.seats.deferred = [] → t.seats = ⟨s.seats.channels.set c none, left, []⟩) ∧
       (d.count ≤ 1 → ∀ b, s.seats.deferred.head? = some b →
         let l := (unitOf s b).selection
         let waiting := s.seats.deferred.filter (fun x => (unitOf s x).selection = l)
         t.seats.channels = s.seats.channels.set c (some ⟨l, waiting.length⟩) ∧
         t.seats.deferred = s.seats.deferred.filter (fun x => (unitOf s x).selection ≠ l) ∧
         t.seats.assigned.length = 60 ∧ ∀ x, 1 ≤ x → x ≤ 60 → t.seats.assigned[x - 1]? =
           if x ∈ waiting then some (some c) else if x = a then some none else s.seats.assigned[x - 1]?))) ∧
  (∀ (s : State) (a sel : Nat), handOverSelection a sel s = assignSelection a sel (dropSelection a s))

/-- Unit and station agree on which report was accepted (R58, R62): the flag in the poll after a good reply differs
from the unit's toggle, so the unit then reports only the keys pressed since; after a window without a good reply it
equals the toggle, and the unit reports those keys again together with the new ones. No press is lost and none is
reported twice. -/
def Obligations.AcknowledgedReportsAreNotRepeated : Prop :=
  ∀ (s : State) (a : Nat) (v : DelegateUnit), SizeLaw s → 1 ≤ a → a ≤ 60 → v.address = a → 1 ≤ v.tag → v.tag ≤ 31 →
    let polled := unitOnPoll (pollFor s a) v
    let accepted := closeWindow a (some (unitReply polled)) s
    let missed := closeWindow a none s
    ∀ k : Keys,
      (unitContent (unitReply (unitOnPoll (pollFor accepted a) (unitPress k polled)))).keys = k ∧
      (unitContent (unitReply (unitOnPoll (pollFor missed a) (unitPress k polled)))).keys =
        joinKeys (unitContent (unitReply polled)).keys k

/-- The Mic press by the seat's state (R74 to R77): Speaking closes, Fading is ignored, Requesting and Pending are
taken back; an Idle seat is refused when below level in every mode (but for a request, which takes no test of the
level), and otherwise files a Normal want in Free mode, creates a request in Queue mode for class 0..1 while the list
has room, and in Override mode displaces the longest-open counted mic when no place is free. The floor state of a seat
is read from its mic, its request and its pending claim (Table 5-2); its class is that of its entry in the seat
correction table, or 0 (R71), and it is below level where that is lower than the adopted floor level (R73). -/
def Obligations.MicPress : Prop :=
  (∀ (s : State) (seat : Nat), s.station.state ≠ .unconfigured → 1 ≤ seat → seat ≤ 60 → SizeLaw s →
     let t := micPress seat s
     let cls := seatClass s seat
     let idle := floorState s seat = .idle ∧ ∀ c ∈ s.claims.places, c.seat ≠ seat
     let refused := t.port.flags.getLsbD 6 = true ∧ t.claims = s.claims ∧ t.floor = s.floor ∧
       ((unitOf s seat).present = true → (unitOf t seat).fullTimer = 500)
     let files : Option Named → Prop := fun d =>
       t.claims.placeWants = s.claims.placeWants ++ [⟨seat, cls, d, .press⟩] ∧ t.floor = s.floor ∧ t.port = s.port
     ((∀ b ≤ 60, 1 ≤ b → b ≠ seat → unitOf t b = unitOf s b) ∧
       t = { s with
         claims := t.claims, floor := t.floor, dlc := { s.dlc with units := t.dlc.units }
         port := { s.port with flags := t.port.flags } }) ∧
     (floorState s seat = .speaking → t.floor.mics = s.floor.mics.map (fun m =>
       if m.seat = seat then { m with phase := .closing } else m)) ∧
     (floorState s seat = .fading → t = s) ∧
     (floorState s seat = .requesting → (∀ r ∈ t.floor.requests, r.seat ≠ seat) ∧ pendingPlace t seat = false) ∧
     (floorState s seat = .pending → t.floor = s.floor ∧ pendingPlace t seat = false) ∧
     (idle → (context s).mode = .free → belowLevel s cls = true → refused) ∧
     (idle → (context s).mode = .free → belowLevel s cls = false → files none) ∧
     (idle → (context s).mode = .queue → cls ≤ 1 → s.floor.requests.length < 16 →
       t.floor.requests.Perm (⟨seat, cls, 0⟩ :: s.floor.requests) ∧ t.claims = s.claims ∧ (unitOf t seat).fullTimer = 0) ∧
     (idle → (context s).mode = .queue → cls ≤ 1 → 16 ≤ s.floor.requests.length → refused) ∧
     (idle → (context s).mode = .queue → 2 ≤ cls → belowLevel s cls = true → refused) ∧
     (idle → (context s).mode = .queue → 2 ≤ cls → belowLevel s cls = false → files none) ∧
     (idle → (context s).mode = .override → belowLevel s cls = true → refused) ∧
     (idle → (context s).mode = .override → belowLevel s cls = false → 2 ≤ cls ∨ 0 < freePlaces s → files none) ∧
     (idle → (context s).mode = .override → belowLevel s cls = false → cls ≤ 1 → freePlaces s = 0 →
       (∀ m ∈ roomMics s, m.cls ≤ 1 → ∃ n, files (some n) ∧ ∃ x ∈ roomMics s, x.cls ≤ 1 ∧ x.station = n.station ∧
         x.seat = n.item ∧ (m.age < x.age ∨ m.age = x.age ∧
           (x.station < m.station ∨ x.station = m.station ∧ x.seat ≤ m.seat))) ∧
       ((∀ m ∈ roomMics s, 2 ≤ m.cls) → refused))) ∧
  (∀ (s : State) (seat : Nat),
     let bare := (∀ m ∈ s.floor.mics, m.seat ≠ seat) ∧ ∀ r ∈ s.floor.requests, r.seat ≠ seat
     let pends := (∃ w ∈ s.claims.placeWants, w.seat = seat) ∨ ∃ c ∈ s.claims.places, c.seat = seat ∧ c.stage = .intent false
     seatClass s seat = (match s.station.config.bind (fun c => c.seats.find? (fun e => e.seat == seat)) with
       | some e => e.cls
       | none => 0) ∧
     (∀ cls, belowLevel s cls = true ↔ cls < (context s).level) ∧ (pendingPlace s seat = true ↔ pends) ∧
     (floorState s seat = .speaking ↔ ∃ m, micOf s seat = some m ∧ m.phase ≠ .closing) ∧
     (floorState s seat = .fading ↔ ∃ m, micOf s seat = some m ∧ m.phase = .closing) ∧
     (floorState s seat = .requesting ↔
       (∀ m ∈ s.floor.mics, m.seat ≠ seat) ∧ ∃ r ∈ s.floor.requests, r.seat = seat) ∧
     (floorState s seat = .pending ↔ bare ∧ pends) ∧ (floorState s seat = .idle ↔ bare ∧ ¬ pends))

/-! ### Desks -/

/-- A good reply of a desk at the close of its window (R126, R127, R128, R136), its content the majority of the three
samples of each bit (R69; the code of a relay selection is the model's choice, log entry 21), taken in its order:
presence and counts, flag, output language, relay selection, and then the Mic press, on the state that the steps
before leave. A new language takes the desk off the air, clears the engaged mark, turns a relay of the new language to
Floor with selection age 0, works the pending source out again and turns an effective source of the new language to
Floor; a new selection starts at age 0, and a relay selection of the own language is refused. -/
def Obligations.GoodDeskReply : Prop :=
  ∀ (s : State) (e : Nat) (r : DeskReply), Live s → SizeLaw s → RelayLaw s → closingBoothWindow s = some e → e < 4 →
    r.ended = true → r.framed = true → (fieldValue r.desk).toNat = e → fieldValue r.output ≠ 0 →
    ∀ relay, relayOfBits (fieldValue r.relayKind) (fieldValue r.relayLanguage) = some relay → relay ≠ .language 0 →
    let output := (fieldValue r.output).toNat
    let clean := r.restAgreed = true ∧ r.desk = .same r.desk.first ∧ r.mic = .same r.mic.first ∧
      r.output = .same r.output.first ∧ r.relayKind = .same r.relayKind.first ∧
      r.relayLanguage = .same r.relayLanguage.first
    let d := deskOf s e
    let changed := d.present = false ∨ d.output ≠ some output
    let reported := d.present = false ∨ d.reported ≠ some relay
    let kept : Relay := if d.relay = .language output then .floor else d.relay
    let taken := reported ∧ relay ≠ .language output ∧ relay ≠ kept
    ∃ u t, exec (.boothWindowClose (some r)) s = .next t ∧
      t = evalDemand (if bitValue r.mic = true then deskPress e u else u) ∧
      t.booth = (if bitValue r.mic = true then deskPress e u else u).booth ∧
      t.claims = (if bitValue r.mic = true then deskPress e u else u).claims ∧
      t.port = (if bitValue r.mic = true then deskPress e u else u).port ∧
      (deskOf u e).present = true ∧ (deskOf u e).miss = 0 ∧ (deskOf u e).ack = !d.ack ∧
      (deskOf u e).noise = (if clean then d.noise else min (d.noise + 1) 255) ∧
      (deskOf u e).output = some output ∧
      (reported → (deskOf u e).reported = some relay ∧ (deskOf u e).loopMark = false) ∧
      (¬ reported → (deskOf u e).reported = d.reported ∧
        (deskOf u e).loopMark = if d.relay = .language output then false else d.loopMark) ∧
      (taken → (deskOf u e).relay = relay ∧ (deskOf u e).selectionAge = 0) ∧
      (¬ taken → (deskOf u e).relay = kept ∧
        (deskOf u e).selectionAge = if d.relay = .language output then 0 else d.selectionAge) ∧
      (changed → (deskOf u e).state = .off ∧ (deskOf u e).engaged = false ∧
        (deskOf u e).pendingSource = (match kept with
          | .floor => .floor
          | .language l => .language l
          | .auto => resolveAuto u (deskOf u e)) ∧
        (deskOf u e).source = (if d.source = .language output then .floor else d.source) ∧
        (d.state = .onAir → ∀ c ∈ u.claims.languages, c.desk = e → c.stage ≠ .hold) ∧
        (d.state = .intent → ∀ c ∈ u.claims.languages, c.desk = e → isLiveIntent c.stage = false) ∧
        (d.state ≠ .onAir → ∀ w ∈ u.claims.languageWants, w.desk ≠ e)) ∧
      (¬ changed → (deskOf u e).state = d.state ∧ (deskOf u e).engaged = d.engaged ∧ u.claims = s.claims ∧
        (deskOf u e).pendingSource = d.pendingSource ∧ (deskOf u e).source = d.source) ∧
      (∀ e' < 4, e' ≠ e → deskOf u e' = deskOf s e') ∧
      u.floor = s.floor ∧ u.dlc = s.dlc ∧ u.port = s.port ∧ u.lanes = s.lanes ∧ u.room = s.room ∧ u.peers = s.peers

/-- No good reply of a desk (R69, R126, R127): nothing at an Absent desk, a miss at a Present one; the third makes it
Absent and Off with both marks clear, its hold ended or its claim withdrawn, while language, relay and sources stay.
That the on-air age and the displaced name of the desk stay with them is the model's choice (log entry 14), and so is
the code of a relay selection (log entry 21). DESK_ABSENT alone does the same where the miss is the third, and nothing
elsewhere (log entry 5, the model's choice). -/
def Obligations.BadDeskReply : Prop :=
  ∀ (s : State) (e : Nat) (reply : Option DeskReply), Live s → SizeLaw s → e < 4 →
    let bad := ∀ r, reply = some r → r.ended = false ∨ r.framed = false ∨ (fieldValue r.desk).toNat ≠ e ∨
      fieldValue r.output = 0 ∨ fieldValue r.relayKind = 2 ∧ fieldValue r.relayLanguage = 0
    let lost : State → Prop := fun t =>
      deskOf t e = { deskOf s e with present := false, miss := 3, state := .off, engaged := false, loopMark := false } ∧
      ((deskOf s e).state = .onAir → ∀ c ∈ t.claims.languages, c.desk = e → c.stage ≠ .hold) ∧
      ((deskOf s e).state ≠ .onAir → (∀ w ∈ t.claims.languageWants, w.desk ≠ e)) ∧
      ((deskOf s e).state = .intent → ∀ c ∈ t.claims.languages, c.desk = e → isLiveIntent c.stage = false) ∧
      (∀ c ∈ s.claims.languages, c.desk ≠ e → c ∈ t.claims.languages) ∧
      (∀ x < 4, x ≠ e → deskOf t x = deskOf s x) ∧
      t.port = s.port ∧ t.floor = s.floor
    (closingBoothWindow s = none → exec (.boothWindowClose reply) s = .next s) ∧
    (closingBoothWindow s = some e → bad →
      ((deskOf s e).present = false → exec (.boothWindowClose reply) s = .next (takeBoothWindow s)) ∧
      ((deskOf s e).present = true → (deskOf s e).miss < 2 → ∃ t, exec (.boothWindowClose reply) s = .next t ∧
        deskOf t e = { deskOf s e with miss := (deskOf s e).miss + 1 } ∧
        (∀ x < 4, x ≠ e → deskOf t x = deskOf s x) ∧ t.claims = s.claims ∧ t.port = s.port) ∧
      ((deskOf s e).present = true → 2 ≤ (deskOf s e).miss →
        ∃ t, exec (.boothWindowClose reply) s = .next t ∧ lost t ∧ exec (.deskAbsent e) s = .next t)) ∧
    ((deskOf s e).present = true → 2 ≤ (deskOf s e).miss → ∃ t, exec (.deskAbsent e) s = .next t ∧ lost t) ∧
    ((deskOf s e).present = false ∨ (deskOf s e).miss < 2 → exec (.deskAbsent e) s = .next s)

/-- The Mic press of a desk (R129): on air it leaves the air, in Intent it takes its claim back, and while Off it
files a want, is turned away by an interlock of Refuse, or names the holder with the greatest on-air age for a
takeover. -/
def Obligations.DeskPress : Prop :=
  ∀ (s : State) (e l : Nat), SizeLaw s → e < 4 → s.station.state ≠ .unconfigured → (deskOf s e).output = some l →
    let t := deskPress e s
    let fresh := (deskOf s e).state = .off ∧ (∀ w ∈ s.claims.languageWants, w.desk ≠ e) ∧
      ∀ c ∈ s.claims.languages, c.desk = e → c.stage = .intent true
    ((∀ x < 4, x ≠ e → deskOf t x = deskOf s x) ∧
      t = { s with booth := t.booth, claims := t.claims, port := { s.port with flags := t.port.flags } }) ∧
    ((deskOf s e).state = .onAir → (deskOf t e).state = .off ∧
      ∀ c ∈ t.claims.languages, c.desk = e → c.stage ≠ .hold) ∧
    ((deskOf s e).state = .intent → (deskOf t e).state = .off ∧
      ∀ c ∈ t.claims.languages, c.desk = e → isLiveIntent c.stage = false) ∧
    ((deskOf s e).state = .off → (∃ w ∈ s.claims.languageWants, w.desk = e) →
      (∀ w ∈ t.claims.languageWants, w.desk ≠ e) ∧ t.booth = s.booth) ∧
    (fresh → holders s l = [] → (deskOf t e).engaged = false ∧ t.port = s.port ∧
      t.claims.languageWants = s.claims.languageWants ++ [⟨e, l, none⟩]) ∧
    (fresh → holders s l ≠ [] → (context s).interlock = .refuse →
      (deskOf t e).engaged = true ∧ t.port.flags.getLsbD 9 = true ∧ t.claims = s.claims) ∧
    (fresh → holders s l ≠ [] → (context s).interlock = .takeover →
      (deskOf t e).engaged = false ∧ ∃ h ∈ holders s l, (∀ x ∈ holders s l, x.onAirAge ≤ h.onAirAge) ∧
        t.claims.languageWants = s.claims.languageWants ++ [⟨e, l, some ⟨h.station, h.desk⟩⟩])

/-- Auto-relay (R137, R138): it resolves to the pivot when the floor language is known and not understood at the desk,
the pivot is another desk's output in the room, and to the floor in every other case, whatever the desk's interlock
state; it never resolves to the desk's own language. The floor language is the tag of a sounding mic of the highest
class in the room, the youngest of that class. -/
def Obligations.AutoRelay : Prop :=
  ∀ (s : State) (d : Desk),
    let p := (context s).pivot
    let f := floorLanguage s
    (resolveAuto s d = .language p ↔ f ≠ 0 ∧ f ∉ d.understood ∧ p ≠ 0 ∧ d.output ≠ some p ∧ hasHolder s p = true) ∧
    (resolveAuto s d = .floor ∨ resolveAuto s d = .language p) ∧
    (hasHolder s p = true ↔ (∃ x ∈ s.booth.desks, x.state = .onAir ∧ x.output = some p) ∨
      ∃ q ∈ memberPeers s, ∃ x ∈ q.2.content.desks, x.state = .onAir ∧ x.output = p) ∧
    (∀ st, resolveAuto s { d with state := st } = resolveAuto s d) ∧
    (∀ l, d.output = some l → resolveAuto s d ≠ .language l) ∧
    (roomMics s = [] → f = 0) ∧
    (roomMics s ≠ [] → ∃ m ∈ roomMics s, f = m.tag ∧
      ∀ x ∈ roomMics s, x.cls < m.cls ∨ x.cls = m.cls ∧ m.age ≤ x.age)

/-! ### Management port -/

/-- ReadRecord returns a record exactly for kind and index within Table 12-2, in every station state, and changes
nothing but the response and the clip counter that it clears (R118, R176). ReadEvents returns flags and mask and
changes neither; ClearEvents clears exactly the flags whose mask bit is 1 (R177). An empty transaction leaves the
response as it is; a frame that is no command is answered BadArgument (R175), echoing its first byte: the model's
choice (log entry 8), and so is the BadArgument for a kind without an index whose index byte is not 0 (log entry 23).
-/
def Obligations.PortReadsAndOtherFrames : Prop :=
  (∀ (s : State) (kind index : Byte), Live s →
     let known := kind.toNat ∈ [0, 2, 3, 5, 6, 8, 9, 10, 12] ∧ index.toNat = 0 ∨ kind.toNat = 1 ∧ index.toNat ≤ 15 ∨
       kind.toNat ∈ [4, 7] ∧ index.toNat ≤ 3 ∨ kind.toNat = 11 ∧ 1 ≤ index.toNat ∧ index.toNat ≤ 60
     (¬ known → exec (.readRecord kind index) s = .next { s with
       port := { s.port with shifted := s.port.response, response := some ⟨0x03, .badArgument, .none⟩ } }) ∧
     (known → ∃ r, recordOf s kind.toNat index.toNat = some r ∧ exec (.readRecord kind index) s = .next { s with
       mix := { s.mix with clip := if kind.toNat = 12 then 0 else s.mix.clip }
       port := { s.port with shifted := s.port.response, response := some ⟨0x03, .ok, .record r⟩ } }) ∧
     recordOf s 12 0 = some (.clipCounter s.mix.clip) ∧
     recordOf s 2 0 = some (.membership s.room.members s.room.head s.room.adopted (homeContext s)) ∧
     (index.toNat ≤ 15 → recordOf s 1 index.toNat = some (match peerAt s index.toNat with
       | none => .peerEntry .absent 0 none none (s.room.marks.getD index.toNat false)
       | some e => .peerEntry (if e.content.running then .running else .joining) e.miss (some e.content.epoch)
           (some ⟨e.content.head, e.content.mics.length, e.content.requests.length, e.content.desks.length,
             e.content.lanes.length⟩) (s.room.marks.getD index.toNat false))) ∧
     (∃ rest, recordOf s 9 0 = some (.downlinks rest) ∧ rest.length = s.seats.channels.length ∧
       (0 < rest.length → rest[0]? = some .floor) ∧ ∀ c, 1 ≤ c → c < rest.length → rest[c]? = some (match channelOf s c with
         | none => .free
         | some d => .allocated d.language d.count)) ∧
     recordOf s 6 0 = some (.openMics s.floor.mics) ∧
     (index.toNat ≤ 3 → recordOf s 7 index.toNat = some (.desk (deskOf s index.toNat)))) ∧
  (∀ (s : State) (mask : BitVec 16), Live s →
     exec .readEvents s = .next { s with port := { s.port with
       shifted := s.port.response, response := some ⟨0x04, .ok, .events [s.port.flags.extractLsb' 8 8, s.port.flags.extractLsb' 0 8]
         [s.port.mask.extractLsb' 8 8, s.port.mask.extractLsb' 0 8]⟩ } } ∧
     (∃ t, exec (.clearEvents mask) s = .next t ∧
       t = { s with port := ⟨t.port.flags, s.port.mask, some ⟨0x05, .ok, .none⟩, s.port.response⟩ } ∧
       ∀ n < 16, (t.port.flags.getLsbD n = true ↔ s.port.flags.getLsbD n = true ∧ mask.getLsbD n = false))) ∧
  (∀ s : State, Live s →
     exec .emptyTransaction s = .next { s with port := { s.port with shifted := s.port.response } } ∧
     ∀ (code : Byte) (rest : List Byte), exec (.badCommandFrame (code :: rest)) s = .next { s with
       port := { s.port with shifted := s.port.response, response := some ⟨code, .badArgument, .none⟩ } })

/-- The event mask and the attention line (R178): SetEventMask replaces the mask in every station state; power-on and
pin reset turn it off, Restart, entering and leaving Isolated keep it; ATTN is driven while a flag is both set and
enabled; the mask neither stops a flag from being raised nor hides it from ReadEvents. -/
def Obligations.AttentionFollowsFlagsAndMask : Prop :=
  (∀ (s : State) (mask : BitVec 16), Live s → exec (.setEventMask mask) s =
    .next { s with port := ⟨s.port.flags, mask, some ⟨0x06, .ok, .none⟩, s.port.response⟩ }) ∧
  State.reset.port.mask = 0 ∧
  (∀ s : State, ∃ t, exec .pinReset s = .next t ∧ t.port.mask = 0) ∧
  (∀ (s : State) (i : Instr), i = .restart ∨ i = .linkFailure ∨ i = .linkRecovery ∨ i = .switchPoint →
    ∃ t, exec i s = .next t ∧ t.port.mask = s.port.mask) ∧
  (∀ s : State, attention s = true ↔ ∃ n < 16, s.port.flags.getLsbD n = true ∧ s.port.mask.getLsbD n = true) ∧
  (∀ (s : State) (f : EventFlag), (raise f s).port.flags.getLsbD (flagBit f) = true) ∧
  (∀ s : State, Live s → ∃ t, exec .readEvents s = .next t ∧
    t.port.response = some ⟨0x04, .ok, .events (bytes16 s.port.flags) (bytes16 s.port.mask)⟩)

/-- IssueRoomCommand is answered by the first case of R100 that applies, and an accepted command joins the tail of the
queue with the argument R100 gives it. CloseSeat and CancelRequest (R78, R180): NotConfigured, then BadArgument for
seat 0 or a seat above the seat count; otherwise CloseSeat closes a Speaking seat and leaves its request,
CancelRequest removes the request and leaves the mic, and both withdraw a pending place claim. -/
def Obligations.OperatorCommandsAct : Prop :=
  (∀ (s : State) (kind argument : Byte), Live s →
     let answered : ResponseCode → State → State := fun code u => { u with port := { s.port with
       shifted := s.port.response, response := some ⟨0x07, code, .none⟩ } }
     (s.station.state = .unconfigured → exec (.issueRoomCommand kind argument) s = .next (answered .notConfigured s)) ∧
     (s.station.state ≠ .unconfigured →
       (kind.toNat = 0 ∨ 4 < kind.toNat ∨ kind.toNat = 4 ∧ 3 < argument.toNat →
         exec (.issueRoomCommand kind argument) s = .next (answered .badArgument s)) ∧
       (1 ≤ kind.toNat → kind.toNat ≤ 4 → (kind.toNat = 4 → argument.toNat ≤ 3) →
         (4 ≤ s.room.queue.length → exec (.issueRoomCommand kind argument) s = .next (answered .busy s)) ∧
         (s.room.queue.length < 4 → exec (.issueRoomCommand kind argument) s =
           .next (answered .ok { s with room := { s.room with queue := s.room.queue ++
             [if kind.toNat = 1 then ⟨.priorityMute, 0⟩
              else if kind.toNat = 2 then
               ⟨.grantNext, if 1 ≤ argument.toNat ∧ argument.toNat ≤ 6 then argument.toNat else 6⟩
              else if kind.toNat = 3 then ⟨.cancelAll, 0⟩
              else ⟨.setFloorLevel, argument.toNat⟩] } }))))) ∧
  (∀ (s : State) (seat : Byte), Live s →
     let answered : Byte → ResponseCode → State := fun command code => { s with port := { s.port with
       shifted := s.port.response, response := some ⟨command, code, .none⟩ } }
     (s.station.state = .unconfigured → exec (.closeSeat seat) s = .next (answered 0x09 .notConfigured) ∧
       exec (.cancelRequest seat) s = .next (answered 0x0A .notConfigured)) ∧
     (s.station.state ≠ .unconfigured → seat.toNat = 0 ∨ seatCount s < seat.toNat →
       exec (.closeSeat seat) s = .next (answered 0x09 .badArgument) ∧
       exec (.cancelRequest seat) s = .next (answered 0x0A .badArgument)) ∧
     (s.station.state ≠ .unconfigured → 1 ≤ seat.toNat → seat.toNat ≤ seatCount s →
       (∃ t, exec (.closeSeat seat) s = .next t ∧ t.port.response = some ⟨0x09, .ok, .none⟩ ∧
         t.floor.mics = s.floor.mics.map (fun m => if m.seat = seat.toNat then { m with phase := .closing } else m) ∧
         t.floor.requests = s.floor.requests ∧ pendingPlace t seat.toNat = false ∧ t.room = s.room ∧ t.seats = s.seats ∧
         t.dlc = s.dlc) ∧
       ∃ t, exec (.cancelRequest seat) s = .next t ∧ t.port.response = some ⟨0x0A, .ok, .none⟩ ∧
         t.floor = { s.floor with requests := s.floor.requests.filter (fun r => r.seat ≠ seat.toNat) } ∧
         pendingPlace t seat.toNat = false ∧ t.room = s.room ∧ t.seats = s.seats ∧ t.dlc = s.dlc))

/-! ### Encodings -/

/-- Command frames (Table 12-1, R175): decoding the frame of a command gives the command, every frame that decodes is
the frame of its command, and the two kinds of transaction never overlap. -/
def Obligations.CommandFramesDecode : Prop :=
  (∀ (i : Instr) (frame : List Byte), i.wf = true → encodePortFrame i = some frame → decodePortFrame frame = some i) ∧
  (∀ (frame : List Byte) (i : Instr), decodePortFrame frame = some i → encodePortFrame i = some frame ∧ i.wf = true) ∧
  (∀ frame : List Byte, (Instr.badCommandFrame frame).wf = true ↔ frame ≠ [] ∧ decodePortFrame frame = none)

/-- The announcement (Table 1-3, R13, R14): the 120 bytes of an announcement whose fields lie within Table 1-3,
received whole in five aligned frames of its own slot, are valid and hold exactly that announcement. It counts as
missing when one of its frames was unaligned, when its check fails, or when its header names another station than the
slot's; and a valid one holds distinct seats, desks and lanes within Table 1-3. -/
def Obligations.AnnouncementRoundTrip : Prop :=
  (∀ a : Announcement, AnnouncementLaw a →
     (announcementBytes a).length = 120 ∧
     validAnnouncement a.station ((List.range 5).map (fun i =>
       (true, ((announcementBytes a).drop (24 * i)).take 24))) = some a) ∧
  (∀ (t : Nat) (frames : List (Bool × List Byte)),
     let b := frames.flatMap (·.2)
     ((∃ f ∈ frames, f.1 = false) → validAnnouncement t frames = none) ∧
     (bytes16 (crc16 (b.take 118)) ≠ (b.drop 118).take 2 → validAnnouncement t frames = none) ∧
     (byteAt b 0 / 16 ≠ t → validAnnouncement t frames = none) ∧
     ∀ a, validAnnouncement t frames = some a → a.station = t ∧ AnnouncementLaw a)

/-! ### What every step keeps -/

/-- Every step keeps the state machine's own agreement, the link status within its table, and an accepted
configuration within Table 11-3 at the latched station number (R8, R10, R165, R168, R169, R170). -/
def Obligations.StepKeepsStationAndLink : Prop :=
  ∀ s t : State, StationLaw s → LinkLaw s → (∀ c ∈ s.station.config, ConfigLaw s.station.number c) →
    step s = .next t → StationLaw t ∧ LinkLaw t ∧ ∀ c ∈ t.station.config, ConfigLaw t.station.number c

/-- Every step keeps the room's agreement with the Peer Table (R27, R28, R33, R34): membership holds the station and
otherwise Running peers, its head is its lowest member, and the adopted context is the head's. -/
def Obligations.StepKeepsTheRoom : Prop :=
  ∀ s t : State, StationLaw s → RoomLaw s → ContextLaw s → step s = .next t → RoomLaw t ∧ ContextLaw t

/-- Every step keeps the open mics within Table 5-4, and no desk ever relays its own output language, by its
selection, its pending or its effective source (R89, R134). -/
def Obligations.StepKeepsMicsAndRelays : Prop :=
  ∀ s t : State, MicLaw s → RelayLaw s → step s = .next t → MicLaw t ∧ RelayLaw t

/-- Every step keeps the desk table and the language claims in agreement, and no two own desks are ever OnAir with the
same output language (R37, R49, R128, R130, and the first part of R134 as the model keeps it beside R47: log entry
20). -/
def Obligations.StepKeepsDesks : Prop :=
  ∀ s t : State, SizeLaw s → DeskLaw s → step s = .next t → SizeLaw t ∧ DeskLaw t

/-- Every step keeps the claim table, the uplink channel map, the open-mic table and the lane holdings in agreement
(R37, R49, R51, R64, R145, R149): a channel is Bound exactly while one place entry has it, and each open mic and each
Held lane has its Hold. -/
def Obligations.StepKeepsHoldsAndChannels : Prop :=
  ∀ s t : State, UplinkLaw s → LaneLaw s → step s = .next t → UplinkLaw t ∧ LaneLaw t

/-- Every step keeps the seat channels sound (R156, R157, R159, R160, R161): reference counts, assignments and
selections agree, no language has two channels, and the deferred list holds each waiting unit once and is empty while
a channel is Free. -/
def Obligations.StepKeepsSeatChannels : Prop :=
  ∀ s t : State, SizeLaw s → PollLaw s → SeatLaw s → step s = .next t → SizeLaw t ∧ PollLaw t ∧ SeatLaw t

/-- What is fixed between two resets (R165, R169): the latched station number and source, and the configuration once
accepted. The event mask changes by SetEventMask alone, a wall's override by SetWallOverride alone (R178, R179). A set
flag stays set over every command but ClearEvents, Restart and a pin reset (section 12.3), and the clip counter falls
by its own read, by Restart or by a pin reset alone (R118, R122). -/
def Obligations.OnlyTheseCommandsChange : Prop :=
  (∀ (i : Instr) (s t : State), exec i s = .next t → i ≠ .pinReset →
     ((∀ n c, i ≠ .resetRelease n c) ∨ Live s →
       t.station.number = s.station.number ∧ t.station.source = s.station.source) ∧
     (StationLaw s → s.station.accepted = true → t.station.accepted = true ∧ t.station.config = s.station.config) ∧
     ((∀ mask, i ≠ .setEventMask mask) → t.port.mask = s.port.mask) ∧
     ((∀ x o, i ≠ .setWallOverride x o) → t.walls.map (·.setting) = s.walls.map (·.setting))) ∧
  (∀ (i : Instr) (s t : State), exec i s = .next t → i ≠ .pinReset → i ≠ .restart →
     ((∀ mask, i ≠ .clearEvents mask) → ∀ n, s.port.flags.getLsbD n = true → t.port.flags.getLsbD n = true) ∧
     ((∀ kind index, i ≠ .readRecord kind index) → min s.mix.clip 65535 ≤ t.mix.clip))

/-- What each command leaves alone: the whole block where it does not write it, and of the port all but the flags
where it is no command of the port. The queue of commands is left alone by every one. -/
def Obligations.CommandsKeepOtherBlocks : Prop :=
  ∀ (i : Instr) (s t : State), exec i s = .next t →
    let flagged : Port := { s.port with flags := t.port.flags }
    match i with
    | .pinReset => t.pending = s.pending
    | .resetRelease _ _ => t = { s with station := t.station, room := t.room, mix := t.mix }
    | .configMemoryRead _ => t = { s with
        station := t.station, lif := t.lif, walls := t.walls, room := t.room, claims := t.claims, floor := t.floor
        booth := t.booth, lanes := t.lanes, port := flagged }
    | .frameBoundary _ => t = { s with
        station := t.station, lif := t.lif, room := t.room, claims := t.claims, dlc := t.dlc, floor := t.floor
        booth := t.booth, lanes := t.lanes, mix := t.mix, port := flagged }
    | .hlckTimeout => t = { s with lif := t.lif }
    | .hsyncMark _ _ => t = { s with
        lif := t.lif, walls := t.walls, room := t.room, claims := t.claims, dlc := t.dlc, floor := t.floor
        booth := t.booth, lanes := t.lanes, seats := t.seats, port := flagged }
    | .switchPoint => t = { s with
        station := t.station, lif := t.lif, peers := t.peers, room := t.room, claims := t.claims, dlc := t.dlc
        floor := t.floor, booth := t.booth, lanes := t.lanes, mix := t.mix, port := flagged }
    | .linkFailure => t = { s with
        station := t.station, lif := t.lif, peers := t.peers, room := t.room, claims := t.claims, floor := t.floor
        booth := t.booth, lanes := t.lanes, mix := t.mix, port := flagged }
    | .linkRecovery => t = { s with
        station := t.station, lif := t.lif, room := t.room, claims := t.claims, dlc := t.dlc, floor := t.floor
        booth := t.booth, lanes := t.lanes, port := flagged }
    | .fadeInComplete _ => t = { s with floor := t.floor }
    | .fadeOutEnd _ => t = { s with claims := t.claims, dlc := t.dlc, floor := t.floor }
    | .speakingTimeExpiry _ => t = { s with floor := t.floor, port := flagged }
    | .ownSlot => t = { s with
        lif := t.lif, room := t.room, claims := t.claims, dlc := t.dlc, floor := t.floor, booth := t.booth
        lanes := t.lanes, port := flagged }
    | .slotClose _ => t = { s with
        lif := t.lif, peers := t.peers, room := t.room, claims := t.claims, dlc := t.dlc, floor := t.floor
        booth := t.booth, lanes := t.lanes, port := flagged }
    | .peerLoss _ => t = { s with
        lif := t.lif, peers := t.peers, room := t.room, claims := t.claims, floor := t.floor, booth := t.booth
        lanes := t.lanes, port := flagged }
    | .wallSample _ _ | .wallAdoption _ => t = { s with
        walls := t.walls, room := t.room, claims := t.claims, floor := t.floor, booth := t.booth, lanes := t.lanes
        port := flagged }
    | .pollWindowClose _ => t = { s with
        room := t.room, claims := t.claims, dlc := t.dlc, floor := t.floor, seats := t.seats, port := flagged }
    | .unitAbsent _ => t = { s with
        claims := t.claims, dlc := t.dlc, floor := t.floor, seats := t.seats, port := flagged }
    | .boothWindowClose _ => t = { s with claims := t.claims, booth := t.booth, lanes := t.lanes, port := flagged }
    | .deskAbsent _ => t = { s with claims := t.claims, booth := t.booth, lanes := t.lanes }
    | .joiningTimerExpiry => t = { s with
        station := t.station, room := t.room, claims := t.claims, floor := t.floor, booth := t.booth, lanes := t.lanes
        port := flagged }
    | .loadConfig _ => t = { s with
        station := t.station, lif := t.lif, walls := t.walls, room := t.room, claims := t.claims, floor := t.floor
        booth := t.booth, lanes := t.lanes, port := t.port }
    | .restart => t.walls = s.walls ∧ t.pending = s.pending
    | .readRecord _ _ => t = { s with mix := { s.mix with clip := t.mix.clip }, port := t.port } ∧ t.port.flags = s.port.flags
    | .readEvents | .clearEvents _ | .setEventMask _ | .emptyTransaction | .badCommandFrame _ => t = { s with port := t.port }
    | .issueRoomCommand _ _ => t = { s with room := t.room, port := t.port } ∧ t.port.flags = s.port.flags
    | .setWallOverride _ _ => t = { s with
        walls := t.walls, room := t.room, claims := t.claims, floor := t.floor, booth := t.booth, lanes := t.lanes
        port := t.port } ∧ t.port.mask = s.port.mask
    | .closeSeat _ | .cancelRequest _ => t = { s with claims := t.claims, floor := t.floor, port := t.port } ∧
        t.port.flags = s.port.flags
end

