-- ==== Sys2Proof/Laws/Blocks.lean ====
section
/-! SUPPORT. How the blocks of the state pass through a choice and through a fold: the two lemmas per block that the
frame lemmas of the shared operations rest on. -/

namespace Sys2Proof.Machine

/-- The station of a chosen state is the chosen station. -/
@[simp] theorem ite_station (c : Prop) [Decidable c] (a b : State) :
    (if c then a else b).station = if c then a.station else b.station := by split <;> rfl

/-- A fold of operations that keep station keeps station. -/
@[simp] theorem foldl_station {β : Type} (g : State → β → State) (h : ∀ s x, (g s x).station = s.station) (l : List β) (s : State) :
    (l.foldl g s).station = s.station := by
  induction l generalizing s with
  | nil => rfl
  | cons x l ih => rw [List.foldl_cons, ih, h]

/-- The lif of a chosen state is the chosen lif. -/
@[simp] theorem ite_lif (c : Prop) [Decidable c] (a b : State) :
    (if c then a else b).lif = if c then a.lif else b.lif := by split <;> rfl

/-- A fold of operations that keep lif keeps lif. -/
@[simp] theorem foldl_lif {β : Type} (g : State → β → State) (h : ∀ s x, (g s x).lif = s.lif) (l : List β) (s : State) :
    (l.foldl g s).lif = s.lif := by
  induction l generalizing s with
  | nil => rfl
  | cons x l ih => rw [List.foldl_cons, ih, h]

/-- The peers of a chosen state is the chosen peers. -/
@[simp] theorem ite_peers (c : Prop) [Decidable c] (a b : State) :
    (if c then a else b).peers = if c then a.peers else b.peers := by split <;> rfl

/-- A fold of operations that keep peers keeps peers. -/
@[simp] theorem foldl_peers {β : Type} (g : State → β → State) (h : ∀ s x, (g s x).peers = s.peers) (l : List β) (s : State) :
    (l.foldl g s).peers = s.peers := by
  induction l generalizing s with
  | nil => rfl
  | cons x l ih => rw [List.foldl_cons, ih, h]

/-- The walls of a chosen state is the chosen walls. -/
@[simp] theorem ite_walls (c : Prop) [Decidable c] (a b : State) :
    (if c then a else b).walls = if c then a.walls else b.walls := by split <;> rfl

/-- A fold of operations that keep walls keeps walls. -/
@[simp] theorem foldl_walls {β : Type} (g : State → β → State) (h : ∀ s x, (g s x).walls = s.walls) (l : List β) (s : State) :
    (l.foldl g s).walls = s.walls := by
  induction l generalizing s with
  | nil => rfl
  | cons x l ih => rw [List.foldl_cons, ih, h]

/-- The room of a chosen state is the chosen room. -/
@[simp] theorem ite_room (c : Prop) [Decidable c] (a b : State) :
    (if c then a else b).room = if c then a.room else b.room := by split <;> rfl

/-- A fold of operations that keep room keeps room. -/
@[simp] theorem foldl_room {β : Type} (g : State → β → State) (h : ∀ s x, (g s x).room = s.room) (l : List β) (s : State) :
    (l.foldl g s).room = s.room := by
  induction l generalizing s with
  | nil => rfl
  | cons x l ih => rw [List.foldl_cons, ih, h]

/-- The claims of a chosen state is the chosen claims. -/
@[simp] theorem ite_claims (c : Prop) [Decidable c] (a b : State) :
    (if c then a else b).claims = if c then a.claims else b.claims := by split <;> rfl

/-- A fold of operations that keep claims keeps claims. -/
@[simp] theorem foldl_claims {β : Type} (g : State → β → State) (h : ∀ s x, (g s x).claims = s.claims) (l : List β) (s : State) :
    (l.foldl g s).claims = s.claims := by
  induction l generalizing s with
  | nil => rfl
  | cons x l ih => rw [List.foldl_cons, ih, h]

/-- The dlc of a chosen state is the chosen dlc. -/
@[simp] theorem ite_dlc (c : Prop) [Decidable c] (a b : State) :
    (if c then a else b).dlc = if c then a.dlc else b.dlc := by split <;> rfl

/-- A fold of operations that keep dlc keeps dlc. -/
@[simp] theorem foldl_dlc {β : Type} (g : State → β → State) (h : ∀ s x, (g s x).dlc = s.dlc) (l : List β) (s : State) :
    (l.foldl g s).dlc = s.dlc := by
  induction l generalizing s with
  | nil => rfl
  | cons x l ih => rw [List.foldl_cons, ih, h]

/-- The floor of a chosen state is the chosen floor. -/
@[simp] theorem ite_floor (c : Prop) [Decidable c] (a b : State) :
    (if c then a else b).floor = if c then a.floor else b.floor := by split <;> rfl

/-- A fold of operations that keep floor keeps floor. -/
@[simp] theorem foldl_floor {β : Type} (g : State → β → State) (h : ∀ s x, (g s x).floor = s.floor) (l : List β) (s : State) :
    (l.foldl g s).floor = s.floor := by
  induction l generalizing s with
  | nil => rfl
  | cons x l ih => rw [List.foldl_cons, ih, h]

/-- The booth of a chosen state is the chosen booth. -/
@[simp] theorem ite_booth (c : Prop) [Decidable c] (a b : State) :
    (if c then a else b).booth = if c then a.booth else b.booth := by split <;> rfl

/-- A fold of operations that keep booth keeps booth. -/
@[simp] theorem foldl_booth {β : Type} (g : State → β → State) (h : ∀ s x, (g s x).booth = s.booth) (l : List β) (s : State) :
    (l.foldl g s).booth = s.booth := by
  induction l generalizing s with
  | nil => rfl
  | cons x l ih => rw [List.foldl_cons, ih, h]

/-- The lanes of a chosen state is the chosen lanes. -/
@[simp] theorem ite_lanes (c : Prop) [Decidable c] (a b : State) :
    (if c then a else b).lanes = if c then a.lanes else b.lanes := by split <;> rfl

/-- A fold of operations that keep lanes keeps lanes. -/
@[simp] theorem foldl_lanes {β : Type} (g : State → β → State) (h : ∀ s x, (g s x).lanes = s.lanes) (l : List β) (s : State) :
    (l.foldl g s).lanes = s.lanes := by
  induction l generalizing s with
  | nil => rfl
  | cons x l ih => rw [List.foldl_cons, ih, h]

/-- The seats of a chosen state is the chosen seats. -/
@[simp] theorem ite_seats (c : Prop) [Decidable c] (a b : State) :
    (if c then a else b).seats = if c then a.seats else b.seats := by split <;> rfl

/-- A fold of operations that keep seats keeps seats. -/
@[simp] theorem foldl_seats {β : Type} (g : State → β → State) (h : ∀ s x, (g s x).seats = s.seats) (l : List β) (s : State) :
    (l.foldl g s).seats = s.seats := by
  induction l generalizing s with
  | nil => rfl
  | cons x l ih => rw [List.foldl_cons, ih, h]

/-- The mix of a chosen state is the chosen mix. -/
@[simp] theorem ite_mix (c : Prop) [Decidable c] (a b : State) :
    (if c then a else b).mix = if c then a.mix else b.mix := by split <;> rfl

/-- A fold of operations that keep mix keeps mix. -/
@[simp] theorem foldl_mix {β : Type} (g : State → β → State) (h : ∀ s x, (g s x).mix = s.mix) (l : List β) (s : State) :
    (l.foldl g s).mix = s.mix := by
  induction l generalizing s with
  | nil => rfl
  | cons x l ih => rw [List.foldl_cons, ih, h]

/-- The port of a chosen state is the chosen port. -/
@[simp] theorem ite_port (c : Prop) [Decidable c] (a b : State) :
    (if c then a else b).port = if c then a.port else b.port := by split <;> rfl

/-- A fold of operations that keep port keeps port. -/
@[simp] theorem foldl_port {β : Type} (g : State → β → State) (h : ∀ s x, (g s x).port = s.port) (l : List β) (s : State) :
    (l.foldl g s).port = s.port := by
  induction l generalizing s with
  | nil => rfl
  | cons x l ih => rw [List.foldl_cons, ih, h]

/-- The pending of a chosen state is the chosen pending. -/
@[simp] theorem ite_pending (c : Prop) [Decidable c] (a b : State) :
    (if c then a else b).pending = if c then a.pending else b.pending := by split <;> rfl

/-- A fold of operations that keep pending keeps pending. -/
@[simp] theorem foldl_pending {β : Type} (g : State → β → State) (h : ∀ s x, (g s x).pending = s.pending) (l : List β) (s : State) :
    (l.foldl g s).pending = s.pending := by
  induction l generalizing s with
  | nil => rfl
  | cons x l ih => rw [List.foldl_cons, ih, h]

/-- The port.mask of a chosen state is the chosen port.mask. -/
@[simp] theorem ite_mask (c : Prop) [Decidable c] (a b : State) :
    (if c then a else b).port.mask = if c then a.port.mask else b.port.mask := by split <;> rfl

/-- A fold of operations that keep port.mask keeps port.mask. -/
@[simp] theorem foldl_mask {β : Type} (g : State → β → State) (h : ∀ s x, (g s x).port.mask = s.port.mask) (l : List β) (s : State) :
    (l.foldl g s).port.mask = s.port.mask := by
  induction l generalizing s with
  | nil => rfl
  | cons x l ih => rw [List.foldl_cons, ih, h]

/-- The port.response of a chosen state is the chosen port.response. -/
@[simp] theorem ite_response (c : Prop) [Decidable c] (a b : State) :
    (if c then a else b).port.response = if c then a.port.response else b.port.response := by split <;> rfl

/-- A fold of operations that keep port.response keeps port.response. -/
@[simp] theorem foldl_response {β : Type} (g : State → β → State) (h : ∀ s x, (g s x).port.response = s.port.response) (l : List β) (s : State) :
    (l.foldl g s).port.response = s.port.response := by
  induction l generalizing s with
  | nil => rfl
  | cons x l ih => rw [List.foldl_cons, ih, h]

/-- The port.shifted of a chosen state is the chosen port.shifted. -/
@[simp] theorem ite_shifted (c : Prop) [Decidable c] (a b : State) :
    (if c then a else b).port.shifted = if c then a.port.shifted else b.port.shifted := by split <;> rfl

/-- A fold of operations that keep port.shifted keeps port.shifted. -/
@[simp] theorem foldl_shifted {β : Type} (g : State → β → State) (h : ∀ s x, (g s x).port.shifted = s.port.shifted) (l : List β) (s : State) :
    (l.foldl g s).port.shifted = s.port.shifted := by
  induction l generalizing s with
  | nil => rfl
  | cons x l ih => rw [List.foldl_cons, ih, h]

/-- The mask of a chosen port is the chosen mask. -/
@[simp] theorem ite_port_mask (c : Prop) [Decidable c] (a b : Port) :
    (if c then a else b).mask = if c then a.mask else b.mask := by split <;> rfl

/-- The response of a chosen port is the chosen response. -/
@[simp] theorem ite_port_response (c : Prop) [Decidable c] (a b : Port) :
    (if c then a else b).response = if c then a.response else b.response := by split <;> rfl

/-- The shifted of a chosen port is the chosen shifted. -/
@[simp] theorem ite_port_shifted (c : Prop) [Decidable c] (a b : Port) :
    (if c then a else b).shifted = if c then a.shifted else b.shifted := by split <;> rfl

end Sys2Proof.Machine
end

