-- ==== Sys2Proof/Laws/FrameTables.lean ====
section
/-! SUPPORT. Frame lemmas: for each operation of flags, tables, desks, lanes and the room, the blocks it leaves as they
are. -/

namespace Sys2Proof.Machine

/-- raise changes no other block than flags. -/
@[simp] theorem raise_keeps (f : EventFlag) (s : State) :
    (raise f s).station = s.station ∧
    (raise f s).lif = s.lif ∧
    (raise f s).peers = s.peers ∧
    (raise f s).walls = s.walls ∧
    (raise f s).room = s.room ∧
    (raise f s).claims = s.claims ∧
    (raise f s).dlc = s.dlc ∧
    (raise f s).floor = s.floor ∧
    (raise f s).booth = s.booth ∧
    (raise f s).lanes = s.lanes ∧
    (raise f s).seats = s.seats ∧
    (raise f s).mix = s.mix ∧
    (raise f s).pending = s.pending ∧
    (raise f s).port.mask = s.port.mask ∧
    (raise f s).port.response = s.port.response ∧
    (raise f s).port.shifted = s.port.shifted := by
  simp [raise]

/-- raiseIf changes no other block than flags. -/
@[simp] theorem raiseIf_keeps (c : Bool) (f : EventFlag) (s : State) :
    (raiseIf c f s).station = s.station ∧
    (raiseIf c f s).lif = s.lif ∧
    (raiseIf c f s).peers = s.peers ∧
    (raiseIf c f s).walls = s.walls ∧
    (raiseIf c f s).room = s.room ∧
    (raiseIf c f s).claims = s.claims ∧
    (raiseIf c f s).dlc = s.dlc ∧
    (raiseIf c f s).floor = s.floor ∧
    (raiseIf c f s).booth = s.booth ∧
    (raiseIf c f s).lanes = s.lanes ∧
    (raiseIf c f s).seats = s.seats ∧
    (raiseIf c f s).mix = s.mix ∧
    (raiseIf c f s).pending = s.pending ∧
    (raiseIf c f s).port.mask = s.port.mask ∧
    (raiseIf c f s).port.response = s.port.response ∧
    (raiseIf c f s).port.shifted = s.port.shifted := by
  simp [raiseIf]

/-- clearFlags changes no other block than port. -/
@[simp] theorem clearFlags_keeps (mask : BitVec 16) (s : State) :
    (clearFlags mask s).station = s.station ∧
    (clearFlags mask s).lif = s.lif ∧
    (clearFlags mask s).peers = s.peers ∧
    (clearFlags mask s).walls = s.walls ∧
    (clearFlags mask s).room = s.room ∧
    (clearFlags mask s).claims = s.claims ∧
    (clearFlags mask s).dlc = s.dlc ∧
    (clearFlags mask s).floor = s.floor ∧
    (clearFlags mask s).booth = s.booth ∧
    (clearFlags mask s).lanes = s.lanes ∧
    (clearFlags mask s).seats = s.seats ∧
    (clearFlags mask s).mix = s.mix ∧
    (clearFlags mask s).pending = s.pending := by
  simp [clearFlags]

/-- setMask changes no other block than port. -/
@[simp] theorem setMask_keeps (mask : BitVec 16) (s : State) :
    (setMask mask s).station = s.station ∧
    (setMask mask s).lif = s.lif ∧
    (setMask mask s).peers = s.peers ∧
    (setMask mask s).walls = s.walls ∧
    (setMask mask s).room = s.room ∧
    (setMask mask s).claims = s.claims ∧
    (setMask mask s).dlc = s.dlc ∧
    (setMask mask s).floor = s.floor ∧
    (setMask mask s).booth = s.booth ∧
    (setMask mask s).lanes = s.lanes ∧
    (setMask mask s).seats = s.seats ∧
    (setMask mask s).mix = s.mix ∧
    (setMask mask s).pending = s.pending := by
  simp [setMask]

/-- modifyUnit changes no other block than dlc. -/
@[simp] theorem modifyUnit_keeps (a : Nat) (f : UnitEntry → UnitEntry) (s : State) :
    (modifyUnit a f s).station = s.station ∧
    (modifyUnit a f s).lif = s.lif ∧
    (modifyUnit a f s).peers = s.peers ∧
    (modifyUnit a f s).walls = s.walls ∧
    (modifyUnit a f s).room = s.room ∧
    (modifyUnit a f s).claims = s.claims ∧
    (modifyUnit a f s).floor = s.floor ∧
    (modifyUnit a f s).booth = s.booth ∧
    (modifyUnit a f s).lanes = s.lanes ∧
    (modifyUnit a f s).seats = s.seats ∧
    (modifyUnit a f s).mix = s.mix ∧
    (modifyUnit a f s).port = s.port ∧
    (modifyUnit a f s).pending = s.pending := by
  simp [modifyUnit]

/-- showFull changes no other block than dlc. -/
@[simp] theorem showFull_keeps (seat : Nat) (s : State) :
    (showFull seat s).station = s.station ∧
    (showFull seat s).lif = s.lif ∧
    (showFull seat s).peers = s.peers ∧
    (showFull seat s).walls = s.walls ∧
    (showFull seat s).room = s.room ∧
    (showFull seat s).claims = s.claims ∧
    (showFull seat s).floor = s.floor ∧
    (showFull seat s).booth = s.booth ∧
    (showFull seat s).lanes = s.lanes ∧
    (showFull seat s).seats = s.seats ∧
    (showFull seat s).mix = s.mix ∧
    (showFull seat s).port = s.port ∧
    (showFull seat s).pending = s.pending := by
  simp [showFull]

/-- clearFull changes no other block than dlc. -/
@[simp] theorem clearFull_keeps (seat : Nat) (s : State) :
    (clearFull seat s).station = s.station ∧
    (clearFull seat s).lif = s.lif ∧
    (clearFull seat s).peers = s.peers ∧
    (clearFull seat s).walls = s.walls ∧
    (clearFull seat s).room = s.room ∧
    (clearFull seat s).claims = s.claims ∧
    (clearFull seat s).floor = s.floor ∧
    (clearFull seat s).booth = s.booth ∧
    (clearFull seat s).lanes = s.lanes ∧
    (clearFull seat s).seats = s.seats ∧
    (clearFull seat s).mix = s.mix ∧
    (clearFull seat s).port = s.port ∧
    (clearFull seat s).pending = s.pending := by
  simp [clearFull]

/-- refusePress changes no other block than dlc, flags. -/
@[simp] theorem refusePress_keeps (seat : Nat) (s : State) :
    (refusePress seat s).station = s.station ∧
    (refusePress seat s).lif = s.lif ∧
    (refusePress seat s).peers = s.peers ∧
    (refusePress seat s).walls = s.walls ∧
    (refusePress seat s).room = s.room ∧
    (refusePress seat s).claims = s.claims ∧
    (refusePress seat s).floor = s.floor ∧
    (refusePress seat s).booth = s.booth ∧
    (refusePress seat s).lanes = s.lanes ∧
    (refusePress seat s).seats = s.seats ∧
    (refusePress seat s).mix = s.mix ∧
    (refusePress seat s).pending = s.pending ∧
    (refusePress seat s).port.mask = s.port.mask ∧
    (refusePress seat s).port.response = s.port.response ∧
    (refusePress seat s).port.shifted = s.port.shifted := by
  simp [refusePress]

/-- setUplink changes no other block than dlc. -/
@[simp] theorem setUplink_keeps (channel : Nat) (seat : Option Nat) (s : State) :
    (setUplink channel seat s).station = s.station ∧
    (setUplink channel seat s).lif = s.lif ∧
    (setUplink channel seat s).peers = s.peers ∧
    (setUplink channel seat s).walls = s.walls ∧
    (setUplink channel seat s).room = s.room ∧
    (setUplink channel seat s).claims = s.claims ∧
    (setUplink channel seat s).floor = s.floor ∧
    (setUplink channel seat s).booth = s.booth ∧
    (setUplink channel seat s).lanes = s.lanes ∧
    (setUplink channel seat s).seats = s.seats ∧
    (setUplink channel seat s).mix = s.mix ∧
    (setUplink channel seat s).port = s.port ∧
    (setUplink channel seat s).pending = s.pending := by
  simp [setUplink]

/-- withdrawSeat changes no other block than claims. -/
@[simp] theorem withdrawSeat_keeps (every : Bool) (seat : Nat) (s : State) :
    (withdrawSeat every seat s).station = s.station ∧
    (withdrawSeat every seat s).lif = s.lif ∧
    (withdrawSeat every seat s).peers = s.peers ∧
    (withdrawSeat every seat s).walls = s.walls ∧
    (withdrawSeat every seat s).room = s.room ∧
    (withdrawSeat every seat s).dlc = s.dlc ∧
    (withdrawSeat every seat s).floor = s.floor ∧
    (withdrawSeat every seat s).booth = s.booth ∧
    (withdrawSeat every seat s).lanes = s.lanes ∧
    (withdrawSeat every seat s).seats = s.seats ∧
    (withdrawSeat every seat s).mix = s.mix ∧
    (withdrawSeat every seat s).port = s.port ∧
    (withdrawSeat every seat s).pending = s.pending := by
  simp [withdrawSeat]

/-- withdrawDesk changes no other block than claims. -/
@[simp] theorem withdrawDesk_keeps (desk : Nat) (s : State) :
    (withdrawDesk desk s).station = s.station ∧
    (withdrawDesk desk s).lif = s.lif ∧
    (withdrawDesk desk s).peers = s.peers ∧
    (withdrawDesk desk s).walls = s.walls ∧
    (withdrawDesk desk s).room = s.room ∧
    (withdrawDesk desk s).dlc = s.dlc ∧
    (withdrawDesk desk s).floor = s.floor ∧
    (withdrawDesk desk s).booth = s.booth ∧
    (withdrawDesk desk s).lanes = s.lanes ∧
    (withdrawDesk desk s).seats = s.seats ∧
    (withdrawDesk desk s).mix = s.mix ∧
    (withdrawDesk desk s).port = s.port ∧
    (withdrawDesk desk s).pending = s.pending := by
  simp [withdrawDesk]

/-- filePlaceWant changes no other block than claims, dlc, flags. -/
@[simp] theorem filePlaceWant_keeps (w : PlaceWant) (s : State) :
    (filePlaceWant w s).station = s.station ∧
    (filePlaceWant w s).lif = s.lif ∧
    (filePlaceWant w s).peers = s.peers ∧
    (filePlaceWant w s).walls = s.walls ∧
    (filePlaceWant w s).room = s.room ∧
    (filePlaceWant w s).floor = s.floor ∧
    (filePlaceWant w s).booth = s.booth ∧
    (filePlaceWant w s).lanes = s.lanes ∧
    (filePlaceWant w s).seats = s.seats ∧
    (filePlaceWant w s).mix = s.mix ∧
    (filePlaceWant w s).pending = s.pending ∧
    (filePlaceWant w s).port.mask = s.port.mask ∧
    (filePlaceWant w s).port.response = s.port.response ∧
    (filePlaceWant w s).port.shifted = s.port.shifted := by
  simp [filePlaceWant]

/-- modifyDesk changes no other block than booth. -/
@[simp] theorem modifyDesk_keeps (e : Nat) (f : Desk → Desk) (s : State) :
    (modifyDesk e f s).station = s.station ∧
    (modifyDesk e f s).lif = s.lif ∧
    (modifyDesk e f s).peers = s.peers ∧
    (modifyDesk e f s).walls = s.walls ∧
    (modifyDesk e f s).room = s.room ∧
    (modifyDesk e f s).claims = s.claims ∧
    (modifyDesk e f s).dlc = s.dlc ∧
    (modifyDesk e f s).floor = s.floor ∧
    (modifyDesk e f s).lanes = s.lanes ∧
    (modifyDesk e f s).seats = s.seats ∧
    (modifyDesk e f s).mix = s.mix ∧
    (modifyDesk e f s).port = s.port ∧
    (modifyDesk e f s).pending = s.pending := by
  simp [modifyDesk]

/-- engageDesk changes no other block than booth, flags. -/
@[simp] theorem engageDesk_keeps (e : Nat) (s : State) :
    (engageDesk e s).station = s.station ∧
    (engageDesk e s).lif = s.lif ∧
    (engageDesk e s).peers = s.peers ∧
    (engageDesk e s).walls = s.walls ∧
    (engageDesk e s).room = s.room ∧
    (engageDesk e s).claims = s.claims ∧
    (engageDesk e s).dlc = s.dlc ∧
    (engageDesk e s).floor = s.floor ∧
    (engageDesk e s).lanes = s.lanes ∧
    (engageDesk e s).seats = s.seats ∧
    (engageDesk e s).mix = s.mix ∧
    (engageDesk e s).pending = s.pending ∧
    (engageDesk e s).port.mask = s.port.mask ∧
    (engageDesk e s).port.response = s.port.response ∧
    (engageDesk e s).port.shifted = s.port.shifted := by
  simp [engageDesk]

/-- setDeskOff changes no other block than booth. -/
@[simp] theorem setDeskOff_keeps (e : Nat) (s : State) :
    (setDeskOff e s).station = s.station ∧
    (setDeskOff e s).lif = s.lif ∧
    (setDeskOff e s).peers = s.peers ∧
    (setDeskOff e s).walls = s.walls ∧
    (setDeskOff e s).room = s.room ∧
    (setDeskOff e s).claims = s.claims ∧
    (setDeskOff e s).dlc = s.dlc ∧
    (setDeskOff e s).floor = s.floor ∧
    (setDeskOff e s).lanes = s.lanes ∧
    (setDeskOff e s).seats = s.seats ∧
    (setDeskOff e s).mix = s.mix ∧
    (setDeskOff e s).port = s.port ∧
    (setDeskOff e s).pending = s.pending := by
  simp [setDeskOff]

/-- endDeskHold changes no other block than claims. -/
@[simp] theorem endDeskHold_keeps (e : Nat) (s : State) :
    (endDeskHold e s).station = s.station ∧
    (endDeskHold e s).lif = s.lif ∧
    (endDeskHold e s).peers = s.peers ∧
    (endDeskHold e s).walls = s.walls ∧
    (endDeskHold e s).room = s.room ∧
    (endDeskHold e s).dlc = s.dlc ∧
    (endDeskHold e s).floor = s.floor ∧
    (endDeskHold e s).booth = s.booth ∧
    (endDeskHold e s).lanes = s.lanes ∧
    (endDeskHold e s).seats = s.seats ∧
    (endDeskHold e s).mix = s.mix ∧
    (endDeskHold e s).port = s.port ∧
    (endDeskHold e s).pending = s.pending := by
  simp [endDeskHold]

/-- takeDeskOffAir changes no other block than booth, claims. -/
@[simp] theorem takeDeskOffAir_keeps (e : Nat) (s : State) :
    (takeDeskOffAir e s).station = s.station ∧
    (takeDeskOffAir e s).lif = s.lif ∧
    (takeDeskOffAir e s).peers = s.peers ∧
    (takeDeskOffAir e s).walls = s.walls ∧
    (takeDeskOffAir e s).room = s.room ∧
    (takeDeskOffAir e s).dlc = s.dlc ∧
    (takeDeskOffAir e s).floor = s.floor ∧
    (takeDeskOffAir e s).lanes = s.lanes ∧
    (takeDeskOffAir e s).seats = s.seats ∧
    (takeDeskOffAir e s).mix = s.mix ∧
    (takeDeskOffAir e s).port = s.port ∧
    (takeDeskOffAir e s).pending = s.pending := by
  simp [takeDeskOffAir]

/-- fileLanguageWant changes no other block than booth, claims, flags. -/
@[simp] theorem fileLanguageWant_keeps (w : LanguageWant) (s : State) :
    (fileLanguageWant w s).station = s.station ∧
    (fileLanguageWant w s).lif = s.lif ∧
    (fileLanguageWant w s).peers = s.peers ∧
    (fileLanguageWant w s).walls = s.walls ∧
    (fileLanguageWant w s).room = s.room ∧
    (fileLanguageWant w s).dlc = s.dlc ∧
    (fileLanguageWant w s).floor = s.floor ∧
    (fileLanguageWant w s).lanes = s.lanes ∧
    (fileLanguageWant w s).seats = s.seats ∧
    (fileLanguageWant w s).mix = s.mix ∧
    (fileLanguageWant w s).pending = s.pending ∧
    (fileLanguageWant w s).port.mask = s.port.mask ∧
    (fileLanguageWant w s).port.response = s.port.response ∧
    (fileLanguageWant w s).port.shifted = s.port.shifted := by
  simp [fileLanguageWant]

/-- closeMics changes no other block than floor. -/
@[simp] theorem closeMics_keeps (pick : Mic → Bool) (s : State) :
    (closeMics pick s).station = s.station ∧
    (closeMics pick s).lif = s.lif ∧
    (closeMics pick s).peers = s.peers ∧
    (closeMics pick s).walls = s.walls ∧
    (closeMics pick s).room = s.room ∧
    (closeMics pick s).claims = s.claims ∧
    (closeMics pick s).dlc = s.dlc ∧
    (closeMics pick s).booth = s.booth ∧
    (closeMics pick s).lanes = s.lanes ∧
    (closeMics pick s).seats = s.seats ∧
    (closeMics pick s).mix = s.mix ∧
    (closeMics pick s).port = s.port ∧
    (closeMics pick s).pending = s.pending := by
  simp [closeMics]

/-- closeSeatMic changes no other block than floor. -/
@[simp] theorem closeSeatMic_keeps (seat : Nat) (s : State) :
    (closeSeatMic seat s).station = s.station ∧
    (closeSeatMic seat s).lif = s.lif ∧
    (closeSeatMic seat s).peers = s.peers ∧
    (closeSeatMic seat s).walls = s.walls ∧
    (closeSeatMic seat s).room = s.room ∧
    (closeSeatMic seat s).claims = s.claims ∧
    (closeSeatMic seat s).dlc = s.dlc ∧
    (closeSeatMic seat s).booth = s.booth ∧
    (closeSeatMic seat s).lanes = s.lanes ∧
    (closeSeatMic seat s).seats = s.seats ∧
    (closeSeatMic seat s).mix = s.mix ∧
    (closeSeatMic seat s).port = s.port ∧
    (closeSeatMic seat s).pending = s.pending := by
  simp [closeSeatMic]

/-- createRequest changes no other block than dlc, floor. -/
@[simp] theorem createRequest_keeps (seat : Nat) (s : State) :
    (createRequest seat s).station = s.station ∧
    (createRequest seat s).lif = s.lif ∧
    (createRequest seat s).peers = s.peers ∧
    (createRequest seat s).walls = s.walls ∧
    (createRequest seat s).room = s.room ∧
    (createRequest seat s).claims = s.claims ∧
    (createRequest seat s).booth = s.booth ∧
    (createRequest seat s).lanes = s.lanes ∧
    (createRequest seat s).seats = s.seats ∧
    (createRequest seat s).mix = s.mix ∧
    (createRequest seat s).port = s.port ∧
    (createRequest seat s).pending = s.pending := by
  simp [createRequest]

/-- dropRequest changes no other block than floor. -/
@[simp] theorem dropRequest_keeps (seat : Nat) (s : State) :
    (dropRequest seat s).station = s.station ∧
    (dropRequest seat s).lif = s.lif ∧
    (dropRequest seat s).peers = s.peers ∧
    (dropRequest seat s).walls = s.walls ∧
    (dropRequest seat s).room = s.room ∧
    (dropRequest seat s).claims = s.claims ∧
    (dropRequest seat s).dlc = s.dlc ∧
    (dropRequest seat s).booth = s.booth ∧
    (dropRequest seat s).lanes = s.lanes ∧
    (dropRequest seat s).seats = s.seats ∧
    (dropRequest seat s).mix = s.mix ∧
    (dropRequest seat s).port = s.port ∧
    (dropRequest seat s).pending = s.pending := by
  simp [dropRequest]

/-- removeRequest changes no other block than claims, floor. -/
@[simp] theorem removeRequest_keeps (seat : Nat) (s : State) :
    (removeRequest seat s).station = s.station ∧
    (removeRequest seat s).lif = s.lif ∧
    (removeRequest seat s).peers = s.peers ∧
    (removeRequest seat s).walls = s.walls ∧
    (removeRequest seat s).room = s.room ∧
    (removeRequest seat s).dlc = s.dlc ∧
    (removeRequest seat s).booth = s.booth ∧
    (removeRequest seat s).lanes = s.lanes ∧
    (removeRequest seat s).seats = s.seats ∧
    (removeRequest seat s).mix = s.mix ∧
    (removeRequest seat s).port = s.port ∧
    (removeRequest seat s).pending = s.pending := by
  simp [removeRequest]

/-- clearRequests changes no other block than claims, floor. -/
@[simp] theorem clearRequests_keeps (s : State) :
    (clearRequests s).station = s.station ∧
    (clearRequests s).lif = s.lif ∧
    (clearRequests s).peers = s.peers ∧
    (clearRequests s).walls = s.walls ∧
    (clearRequests s).room = s.room ∧
    (clearRequests s).dlc = s.dlc ∧
    (clearRequests s).booth = s.booth ∧
    (clearRequests s).lanes = s.lanes ∧
    (clearRequests s).seats = s.seats ∧
    (clearRequests s).mix = s.mix ∧
    (clearRequests s).port = s.port ∧
    (clearRequests s).pending = s.pending := by
  simp [clearRequests]

/-- endPlaceHold changes no other block than claims, dlc. -/
@[simp] theorem endPlaceHold_keeps (seat : Nat) (s : State) :
    (endPlaceHold seat s).station = s.station ∧
    (endPlaceHold seat s).lif = s.lif ∧
    (endPlaceHold seat s).peers = s.peers ∧
    (endPlaceHold seat s).walls = s.walls ∧
    (endPlaceHold seat s).room = s.room ∧
    (endPlaceHold seat s).floor = s.floor ∧
    (endPlaceHold seat s).booth = s.booth ∧
    (endPlaceHold seat s).lanes = s.lanes ∧
    (endPlaceHold seat s).seats = s.seats ∧
    (endPlaceHold seat s).mix = s.mix ∧
    (endPlaceHold seat s).port = s.port ∧
    (endPlaceHold seat s).pending = s.pending := by
  simp [endPlaceHold]

/-- workOutSources changes no other block than booth. -/
@[simp] theorem workOutSources_keeps (s : State) :
    (workOutSources s).station = s.station ∧
    (workOutSources s).lif = s.lif ∧
    (workOutSources s).peers = s.peers ∧
    (workOutSources s).walls = s.walls ∧
    (workOutSources s).room = s.room ∧
    (workOutSources s).claims = s.claims ∧
    (workOutSources s).dlc = s.dlc ∧
    (workOutSources s).floor = s.floor ∧
    (workOutSources s).lanes = s.lanes ∧
    (workOutSources s).seats = s.seats ∧
    (workOutSources s).mix = s.mix ∧
    (workOutSources s).port = s.port ∧
    (workOutSources s).pending = s.pending := by
  simp [workOutSources]

/-- applySources changes no other block than booth. -/
@[simp] theorem applySources_keeps (s : State) :
    (applySources s).station = s.station ∧
    (applySources s).lif = s.lif ∧
    (applySources s).peers = s.peers ∧
    (applySources s).walls = s.walls ∧
    (applySources s).room = s.room ∧
    (applySources s).claims = s.claims ∧
    (applySources s).dlc = s.dlc ∧
    (applySources s).floor = s.floor ∧
    (applySources s).lanes = s.lanes ∧
    (applySources s).seats = s.seats ∧
    (applySources s).mix = s.mix ∧
    (applySources s).port = s.port ∧
    (applySources s).pending = s.pending := by
  simp [applySources]

/-- forceRelay changes no other block than booth, flags. -/
@[simp] theorem forceRelay_keeps (e : Nat) (s : State) :
    (forceRelay e s).station = s.station ∧
    (forceRelay e s).lif = s.lif ∧
    (forceRelay e s).peers = s.peers ∧
    (forceRelay e s).walls = s.walls ∧
    (forceRelay e s).room = s.room ∧
    (forceRelay e s).claims = s.claims ∧
    (forceRelay e s).dlc = s.dlc ∧
    (forceRelay e s).floor = s.floor ∧
    (forceRelay e s).lanes = s.lanes ∧
    (forceRelay e s).seats = s.seats ∧
    (forceRelay e s).mix = s.mix ∧
    (forceRelay e s).pending = s.pending ∧
    (forceRelay e s).port.mask = s.port.mask ∧
    (forceRelay e s).port.response = s.port.response ∧
    (forceRelay e s).port.shifted = s.port.shifted := by
  simp [forceRelay]

/-- loopCheck changes no other block than booth, flags. -/
@[simp] theorem loopCheck_keeps (s : State) :
    (loopCheck s).station = s.station ∧
    (loopCheck s).lif = s.lif ∧
    (loopCheck s).peers = s.peers ∧
    (loopCheck s).walls = s.walls ∧
    (loopCheck s).room = s.room ∧
    (loopCheck s).claims = s.claims ∧
    (loopCheck s).dlc = s.dlc ∧
    (loopCheck s).floor = s.floor ∧
    (loopCheck s).lanes = s.lanes ∧
    (loopCheck s).seats = s.seats ∧
    (loopCheck s).mix = s.mix ∧
    (loopCheck s).pending = s.pending ∧
    (loopCheck s).port.mask = s.port.mask ∧
    (loopCheck s).port.response = s.port.response ∧
    (loopCheck s).port.shifted = s.port.shifted := by
  simp [loopCheck]

/-- dimEngaged changes no other block than booth. -/
@[simp] theorem dimEngaged_keeps (s : State) :
    (dimEngaged s).station = s.station ∧
    (dimEngaged s).lif = s.lif ∧
    (dimEngaged s).peers = s.peers ∧
    (dimEngaged s).walls = s.walls ∧
    (dimEngaged s).room = s.room ∧
    (dimEngaged s).claims = s.claims ∧
    (dimEngaged s).dlc = s.dlc ∧
    (dimEngaged s).floor = s.floor ∧
    (dimEngaged s).lanes = s.lanes ∧
    (dimEngaged s).seats = s.seats ∧
    (dimEngaged s).mix = s.mix ∧
    (dimEngaged s).port = s.port ∧
    (dimEngaged s).pending = s.pending := by
  simp [dimEngaged]

/-- sourceStep changes no other block than booth, flags. -/
@[simp] theorem sourceStep_keeps (s : State) :
    (sourceStep s).station = s.station ∧
    (sourceStep s).lif = s.lif ∧
    (sourceStep s).peers = s.peers ∧
    (sourceStep s).walls = s.walls ∧
    (sourceStep s).room = s.room ∧
    (sourceStep s).claims = s.claims ∧
    (sourceStep s).dlc = s.dlc ∧
    (sourceStep s).floor = s.floor ∧
    (sourceStep s).lanes = s.lanes ∧
    (sourceStep s).seats = s.seats ∧
    (sourceStep s).mix = s.mix ∧
    (sourceStep s).pending = s.pending ∧
    (sourceStep s).port.mask = s.port.mask ∧
    (sourceStep s).port.response = s.port.response ∧
    (sourceStep s).port.shifted = s.port.shifted := by
  simp [sourceStep]

/-- standAside changes no other block than booth, claims, flags. -/
@[simp] theorem standAside_keeps (e : Nat) (s : State) :
    (standAside e s).station = s.station ∧
    (standAside e s).lif = s.lif ∧
    (standAside e s).peers = s.peers ∧
    (standAside e s).walls = s.walls ∧
    (standAside e s).room = s.room ∧
    (standAside e s).dlc = s.dlc ∧
    (standAside e s).floor = s.floor ∧
    (standAside e s).lanes = s.lanes ∧
    (standAside e s).seats = s.seats ∧
    (standAside e s).mix = s.mix ∧
    (standAside e s).pending = s.pending ∧
    (standAside e s).port.mask = s.port.mask ∧
    (standAside e s).port.response = s.port.response ∧
    (standAside e s).port.shifted = s.port.shifted := by
  simp [standAside]

/-- deskConflictStep changes no other block than booth, claims, flags. -/
@[simp] theorem deskConflictStep_keeps (s : State) :
    (deskConflictStep s).station = s.station ∧
    (deskConflictStep s).lif = s.lif ∧
    (deskConflictStep s).peers = s.peers ∧
    (deskConflictStep s).walls = s.walls ∧
    (deskConflictStep s).room = s.room ∧
    (deskConflictStep s).dlc = s.dlc ∧
    (deskConflictStep s).floor = s.floor ∧
    (deskConflictStep s).lanes = s.lanes ∧
    (deskConflictStep s).seats = s.seats ∧
    (deskConflictStep s).mix = s.mix ∧
    (deskConflictStep s).pending = s.pending ∧
    (deskConflictStep s).port.mask = s.port.mask ∧
    (deskConflictStep s).port.response = s.port.response ∧
    (deskConflictStep s).port.shifted = s.port.shifted := by
  simp [deskConflictStep]

/-- deskRaised changes no other block than booth. -/
@[simp] theorem deskRaised_keeps (e : Nat) (s : State) :
    (deskRaised e s).station = s.station ∧
    (deskRaised e s).lif = s.lif ∧
    (deskRaised e s).peers = s.peers ∧
    (deskRaised e s).walls = s.walls ∧
    (deskRaised e s).room = s.room ∧
    (deskRaised e s).claims = s.claims ∧
    (deskRaised e s).dlc = s.dlc ∧
    (deskRaised e s).floor = s.floor ∧
    (deskRaised e s).lanes = s.lanes ∧
    (deskRaised e s).seats = s.seats ∧
    (deskRaised e s).mix = s.mix ∧
    (deskRaised e s).port = s.port ∧
    (deskRaised e s).pending = s.pending := by
  simp [deskRaised]

/-- deskWithdrawn changes no other block than booth. -/
@[simp] theorem deskWithdrawn_keeps (e : Nat) (s : State) :
    (deskWithdrawn e s).station = s.station ∧
    (deskWithdrawn e s).lif = s.lif ∧
    (deskWithdrawn e s).peers = s.peers ∧
    (deskWithdrawn e s).walls = s.walls ∧
    (deskWithdrawn e s).room = s.room ∧
    (deskWithdrawn e s).claims = s.claims ∧
    (deskWithdrawn e s).dlc = s.dlc ∧
    (deskWithdrawn e s).floor = s.floor ∧
    (deskWithdrawn e s).lanes = s.lanes ∧
    (deskWithdrawn e s).seats = s.seats ∧
    (deskWithdrawn e s).mix = s.mix ∧
    (deskWithdrawn e s).port = s.port ∧
    (deskWithdrawn e s).pending = s.pending := by
  simp [deskWithdrawn]

/-- deskLost changes no other block than booth, flags. -/
@[simp] theorem deskLost_keeps (e : Nat) (s : State) :
    (deskLost e s).station = s.station ∧
    (deskLost e s).lif = s.lif ∧
    (deskLost e s).peers = s.peers ∧
    (deskLost e s).walls = s.walls ∧
    (deskLost e s).room = s.room ∧
    (deskLost e s).claims = s.claims ∧
    (deskLost e s).dlc = s.dlc ∧
    (deskLost e s).floor = s.floor ∧
    (deskLost e s).lanes = s.lanes ∧
    (deskLost e s).seats = s.seats ∧
    (deskLost e s).mix = s.mix ∧
    (deskLost e s).pending = s.pending ∧
    (deskLost e s).port.mask = s.port.mask ∧
    (deskLost e s).port.response = s.port.response ∧
    (deskLost e s).port.shifted = s.port.shifted := by
  simp [deskLost]

/-- deskWon changes no other block than booth, claims, flags. -/
@[simp] theorem deskWon_keeps (e l : Nat) (displaced : Option Named) (s : State) :
    (deskWon e l displaced s).station = s.station ∧
    (deskWon e l displaced s).lif = s.lif ∧
    (deskWon e l displaced s).peers = s.peers ∧
    (deskWon e l displaced s).walls = s.walls ∧
    (deskWon e l displaced s).room = s.room ∧
    (deskWon e l displaced s).dlc = s.dlc ∧
    (deskWon e l displaced s).floor = s.floor ∧
    (deskWon e l displaced s).lanes = s.lanes ∧
    (deskWon e l displaced s).seats = s.seats ∧
    (deskWon e l displaced s).mix = s.mix ∧
    (deskWon e l displaced s).pending = s.pending ∧
    (deskWon e l displaced s).port.mask = s.port.mask ∧
    (deskWon e l displaced s).port.response = s.port.response ∧
    (deskWon e l displaced s).port.shifted = s.port.shifted := by
  simp only [deskWon]
  repeat' split
  all_goals simp

/-- applyTakeovers changes no other block than booth, claims, flags. -/
@[simp] theorem applyTakeovers_keeps (a : Announcement) (s : State) :
    (applyTakeovers a s).station = s.station ∧
    (applyTakeovers a s).lif = s.lif ∧
    (applyTakeovers a s).peers = s.peers ∧
    (applyTakeovers a s).walls = s.walls ∧
    (applyTakeovers a s).room = s.room ∧
    (applyTakeovers a s).dlc = s.dlc ∧
    (applyTakeovers a s).floor = s.floor ∧
    (applyTakeovers a s).lanes = s.lanes ∧
    (applyTakeovers a s).seats = s.seats ∧
    (applyTakeovers a s).mix = s.mix ∧
    (applyTakeovers a s).pending = s.pending ∧
    (applyTakeovers a s).port.mask = s.port.mask ∧
    (applyTakeovers a s).port.response = s.port.response ∧
    (applyTakeovers a s).port.shifted = s.port.shifted := by
  simp [applyTakeovers]

/-- advanceDesks changes no other block than booth. -/
@[simp] theorem advanceDesks_keeps (s : State) :
    (advanceDesks s).station = s.station ∧
    (advanceDesks s).lif = s.lif ∧
    (advanceDesks s).peers = s.peers ∧
    (advanceDesks s).walls = s.walls ∧
    (advanceDesks s).room = s.room ∧
    (advanceDesks s).claims = s.claims ∧
    (advanceDesks s).dlc = s.dlc ∧
    (advanceDesks s).floor = s.floor ∧
    (advanceDesks s).lanes = s.lanes ∧
    (advanceDesks s).seats = s.seats ∧
    (advanceDesks s).mix = s.mix ∧
    (advanceDesks s).port = s.port ∧
    (advanceDesks s).pending = s.pending := by
  simp [advanceDesks]

/-- setHoldings changes no other block than lanes. -/
@[simp] theorem setHoldings_keeps (hs : List Holding) (s : State) :
    (setHoldings hs s).station = s.station ∧
    (setHoldings hs s).lif = s.lif ∧
    (setHoldings hs s).peers = s.peers ∧
    (setHoldings hs s).walls = s.walls ∧
    (setHoldings hs s).room = s.room ∧
    (setHoldings hs s).claims = s.claims ∧
    (setHoldings hs s).dlc = s.dlc ∧
    (setHoldings hs s).floor = s.floor ∧
    (setHoldings hs s).booth = s.booth ∧
    (setHoldings hs s).seats = s.seats ∧
    (setHoldings hs s).mix = s.mix ∧
    (setHoldings hs s).port = s.port ∧
    (setHoldings hs s).pending = s.pending := by
  simp [setHoldings]

/-- evalDemand changes no other block than lanes. -/
@[simp] theorem evalDemand_keeps (s : State) :
    (evalDemand s).station = s.station ∧
    (evalDemand s).lif = s.lif ∧
    (evalDemand s).peers = s.peers ∧
    (evalDemand s).walls = s.walls ∧
    (evalDemand s).room = s.room ∧
    (evalDemand s).claims = s.claims ∧
    (evalDemand s).dlc = s.dlc ∧
    (evalDemand s).floor = s.floor ∧
    (evalDemand s).booth = s.booth ∧
    (evalDemand s).seats = s.seats ∧
    (evalDemand s).mix = s.mix ∧
    (evalDemand s).port = s.port ∧
    (evalDemand s).pending = s.pending := by
  simp [evalDemand]

/-- endLaneHold changes no other block than claims. -/
@[simp] theorem endLaneHold_keeps (lane : Nat) (s : State) :
    (endLaneHold lane s).station = s.station ∧
    (endLaneHold lane s).lif = s.lif ∧
    (endLaneHold lane s).peers = s.peers ∧
    (endLaneHold lane s).walls = s.walls ∧
    (endLaneHold lane s).room = s.room ∧
    (endLaneHold lane s).dlc = s.dlc ∧
    (endLaneHold lane s).floor = s.floor ∧
    (endLaneHold lane s).booth = s.booth ∧
    (endLaneHold lane s).lanes = s.lanes ∧
    (endLaneHold lane s).seats = s.seats ∧
    (endLaneHold lane s).mix = s.mix ∧
    (endLaneHold lane s).port = s.port ∧
    (endLaneHold lane s).pending = s.pending := by
  simp [endLaneHold]

/-- dropHolding changes no other block than lanes. -/
@[simp] theorem dropHolding_keeps (lane : Nat) (s : State) :
    (dropHolding lane s).station = s.station ∧
    (dropHolding lane s).lif = s.lif ∧
    (dropHolding lane s).peers = s.peers ∧
    (dropHolding lane s).walls = s.walls ∧
    (dropHolding lane s).room = s.room ∧
    (dropHolding lane s).claims = s.claims ∧
    (dropHolding lane s).dlc = s.dlc ∧
    (dropHolding lane s).floor = s.floor ∧
    (dropHolding lane s).booth = s.booth ∧
    (dropHolding lane s).seats = s.seats ∧
    (dropHolding lane s).mix = s.mix ∧
    (dropHolding lane s).port = s.port ∧
    (dropHolding lane s).pending = s.pending := by
  simp [dropHolding]

/-- releaseLanes changes no other block than claims, lanes. -/
@[simp] theorem releaseLanes_keeps (marked : List Nat) (s : State) :
    (releaseLanes marked s).station = s.station ∧
    (releaseLanes marked s).lif = s.lif ∧
    (releaseLanes marked s).peers = s.peers ∧
    (releaseLanes marked s).walls = s.walls ∧
    (releaseLanes marked s).room = s.room ∧
    (releaseLanes marked s).dlc = s.dlc ∧
    (releaseLanes marked s).floor = s.floor ∧
    (releaseLanes marked s).booth = s.booth ∧
    (releaseLanes marked s).seats = s.seats ∧
    (releaseLanes marked s).mix = s.mix ∧
    (releaseLanes marked s).port = s.port ∧
    (releaseLanes marked s).pending = s.pending := by
  simp [releaseLanes]

/-- laneRaised changes no other block than lanes. -/
@[simp] theorem laneRaised_keeps (lane language : Nat) (s : State) :
    (laneRaised lane language s).station = s.station ∧
    (laneRaised lane language s).lif = s.lif ∧
    (laneRaised lane language s).peers = s.peers ∧
    (laneRaised lane language s).walls = s.walls ∧
    (laneRaised lane language s).room = s.room ∧
    (laneRaised lane language s).claims = s.claims ∧
    (laneRaised lane language s).dlc = s.dlc ∧
    (laneRaised lane language s).floor = s.floor ∧
    (laneRaised lane language s).booth = s.booth ∧
    (laneRaised lane language s).seats = s.seats ∧
    (laneRaised lane language s).mix = s.mix ∧
    (laneRaised lane language s).port = s.port ∧
    (laneRaised lane language s).pending = s.pending := by
  simp [laneRaised]

/-- laneWon changes no other block than lanes. -/
@[simp] theorem laneWon_keeps (lane : Nat) (s : State) :
    (laneWon lane s).station = s.station ∧
    (laneWon lane s).lif = s.lif ∧
    (laneWon lane s).peers = s.peers ∧
    (laneWon lane s).walls = s.walls ∧
    (laneWon lane s).room = s.room ∧
    (laneWon lane s).claims = s.claims ∧
    (laneWon lane s).dlc = s.dlc ∧
    (laneWon lane s).floor = s.floor ∧
    (laneWon lane s).booth = s.booth ∧
    (laneWon lane s).seats = s.seats ∧
    (laneWon lane s).mix = s.mix ∧
    (laneWon lane s).port = s.port ∧
    (laneWon lane s).pending = s.pending := by
  simp [laneWon]

/-- laneShort changes no other block than flags, lanes. -/
@[simp] theorem laneShort_keeps (language : Nat) (s : State) :
    (laneShort language s).station = s.station ∧
    (laneShort language s).lif = s.lif ∧
    (laneShort language s).peers = s.peers ∧
    (laneShort language s).walls = s.walls ∧
    (laneShort language s).room = s.room ∧
    (laneShort language s).claims = s.claims ∧
    (laneShort language s).dlc = s.dlc ∧
    (laneShort language s).floor = s.floor ∧
    (laneShort language s).booth = s.booth ∧
    (laneShort language s).seats = s.seats ∧
    (laneShort language s).mix = s.mix ∧
    (laneShort language s).pending = s.pending ∧
    (laneShort language s).port.mask = s.port.mask ∧
    (laneShort language s).port.response = s.port.response ∧
    (laneShort language s).port.shifted = s.port.shifted := by
  simp [laneShort]

/-- advanceLanes changes no other block than lanes. -/
@[simp] theorem advanceLanes_keeps (s : State) :
    (advanceLanes s).station = s.station ∧
    (advanceLanes s).lif = s.lif ∧
    (advanceLanes s).peers = s.peers ∧
    (advanceLanes s).walls = s.walls ∧
    (advanceLanes s).room = s.room ∧
    (advanceLanes s).claims = s.claims ∧
    (advanceLanes s).dlc = s.dlc ∧
    (advanceLanes s).floor = s.floor ∧
    (advanceLanes s).booth = s.booth ∧
    (advanceLanes s).seats = s.seats ∧
    (advanceLanes s).mix = s.mix ∧
    (advanceLanes s).port = s.port ∧
    (advanceLanes s).pending = s.pending := by
  simp [advanceLanes]

/-- releaseAllLanes changes no other block than claims, lanes. -/
@[simp] theorem releaseAllLanes_keeps (s : State) :
    (releaseAllLanes s).station = s.station ∧
    (releaseAllLanes s).lif = s.lif ∧
    (releaseAllLanes s).peers = s.peers ∧
    (releaseAllLanes s).walls = s.walls ∧
    (releaseAllLanes s).room = s.room ∧
    (releaseAllLanes s).dlc = s.dlc ∧
    (releaseAllLanes s).floor = s.floor ∧
    (releaseAllLanes s).booth = s.booth ∧
    (releaseAllLanes s).seats = s.seats ∧
    (releaseAllLanes s).mix = s.mix ∧
    (releaseAllLanes s).port = s.port ∧
    (releaseAllLanes s).pending = s.pending := by
  simp [releaseAllLanes]

/-- claimsAtMembership changes no other block than claims. -/
@[simp] theorem claimsAtMembership_keeps (s : State) :
    (claimsAtMembership s).station = s.station ∧
    (claimsAtMembership s).lif = s.lif ∧
    (claimsAtMembership s).peers = s.peers ∧
    (claimsAtMembership s).walls = s.walls ∧
    (claimsAtMembership s).room = s.room ∧
    (claimsAtMembership s).dlc = s.dlc ∧
    (claimsAtMembership s).floor = s.floor ∧
    (claimsAtMembership s).booth = s.booth ∧
    (claimsAtMembership s).lanes = s.lanes ∧
    (claimsAtMembership s).seats = s.seats ∧
    (claimsAtMembership s).mix = s.mix ∧
    (claimsAtMembership s).port = s.port ∧
    (claimsAtMembership s).pending = s.pending := by
  simp [claimsAtMembership]

/-- markNewcomers changes no other block than room. -/
@[simp] theorem markNewcomers_keeps (before : List Nat) (s : State) :
    (markNewcomers before s).station = s.station ∧
    (markNewcomers before s).lif = s.lif ∧
    (markNewcomers before s).peers = s.peers ∧
    (markNewcomers before s).walls = s.walls ∧
    (markNewcomers before s).claims = s.claims ∧
    (markNewcomers before s).dlc = s.dlc ∧
    (markNewcomers before s).floor = s.floor ∧
    (markNewcomers before s).booth = s.booth ∧
    (markNewcomers before s).lanes = s.lanes ∧
    (markNewcomers before s).seats = s.seats ∧
    (markNewcomers before s).mix = s.mix ∧
    (markNewcomers before s).port = s.port ∧
    (markNewcomers before s).pending = s.pending := by
  simp [markNewcomers]

/-- presentMembership changes no other block than claims, flags, lanes, room. -/
@[simp] theorem presentMembership_keeps (before : List Nat) (s : State) :
    (presentMembership before s).station = s.station ∧
    (presentMembership before s).lif = s.lif ∧
    (presentMembership before s).peers = s.peers ∧
    (presentMembership before s).walls = s.walls ∧
    (presentMembership before s).dlc = s.dlc ∧
    (presentMembership before s).floor = s.floor ∧
    (presentMembership before s).booth = s.booth ∧
    (presentMembership before s).seats = s.seats ∧
    (presentMembership before s).mix = s.mix ∧
    (presentMembership before s).pending = s.pending ∧
    (presentMembership before s).port.mask = s.port.mask ∧
    (presentMembership before s).port.response = s.port.response ∧
    (presentMembership before s).port.shifted = s.port.shifted := by
  simp [presentMembership]

/-- claimsAtContext changes no other block than claims. -/
@[simp] theorem claimsAtContext_keeps (before after : Context) (s : State) :
    (claimsAtContext before after s).station = s.station ∧
    (claimsAtContext before after s).lif = s.lif ∧
    (claimsAtContext before after s).peers = s.peers ∧
    (claimsAtContext before after s).walls = s.walls ∧
    (claimsAtContext before after s).room = s.room ∧
    (claimsAtContext before after s).dlc = s.dlc ∧
    (claimsAtContext before after s).floor = s.floor ∧
    (claimsAtContext before after s).booth = s.booth ∧
    (claimsAtContext before after s).lanes = s.lanes ∧
    (claimsAtContext before after s).seats = s.seats ∧
    (claimsAtContext before after s).mix = s.mix ∧
    (claimsAtContext before after s).port = s.port ∧
    (claimsAtContext before after s).pending = s.pending := by
  simp [claimsAtContext]

/-- floorAtContext changes no other block than claims, floor. -/
@[simp] theorem floorAtContext_keeps (before after : Context) (s : State) :
    (floorAtContext before after s).station = s.station ∧
    (floorAtContext before after s).lif = s.lif ∧
    (floorAtContext before after s).peers = s.peers ∧
    (floorAtContext before after s).walls = s.walls ∧
    (floorAtContext before after s).room = s.room ∧
    (floorAtContext before after s).dlc = s.dlc ∧
    (floorAtContext before after s).booth = s.booth ∧
    (floorAtContext before after s).lanes = s.lanes ∧
    (floorAtContext before after s).seats = s.seats ∧
    (floorAtContext before after s).mix = s.mix ∧
    (floorAtContext before after s).port = s.port ∧
    (floorAtContext before after s).pending = s.pending := by
  simp [floorAtContext]

/-- presentContext changes no other block than booth, claims, floor. -/
@[simp] theorem presentContext_keeps (before after : Context) (s : State) :
    (presentContext before after s).station = s.station ∧
    (presentContext before after s).lif = s.lif ∧
    (presentContext before after s).peers = s.peers ∧
    (presentContext before after s).walls = s.walls ∧
    (presentContext before after s).room = s.room ∧
    (presentContext before after s).dlc = s.dlc ∧
    (presentContext before after s).lanes = s.lanes ∧
    (presentContext before after s).seats = s.seats ∧
    (presentContext before after s).mix = s.mix ∧
    (presentContext before after s).port = s.port ∧
    (presentContext before after s).pending = s.pending := by
  simp [presentContext]

/-- recomposed changes no other block than floor, room. -/
@[simp] theorem recomposed_keeps (s : State) :
    (recomposed s).station = s.station ∧
    (recomposed s).lif = s.lif ∧
    (recomposed s).peers = s.peers ∧
    (recomposed s).walls = s.walls ∧
    (recomposed s).claims = s.claims ∧
    (recomposed s).dlc = s.dlc ∧
    (recomposed s).booth = s.booth ∧
    (recomposed s).lanes = s.lanes ∧
    (recomposed s).seats = s.seats ∧
    (recomposed s).mix = s.mix ∧
    (recomposed s).port = s.port ∧
    (recomposed s).pending = s.pending := by
  simp [recomposed]

/-- presentContextChange changes no other block than booth, claims, floor. -/
@[simp] theorem presentContextChange_keeps (before after : Option Context) (s : State) :
    (presentContextChange before after s).station = s.station ∧
    (presentContextChange before after s).lif = s.lif ∧
    (presentContextChange before after s).peers = s.peers ∧
    (presentContextChange before after s).walls = s.walls ∧
    (presentContextChange before after s).room = s.room ∧
    (presentContextChange before after s).dlc = s.dlc ∧
    (presentContextChange before after s).lanes = s.lanes ∧
    (presentContextChange before after s).seats = s.seats ∧
    (presentContextChange before after s).mix = s.mix ∧
    (presentContextChange before after s).port = s.port ∧
    (presentContextChange before after s).pending = s.pending := by
  simp only [presentContextChange]
  repeat' split
  all_goals simp

/-- recompute changes no other block than booth, claims, flags, floor, lanes, room. -/
@[simp] theorem recompute_keeps (s : State) :
    (recompute s).station = s.station ∧
    (recompute s).lif = s.lif ∧
    (recompute s).peers = s.peers ∧
    (recompute s).walls = s.walls ∧
    (recompute s).dlc = s.dlc ∧
    (recompute s).seats = s.seats ∧
    (recompute s).mix = s.mix ∧
    (recompute s).pending = s.pending ∧
    (recompute s).port.mask = s.port.mask ∧
    (recompute s).port.response = s.port.response ∧
    (recompute s).port.shifted = s.port.shifted := by
  simp [recompute]

end Sys2Proof.Machine
end

