-- ==== Sys2Proof/Laws/FrameFloor.lean ====
section
/-! SUPPORT. Frame lemmas: for each operation of the floor, the room commands, the Claim Unit and the Seat Channel Allocator, the blocks it leaves as they
are. -/

namespace Sys2Proof.Machine

/-- pressIdleFree changes no other block than claims, dlc, flags. -/
@[simp] theorem pressIdleFree_keeps (seat : Nat) (s : State) :
    (pressIdleFree seat s).station = s.station ∧
    (pressIdleFree seat s).lif = s.lif ∧
    (pressIdleFree seat s).peers = s.peers ∧
    (pressIdleFree seat s).walls = s.walls ∧
    (pressIdleFree seat s).room = s.room ∧
    (pressIdleFree seat s).floor = s.floor ∧
    (pressIdleFree seat s).booth = s.booth ∧
    (pressIdleFree seat s).lanes = s.lanes ∧
    (pressIdleFree seat s).seats = s.seats ∧
    (pressIdleFree seat s).mix = s.mix ∧
    (pressIdleFree seat s).pending = s.pending ∧
    (pressIdleFree seat s).port.mask = s.port.mask ∧
    (pressIdleFree seat s).port.response = s.port.response ∧
    (pressIdleFree seat s).port.shifted = s.port.shifted := by
  simp [pressIdleFree]

/-- pressIdleQueue changes no other block than claims, dlc, flags, floor. -/
@[simp] theorem pressIdleQueue_keeps (seat : Nat) (s : State) :
    (pressIdleQueue seat s).station = s.station ∧
    (pressIdleQueue seat s).lif = s.lif ∧
    (pressIdleQueue seat s).peers = s.peers ∧
    (pressIdleQueue seat s).walls = s.walls ∧
    (pressIdleQueue seat s).room = s.room ∧
    (pressIdleQueue seat s).booth = s.booth ∧
    (pressIdleQueue seat s).lanes = s.lanes ∧
    (pressIdleQueue seat s).seats = s.seats ∧
    (pressIdleQueue seat s).mix = s.mix ∧
    (pressIdleQueue seat s).pending = s.pending ∧
    (pressIdleQueue seat s).port.mask = s.port.mask ∧
    (pressIdleQueue seat s).port.response = s.port.response ∧
    (pressIdleQueue seat s).port.shifted = s.port.shifted := by
  simp [pressIdleQueue]

/-- pressIdleOverride changes no other block than claims, dlc, flags. -/
@[simp] theorem pressIdleOverride_keeps (seat : Nat) (s : State) :
    (pressIdleOverride seat s).station = s.station ∧
    (pressIdleOverride seat s).lif = s.lif ∧
    (pressIdleOverride seat s).peers = s.peers ∧
    (pressIdleOverride seat s).walls = s.walls ∧
    (pressIdleOverride seat s).room = s.room ∧
    (pressIdleOverride seat s).floor = s.floor ∧
    (pressIdleOverride seat s).booth = s.booth ∧
    (pressIdleOverride seat s).lanes = s.lanes ∧
    (pressIdleOverride seat s).seats = s.seats ∧
    (pressIdleOverride seat s).mix = s.mix ∧
    (pressIdleOverride seat s).pending = s.pending ∧
    (pressIdleOverride seat s).port.mask = s.port.mask ∧
    (pressIdleOverride seat s).port.response = s.port.response ∧
    (pressIdleOverride seat s).port.shifted = s.port.shifted := by
  simp only [pressIdleOverride]
  repeat' split
  all_goals simp

/-- pressIdle changes no other block than claims, dlc, flags, floor. -/
@[simp] theorem pressIdle_keeps (seat : Nat) (s : State) :
    (pressIdle seat s).station = s.station ∧
    (pressIdle seat s).lif = s.lif ∧
    (pressIdle seat s).peers = s.peers ∧
    (pressIdle seat s).walls = s.walls ∧
    (pressIdle seat s).room = s.room ∧
    (pressIdle seat s).booth = s.booth ∧
    (pressIdle seat s).lanes = s.lanes ∧
    (pressIdle seat s).seats = s.seats ∧
    (pressIdle seat s).mix = s.mix ∧
    (pressIdle seat s).pending = s.pending ∧
    (pressIdle seat s).port.mask = s.port.mask ∧
    (pressIdle seat s).port.response = s.port.response ∧
    (pressIdle seat s).port.shifted = s.port.shifted := by
  simp only [pressIdle]
  repeat' split
  all_goals simp

/-- micPress changes no other block than claims, dlc, flags, floor. -/
@[simp] theorem micPress_keeps (seat : Nat) (s : State) :
    (micPress seat s).station = s.station ∧
    (micPress seat s).lif = s.lif ∧
    (micPress seat s).peers = s.peers ∧
    (micPress seat s).walls = s.walls ∧
    (micPress seat s).room = s.room ∧
    (micPress seat s).booth = s.booth ∧
    (micPress seat s).lanes = s.lanes ∧
    (micPress seat s).seats = s.seats ∧
    (micPress seat s).mix = s.mix ∧
    (micPress seat s).pending = s.pending ∧
    (micPress seat s).port.mask = s.port.mask ∧
    (micPress seat s).port.response = s.port.response ∧
    (micPress seat s).port.shifted = s.port.shifted := by
  simp only [micPress]
  repeat' split
  all_goals simp

/-- cancelSeat changes no other block than claims, floor. -/
@[simp] theorem cancelSeat_keeps (seat : Nat) (s : State) :
    (cancelSeat seat s).station = s.station ∧
    (cancelSeat seat s).lif = s.lif ∧
    (cancelSeat seat s).peers = s.peers ∧
    (cancelSeat seat s).walls = s.walls ∧
    (cancelSeat seat s).room = s.room ∧
    (cancelSeat seat s).dlc = s.dlc ∧
    (cancelSeat seat s).booth = s.booth ∧
    (cancelSeat seat s).lanes = s.lanes ∧
    (cancelSeat seat s).seats = s.seats ∧
    (cancelSeat seat s).mix = s.mix ∧
    (cancelSeat seat s).port = s.port ∧
    (cancelSeat seat s).pending = s.pending := by
  simp [cancelSeat]

/-- closeSeatCommand changes no other block than claims, floor. -/
@[simp] theorem closeSeatCommand_keeps (seat : Nat) (s : State) :
    (closeSeatCommand seat s).station = s.station ∧
    (closeSeatCommand seat s).lif = s.lif ∧
    (closeSeatCommand seat s).peers = s.peers ∧
    (closeSeatCommand seat s).walls = s.walls ∧
    (closeSeatCommand seat s).room = s.room ∧
    (closeSeatCommand seat s).dlc = s.dlc ∧
    (closeSeatCommand seat s).booth = s.booth ∧
    (closeSeatCommand seat s).lanes = s.lanes ∧
    (closeSeatCommand seat s).seats = s.seats ∧
    (closeSeatCommand seat s).mix = s.mix ∧
    (closeSeatCommand seat s).port = s.port ∧
    (closeSeatCommand seat s).pending = s.pending := by
  simp [closeSeatCommand]

/-- placeRefused changes no other block than dlc, flags. -/
@[simp] theorem placeRefused_keeps (origin : Origin) (seat : Nat) (s : State) :
    (placeRefused origin seat s).station = s.station ∧
    (placeRefused origin seat s).lif = s.lif ∧
    (placeRefused origin seat s).peers = s.peers ∧
    (placeRefused origin seat s).walls = s.walls ∧
    (placeRefused origin seat s).room = s.room ∧
    (placeRefused origin seat s).claims = s.claims ∧
    (placeRefused origin seat s).floor = s.floor ∧
    (placeRefused origin seat s).booth = s.booth ∧
    (placeRefused origin seat s).lanes = s.lanes ∧
    (placeRefused origin seat s).seats = s.seats ∧
    (placeRefused origin seat s).mix = s.mix ∧
    (placeRefused origin seat s).pending = s.pending ∧
    (placeRefused origin seat s).port.mask = s.port.mask ∧
    (placeRefused origin seat s).port.response = s.port.response ∧
    (placeRefused origin seat s).port.shifted = s.port.shifted := by
  simp [placeRefused]

/-- placeWon changes no other block than dlc, floor. -/
@[simp] theorem placeWon_keeps (c : PlaceClaim) (s : State) :
    (placeWon c s).station = s.station ∧
    (placeWon c s).lif = s.lif ∧
    (placeWon c s).peers = s.peers ∧
    (placeWon c s).walls = s.walls ∧
    (placeWon c s).room = s.room ∧
    (placeWon c s).claims = s.claims ∧
    (placeWon c s).booth = s.booth ∧
    (placeWon c s).lanes = s.lanes ∧
    (placeWon c s).seats = s.seats ∧
    (placeWon c s).mix = s.mix ∧
    (placeWon c s).port = s.port ∧
    (placeWon c s).pending = s.pending := by
  simp only [placeWon]
  repeat' split
  all_goals simp

/-- tagChanged changes no other block than floor. -/
@[simp] theorem tagChanged_keeps (seat tag : Nat) (s : State) :
    (tagChanged seat tag s).station = s.station ∧
    (tagChanged seat tag s).lif = s.lif ∧
    (tagChanged seat tag s).peers = s.peers ∧
    (tagChanged seat tag s).walls = s.walls ∧
    (tagChanged seat tag s).room = s.room ∧
    (tagChanged seat tag s).claims = s.claims ∧
    (tagChanged seat tag s).dlc = s.dlc ∧
    (tagChanged seat tag s).booth = s.booth ∧
    (tagChanged seat tag s).lanes = s.lanes ∧
    (tagChanged seat tag s).seats = s.seats ∧
    (tagChanged seat tag s).mix = s.mix ∧
    (tagChanged seat tag s).port = s.port ∧
    (tagChanged seat tag s).pending = s.pending := by
  simp [tagChanged]

/-- applyOverrides changes no other block than floor. -/
@[simp] theorem applyOverrides_keeps (a : Announcement) (s : State) :
    (applyOverrides a s).station = s.station ∧
    (applyOverrides a s).lif = s.lif ∧
    (applyOverrides a s).peers = s.peers ∧
    (applyOverrides a s).walls = s.walls ∧
    (applyOverrides a s).room = s.room ∧
    (applyOverrides a s).claims = s.claims ∧
    (applyOverrides a s).dlc = s.dlc ∧
    (applyOverrides a s).booth = s.booth ∧
    (applyOverrides a s).lanes = s.lanes ∧
    (applyOverrides a s).seats = s.seats ∧
    (applyOverrides a s).mix = s.mix ∧
    (applyOverrides a s).port = s.port ∧
    (applyOverrides a s).pending = s.pending := by
  simp [applyOverrides]

/-- removeFaded changes no other block than claims, dlc, floor. -/
@[simp] theorem removeFaded_keeps (s : State) :
    (removeFaded s).station = s.station ∧
    (removeFaded s).lif = s.lif ∧
    (removeFaded s).peers = s.peers ∧
    (removeFaded s).walls = s.walls ∧
    (removeFaded s).room = s.room ∧
    (removeFaded s).booth = s.booth ∧
    (removeFaded s).lanes = s.lanes ∧
    (removeFaded s).seats = s.seats ∧
    (removeFaded s).mix = s.mix ∧
    (removeFaded s).port = s.port ∧
    (removeFaded s).pending = s.pending := by
  simp [removeFaded]

/-- expireSpeaking changes no other block than flags, floor. -/
@[simp] theorem expireSpeaking_keeps (s : State) :
    (expireSpeaking s).station = s.station ∧
    (expireSpeaking s).lif = s.lif ∧
    (expireSpeaking s).peers = s.peers ∧
    (expireSpeaking s).walls = s.walls ∧
    (expireSpeaking s).room = s.room ∧
    (expireSpeaking s).claims = s.claims ∧
    (expireSpeaking s).dlc = s.dlc ∧
    (expireSpeaking s).booth = s.booth ∧
    (expireSpeaking s).lanes = s.lanes ∧
    (expireSpeaking s).seats = s.seats ∧
    (expireSpeaking s).mix = s.mix ∧
    (expireSpeaking s).pending = s.pending ∧
    (expireSpeaking s).port.mask = s.port.mask ∧
    (expireSpeaking s).port.response = s.port.response ∧
    (expireSpeaking s).port.shifted = s.port.shifted := by
  simp [expireSpeaking]

/-- advanceRequests changes no other block than floor. -/
@[simp] theorem advanceRequests_keeps (s : State) :
    (advanceRequests s).station = s.station ∧
    (advanceRequests s).lif = s.lif ∧
    (advanceRequests s).peers = s.peers ∧
    (advanceRequests s).walls = s.walls ∧
    (advanceRequests s).room = s.room ∧
    (advanceRequests s).claims = s.claims ∧
    (advanceRequests s).dlc = s.dlc ∧
    (advanceRequests s).booth = s.booth ∧
    (advanceRequests s).lanes = s.lanes ∧
    (advanceRequests s).seats = s.seats ∧
    (advanceRequests s).mix = s.mix ∧
    (advanceRequests s).port = s.port ∧
    (advanceRequests s).pending = s.pending := by
  simp [advanceRequests]

/-- floorSwitchPoint changes no other block than claims, dlc, flags, floor. -/
@[simp] theorem floorSwitchPoint_keeps (s : State) :
    (floorSwitchPoint s).station = s.station ∧
    (floorSwitchPoint s).lif = s.lif ∧
    (floorSwitchPoint s).peers = s.peers ∧
    (floorSwitchPoint s).walls = s.walls ∧
    (floorSwitchPoint s).room = s.room ∧
    (floorSwitchPoint s).booth = s.booth ∧
    (floorSwitchPoint s).lanes = s.lanes ∧
    (floorSwitchPoint s).seats = s.seats ∧
    (floorSwitchPoint s).mix = s.mix ∧
    (floorSwitchPoint s).pending = s.pending ∧
    (floorSwitchPoint s).port.mask = s.port.mask ∧
    (floorSwitchPoint s).port.response = s.port.response ∧
    (floorSwitchPoint s).port.shifted = s.port.shifted := by
  simp [floorSwitchPoint]

/-- actPriorityMute changes no other block than claims, floor. -/
@[simp] theorem actPriorityMute_keeps (s : State) :
    (actPriorityMute s).station = s.station ∧
    (actPriorityMute s).lif = s.lif ∧
    (actPriorityMute s).peers = s.peers ∧
    (actPriorityMute s).walls = s.walls ∧
    (actPriorityMute s).room = s.room ∧
    (actPriorityMute s).dlc = s.dlc ∧
    (actPriorityMute s).booth = s.booth ∧
    (actPriorityMute s).lanes = s.lanes ∧
    (actPriorityMute s).seats = s.seats ∧
    (actPriorityMute s).mix = s.mix ∧
    (actPriorityMute s).port = s.port ∧
    (actPriorityMute s).pending = s.pending := by
  simp [actPriorityMute]

/-- wantRanked changes no other block than claims, dlc, flags. -/
@[simp] theorem wantRanked_keeps (n : Nat) (origin : Origin) (s : State) :
    (wantRanked n origin s).station = s.station ∧
    (wantRanked n origin s).lif = s.lif ∧
    (wantRanked n origin s).peers = s.peers ∧
    (wantRanked n origin s).walls = s.walls ∧
    (wantRanked n origin s).room = s.room ∧
    (wantRanked n origin s).floor = s.floor ∧
    (wantRanked n origin s).booth = s.booth ∧
    (wantRanked n origin s).lanes = s.lanes ∧
    (wantRanked n origin s).seats = s.seats ∧
    (wantRanked n origin s).mix = s.mix ∧
    (wantRanked n origin s).pending = s.pending ∧
    (wantRanked n origin s).port.mask = s.port.mask ∧
    (wantRanked n origin s).port.response = s.port.response ∧
    (wantRanked n origin s).port.shifted = s.port.shifted := by
  simp [wantRanked]

/-- actGrantNext changes no other block than claims, dlc, flags. -/
@[simp] theorem actGrantNext_keeps (c : Nat) (s : State) :
    (actGrantNext c s).station = s.station ∧
    (actGrantNext c s).lif = s.lif ∧
    (actGrantNext c s).peers = s.peers ∧
    (actGrantNext c s).walls = s.walls ∧
    (actGrantNext c s).room = s.room ∧
    (actGrantNext c s).floor = s.floor ∧
    (actGrantNext c s).booth = s.booth ∧
    (actGrantNext c s).lanes = s.lanes ∧
    (actGrantNext c s).seats = s.seats ∧
    (actGrantNext c s).mix = s.mix ∧
    (actGrantNext c s).pending = s.pending ∧
    (actGrantNext c s).port.mask = s.port.mask ∧
    (actGrantNext c s).port.response = s.port.response ∧
    (actGrantNext c s).port.shifted = s.port.shifted := by
  simp [actGrantNext]

/-- actCancelAll changes no other block than claims, floor. -/
@[simp] theorem actCancelAll_keeps (s : State) :
    (actCancelAll s).station = s.station ∧
    (actCancelAll s).lif = s.lif ∧
    (actCancelAll s).peers = s.peers ∧
    (actCancelAll s).walls = s.walls ∧
    (actCancelAll s).room = s.room ∧
    (actCancelAll s).dlc = s.dlc ∧
    (actCancelAll s).booth = s.booth ∧
    (actCancelAll s).lanes = s.lanes ∧
    (actCancelAll s).seats = s.seats ∧
    (actCancelAll s).mix = s.mix ∧
    (actCancelAll s).port = s.port ∧
    (actCancelAll s).pending = s.pending := by
  simp [actCancelAll]

/-- actSetFloorLevel changes no other block than booth, claims, flags, floor, lanes, room. -/
@[simp] theorem actSetFloorLevel_keeps (v : Nat) (s : State) :
    (actSetFloorLevel v s).station = s.station ∧
    (actSetFloorLevel v s).lif = s.lif ∧
    (actSetFloorLevel v s).peers = s.peers ∧
    (actSetFloorLevel v s).walls = s.walls ∧
    (actSetFloorLevel v s).dlc = s.dlc ∧
    (actSetFloorLevel v s).seats = s.seats ∧
    (actSetFloorLevel v s).mix = s.mix ∧
    (actSetFloorLevel v s).pending = s.pending ∧
    (actSetFloorLevel v s).port.mask = s.port.mask ∧
    (actSetFloorLevel v s).port.response = s.port.response ∧
    (actSetFloorLevel v s).port.shifted = s.port.shifted := by
  simp [actSetFloorLevel]

/-- actOn changes no other block than booth, claims, dlc, flags, floor, lanes, room. -/
@[simp] theorem actOn_keeps (c : RoomCommand) (s : State) :
    (actOn c s).station = s.station ∧
    (actOn c s).lif = s.lif ∧
    (actOn c s).peers = s.peers ∧
    (actOn c s).walls = s.walls ∧
    (actOn c s).seats = s.seats ∧
    (actOn c s).mix = s.mix ∧
    (actOn c s).pending = s.pending ∧
    (actOn c s).port.mask = s.port.mask ∧
    (actOn c s).port.response = s.port.response ∧
    (actOn c s).port.shifted = s.port.shifted := by
  simp only [actOn]
  repeat' split
  all_goals simp

/-- enqueue changes no other block than room. -/
@[simp] theorem enqueue_keeps (c : RoomCommand) (s : State) :
    (enqueue c s).station = s.station ∧
    (enqueue c s).lif = s.lif ∧
    (enqueue c s).peers = s.peers ∧
    (enqueue c s).walls = s.walls ∧
    (enqueue c s).claims = s.claims ∧
    (enqueue c s).dlc = s.dlc ∧
    (enqueue c s).floor = s.floor ∧
    (enqueue c s).booth = s.booth ∧
    (enqueue c s).lanes = s.lanes ∧
    (enqueue c s).seats = s.seats ∧
    (enqueue c s).mix = s.mix ∧
    (enqueue c s).port = s.port ∧
    (enqueue c s).pending = s.pending := by
  simp [enqueue]

/-- chairRequest changes no other block than flags, room. -/
@[simp] theorem chairRequest_keeps (c : RoomCommand) (s : State) :
    (chairRequest c s).station = s.station ∧
    (chairRequest c s).lif = s.lif ∧
    (chairRequest c s).peers = s.peers ∧
    (chairRequest c s).walls = s.walls ∧
    (chairRequest c s).claims = s.claims ∧
    (chairRequest c s).dlc = s.dlc ∧
    (chairRequest c s).floor = s.floor ∧
    (chairRequest c s).booth = s.booth ∧
    (chairRequest c s).lanes = s.lanes ∧
    (chairRequest c s).seats = s.seats ∧
    (chairRequest c s).mix = s.mix ∧
    (chairRequest c s).pending = s.pending ∧
    (chairRequest c s).port.mask = s.port.mask ∧
    (chairRequest c s).port.response = s.port.response ∧
    (chairRequest c s).port.shifted = s.port.shifted := by
  simp [chairRequest]

/-- makeCurrent changes no other block than booth, claims, dlc, flags, floor, lanes, room. -/
@[simp] theorem makeCurrent_keeps (c : RoomCommand) (s : State) :
    (makeCurrent c s).station = s.station ∧
    (makeCurrent c s).lif = s.lif ∧
    (makeCurrent c s).peers = s.peers ∧
    (makeCurrent c s).walls = s.walls ∧
    (makeCurrent c s).seats = s.seats ∧
    (makeCurrent c s).mix = s.mix ∧
    (makeCurrent c s).pending = s.pending ∧
    (makeCurrent c s).port.mask = s.port.mask ∧
    (makeCurrent c s).port.response = s.port.response ∧
    (makeCurrent c s).port.shifted = s.port.shifted := by
  simp [makeCurrent]

/-- roomCommandWork changes no other block than booth, claims, dlc, flags, floor, lanes, room. -/
@[simp] theorem roomCommandWork_keeps (s : State) :
    (roomCommandWork s).station = s.station ∧
    (roomCommandWork s).lif = s.lif ∧
    (roomCommandWork s).peers = s.peers ∧
    (roomCommandWork s).walls = s.walls ∧
    (roomCommandWork s).seats = s.seats ∧
    (roomCommandWork s).mix = s.mix ∧
    (roomCommandWork s).pending = s.pending ∧
    (roomCommandWork s).port.mask = s.port.mask ∧
    (roomCommandWork s).port.response = s.port.response ∧
    (roomCommandWork s).port.shifted = s.port.shifted := by
  simp only [roomCommandWork]
  repeat' split
  all_goals simp

/-- removeCurrent changes no other block than room. -/
@[simp] theorem removeCurrent_keeps (s : State) :
    (removeCurrent s).station = s.station ∧
    (removeCurrent s).lif = s.lif ∧
    (removeCurrent s).peers = s.peers ∧
    (removeCurrent s).walls = s.walls ∧
    (removeCurrent s).claims = s.claims ∧
    (removeCurrent s).dlc = s.dlc ∧
    (removeCurrent s).floor = s.floor ∧
    (removeCurrent s).booth = s.booth ∧
    (removeCurrent s).lanes = s.lanes ∧
    (removeCurrent s).seats = s.seats ∧
    (removeCurrent s).mix = s.mix ∧
    (removeCurrent s).port = s.port ∧
    (removeCurrent s).pending = s.pending := by
  simp only [removeCurrent]
  repeat' split
  all_goals simp

/-- retireCommand changes no other block than room. -/
@[simp] theorem retireCommand_keeps (s : State) :
    (retireCommand s).station = s.station ∧
    (retireCommand s).lif = s.lif ∧
    (retireCommand s).peers = s.peers ∧
    (retireCommand s).walls = s.walls ∧
    (retireCommand s).claims = s.claims ∧
    (retireCommand s).dlc = s.dlc ∧
    (retireCommand s).floor = s.floor ∧
    (retireCommand s).booth = s.booth ∧
    (retireCommand s).lanes = s.lanes ∧
    (retireCommand s).seats = s.seats ∧
    (retireCommand s).mix = s.mix ∧
    (retireCommand s).port = s.port ∧
    (retireCommand s).pending = s.pending := by
  simp only [retireCommand]
  repeat' split
  all_goals simp

/-- commandTest changes no other block than booth, claims, dlc, flags, floor, lanes, room. -/
@[simp] theorem commandTest_keeps (t : Nat) (a : Announcement) (s : State) :
    (commandTest t a s).station = s.station ∧
    (commandTest t a s).lif = s.lif ∧
    (commandTest t a s).peers = s.peers ∧
    (commandTest t a s).walls = s.walls ∧
    (commandTest t a s).seats = s.seats ∧
    (commandTest t a s).mix = s.mix ∧
    (commandTest t a s).pending = s.pending ∧
    (commandTest t a s).port.mask = s.port.mask ∧
    (commandTest t a s).port.response = s.port.response ∧
    (commandTest t a s).port.shifted = s.port.shifted := by
  simp only [commandTest]
  repeat' split
  all_goals simp

/-- dropPlaceIntent changes no other block than claims, dlc. -/
@[simp] theorem dropPlaceIntent_keeps (c : PlaceClaim) (s : State) :
    (dropPlaceIntent c s).station = s.station ∧
    (dropPlaceIntent c s).lif = s.lif ∧
    (dropPlaceIntent c s).peers = s.peers ∧
    (dropPlaceIntent c s).walls = s.walls ∧
    (dropPlaceIntent c s).room = s.room ∧
    (dropPlaceIntent c s).floor = s.floor ∧
    (dropPlaceIntent c s).booth = s.booth ∧
    (dropPlaceIntent c s).lanes = s.lanes ∧
    (dropPlaceIntent c s).seats = s.seats ∧
    (dropPlaceIntent c s).mix = s.mix ∧
    (dropPlaceIntent c s).port = s.port ∧
    (dropPlaceIntent c s).pending = s.pending := by
  simp [dropPlaceIntent]

/-- dropLanguageIntent changes no other block than claims. -/
@[simp] theorem dropLanguageIntent_keeps (c : LanguageClaim) (s : State) :
    (dropLanguageIntent c s).station = s.station ∧
    (dropLanguageIntent c s).lif = s.lif ∧
    (dropLanguageIntent c s).peers = s.peers ∧
    (dropLanguageIntent c s).walls = s.walls ∧
    (dropLanguageIntent c s).room = s.room ∧
    (dropLanguageIntent c s).dlc = s.dlc ∧
    (dropLanguageIntent c s).floor = s.floor ∧
    (dropLanguageIntent c s).booth = s.booth ∧
    (dropLanguageIntent c s).lanes = s.lanes ∧
    (dropLanguageIntent c s).seats = s.seats ∧
    (dropLanguageIntent c s).mix = s.mix ∧
    (dropLanguageIntent c s).port = s.port ∧
    (dropLanguageIntent c s).pending = s.pending := by
  simp [dropLanguageIntent]

/-- dropLaneIntent changes no other block than claims, lanes. -/
@[simp] theorem dropLaneIntent_keeps (c : LaneClaim) (s : State) :
    (dropLaneIntent c s).station = s.station ∧
    (dropLaneIntent c s).lif = s.lif ∧
    (dropLaneIntent c s).peers = s.peers ∧
    (dropLaneIntent c s).walls = s.walls ∧
    (dropLaneIntent c s).room = s.room ∧
    (dropLaneIntent c s).dlc = s.dlc ∧
    (dropLaneIntent c s).floor = s.floor ∧
    (dropLaneIntent c s).booth = s.booth ∧
    (dropLaneIntent c s).seats = s.seats ∧
    (dropLaneIntent c s).mix = s.mix ∧
    (dropLaneIntent c s).port = s.port ∧
    (dropLaneIntent c s).pending = s.pending := by
  simp [dropLaneIntent]

/-- withdrawLanguage changes no other block than booth, claims. -/
@[simp] theorem withdrawLanguage_keeps (c : LanguageClaim) (s : State) :
    (withdrawLanguage c s).station = s.station ∧
    (withdrawLanguage c s).lif = s.lif ∧
    (withdrawLanguage c s).peers = s.peers ∧
    (withdrawLanguage c s).walls = s.walls ∧
    (withdrawLanguage c s).room = s.room ∧
    (withdrawLanguage c s).dlc = s.dlc ∧
    (withdrawLanguage c s).floor = s.floor ∧
    (withdrawLanguage c s).lanes = s.lanes ∧
    (withdrawLanguage c s).seats = s.seats ∧
    (withdrawLanguage c s).mix = s.mix ∧
    (withdrawLanguage c s).port = s.port ∧
    (withdrawLanguage c s).pending = s.pending := by
  simp [withdrawLanguage]

/-- withdrawStep changes no other block than booth, claims, dlc, lanes. -/
@[simp] theorem withdrawStep_keeps (marked : List Nat) (s : State) :
    (withdrawStep marked s).station = s.station ∧
    (withdrawStep marked s).lif = s.lif ∧
    (withdrawStep marked s).peers = s.peers ∧
    (withdrawStep marked s).walls = s.walls ∧
    (withdrawStep marked s).room = s.room ∧
    (withdrawStep marked s).floor = s.floor ∧
    (withdrawStep marked s).seats = s.seats ∧
    (withdrawStep marked s).mix = s.mix ∧
    (withdrawStep marked s).port = s.port ∧
    (withdrawStep marked s).pending = s.pending := by
  simp [withdrawStep]

/-- settlePlace changes no other block than claims, dlc, flags, floor. -/
@[simp] theorem settlePlace_keeps (s : State) (c : PlaceClaim) :
    (settlePlace s c).station = s.station ∧
    (settlePlace s c).lif = s.lif ∧
    (settlePlace s c).peers = s.peers ∧
    (settlePlace s c).walls = s.walls ∧
    (settlePlace s c).room = s.room ∧
    (settlePlace s c).booth = s.booth ∧
    (settlePlace s c).lanes = s.lanes ∧
    (settlePlace s c).seats = s.seats ∧
    (settlePlace s c).mix = s.mix ∧
    (settlePlace s c).pending = s.pending ∧
    (settlePlace s c).port.mask = s.port.mask ∧
    (settlePlace s c).port.response = s.port.response ∧
    (settlePlace s c).port.shifted = s.port.shifted := by
  simp [settlePlace]

/-- settleLanguage changes no other block than booth, claims, flags. -/
@[simp] theorem settleLanguage_keeps (s : State) (c : LanguageClaim) :
    (settleLanguage s c).station = s.station ∧
    (settleLanguage s c).lif = s.lif ∧
    (settleLanguage s c).peers = s.peers ∧
    (settleLanguage s c).walls = s.walls ∧
    (settleLanguage s c).room = s.room ∧
    (settleLanguage s c).dlc = s.dlc ∧
    (settleLanguage s c).floor = s.floor ∧
    (settleLanguage s c).lanes = s.lanes ∧
    (settleLanguage s c).seats = s.seats ∧
    (settleLanguage s c).mix = s.mix ∧
    (settleLanguage s c).pending = s.pending ∧
    (settleLanguage s c).port.mask = s.port.mask ∧
    (settleLanguage s c).port.response = s.port.response ∧
    (settleLanguage s c).port.shifted = s.port.shifted := by
  simp [settleLanguage]

/-- settleLane changes no other block than claims, lanes. -/
@[simp] theorem settleLane_keeps (s : State) (c : LaneClaim) :
    (settleLane s c).station = s.station ∧
    (settleLane s c).lif = s.lif ∧
    (settleLane s c).peers = s.peers ∧
    (settleLane s c).walls = s.walls ∧
    (settleLane s c).room = s.room ∧
    (settleLane s c).dlc = s.dlc ∧
    (settleLane s c).floor = s.floor ∧
    (settleLane s c).booth = s.booth ∧
    (settleLane s c).seats = s.seats ∧
    (settleLane s c).mix = s.mix ∧
    (settleLane s c).port = s.port ∧
    (settleLane s c).pending = s.pending := by
  simp [settleLane]

/-- settleStep changes no other block than booth, claims, dlc, flags, floor, lanes. -/
@[simp] theorem settleStep_keeps (s : State) :
    (settleStep s).station = s.station ∧
    (settleStep s).lif = s.lif ∧
    (settleStep s).peers = s.peers ∧
    (settleStep s).walls = s.walls ∧
    (settleStep s).room = s.room ∧
    (settleStep s).seats = s.seats ∧
    (settleStep s).mix = s.mix ∧
    (settleStep s).pending = s.pending ∧
    (settleStep s).port.mask = s.port.mask ∧
    (settleStep s).port.response = s.port.response ∧
    (settleStep s).port.shifted = s.port.shifted := by
  simp [settleStep]

/-- loseLane changes no other block than claims, lanes. -/
@[simp] theorem loseLane_keeps (n : Nat) (s : State) :
    (loseLane n s).station = s.station ∧
    (loseLane n s).lif = s.lif ∧
    (loseLane n s).peers = s.peers ∧
    (loseLane n s).walls = s.walls ∧
    (loseLane n s).room = s.room ∧
    (loseLane n s).dlc = s.dlc ∧
    (loseLane n s).floor = s.floor ∧
    (loseLane n s).booth = s.booth ∧
    (loseLane n s).seats = s.seats ∧
    (loseLane n s).mix = s.mix ∧
    (loseLane n s).port = s.port ∧
    (loseLane n s).pending = s.pending := by
  simp [loseLane]

/-- laneConflictStep changes no other block than claims, lanes. -/
@[simp] theorem laneConflictStep_keeps (s : State) :
    (laneConflictStep s).station = s.station ∧
    (laneConflictStep s).lif = s.lif ∧
    (laneConflictStep s).peers = s.peers ∧
    (laneConflictStep s).walls = s.walls ∧
    (laneConflictStep s).room = s.room ∧
    (laneConflictStep s).dlc = s.dlc ∧
    (laneConflictStep s).floor = s.floor ∧
    (laneConflictStep s).booth = s.booth ∧
    (laneConflictStep s).seats = s.seats ∧
    (laneConflictStep s).mix = s.mix ∧
    (laneConflictStep s).port = s.port ∧
    (laneConflictStep s).pending = s.pending := by
  simp [laneConflictStep]

/-- deriveAutoAdvance changes no other block than claims, dlc, flags. -/
@[simp] theorem deriveAutoAdvance_keeps (s : State) :
    (deriveAutoAdvance s).station = s.station ∧
    (deriveAutoAdvance s).lif = s.lif ∧
    (deriveAutoAdvance s).peers = s.peers ∧
    (deriveAutoAdvance s).walls = s.walls ∧
    (deriveAutoAdvance s).room = s.room ∧
    (deriveAutoAdvance s).floor = s.floor ∧
    (deriveAutoAdvance s).booth = s.booth ∧
    (deriveAutoAdvance s).lanes = s.lanes ∧
    (deriveAutoAdvance s).seats = s.seats ∧
    (deriveAutoAdvance s).mix = s.mix ∧
    (deriveAutoAdvance s).pending = s.pending ∧
    (deriveAutoAdvance s).port.mask = s.port.mask ∧
    (deriveAutoAdvance s).port.response = s.port.response ∧
    (deriveAutoAdvance s).port.shifted = s.port.shifted := by
  simp [deriveAutoAdvance]

/-- raisePlaceOn changes no other block than claims, dlc. -/
@[simp] theorem raisePlaceOn_keeps (ch : Nat) (w : PlaceWant) (s : State) :
    (raisePlaceOn ch w s).station = s.station ∧
    (raisePlaceOn ch w s).lif = s.lif ∧
    (raisePlaceOn ch w s).peers = s.peers ∧
    (raisePlaceOn ch w s).walls = s.walls ∧
    (raisePlaceOn ch w s).room = s.room ∧
    (raisePlaceOn ch w s).floor = s.floor ∧
    (raisePlaceOn ch w s).booth = s.booth ∧
    (raisePlaceOn ch w s).lanes = s.lanes ∧
    (raisePlaceOn ch w s).seats = s.seats ∧
    (raisePlaceOn ch w s).mix = s.mix ∧
    (raisePlaceOn ch w s).port = s.port ∧
    (raisePlaceOn ch w s).pending = s.pending := by
  simp [raisePlaceOn]

/-- raisePlace changes no other block than claims, dlc, flags. -/
@[simp] theorem raisePlace_keeps (s : State) (w : PlaceWant) :
    (raisePlace s w).station = s.station ∧
    (raisePlace s w).lif = s.lif ∧
    (raisePlace s w).peers = s.peers ∧
    (raisePlace s w).walls = s.walls ∧
    (raisePlace s w).room = s.room ∧
    (raisePlace s w).floor = s.floor ∧
    (raisePlace s w).booth = s.booth ∧
    (raisePlace s w).lanes = s.lanes ∧
    (raisePlace s w).seats = s.seats ∧
    (raisePlace s w).mix = s.mix ∧
    (raisePlace s w).pending = s.pending ∧
    (raisePlace s w).port.mask = s.port.mask ∧
    (raisePlace s w).port.response = s.port.response ∧
    (raisePlace s w).port.shifted = s.port.shifted := by
  simp only [raisePlace]
  repeat' split
  all_goals simp

/-- raiseLanguage changes no other block than booth, claims, flags. -/
@[simp] theorem raiseLanguage_keeps (s : State) (w : LanguageWant) :
    (raiseLanguage s w).station = s.station ∧
    (raiseLanguage s w).lif = s.lif ∧
    (raiseLanguage s w).peers = s.peers ∧
    (raiseLanguage s w).walls = s.walls ∧
    (raiseLanguage s w).room = s.room ∧
    (raiseLanguage s w).dlc = s.dlc ∧
    (raiseLanguage s w).floor = s.floor ∧
    (raiseLanguage s w).lanes = s.lanes ∧
    (raiseLanguage s w).seats = s.seats ∧
    (raiseLanguage s w).mix = s.mix ∧
    (raiseLanguage s w).pending = s.pending ∧
    (raiseLanguage s w).port.mask = s.port.mask ∧
    (raiseLanguage s w).port.response = s.port.response ∧
    (raiseLanguage s w).port.shifted = s.port.shifted := by
  simp [raiseLanguage]

/-- raiseLane changes no other block than claims, flags, lanes. -/
@[simp] theorem raiseLane_keeps (s : State) (l : Nat) :
    (raiseLane s l).station = s.station ∧
    (raiseLane s l).lif = s.lif ∧
    (raiseLane s l).peers = s.peers ∧
    (raiseLane s l).walls = s.walls ∧
    (raiseLane s l).room = s.room ∧
    (raiseLane s l).dlc = s.dlc ∧
    (raiseLane s l).floor = s.floor ∧
    (raiseLane s l).booth = s.booth ∧
    (raiseLane s l).seats = s.seats ∧
    (raiseLane s l).mix = s.mix ∧
    (raiseLane s l).pending = s.pending ∧
    (raiseLane s l).port.mask = s.port.mask ∧
    (raiseLane s l).port.response = s.port.response ∧
    (raiseLane s l).port.shifted = s.port.shifted := by
  simp only [raiseLane]
  repeat' split
  all_goals simp

/-- raisePlaces changes no other block than claims, dlc, flags. -/
@[simp] theorem raisePlaces_keeps (s : State) :
    (raisePlaces s).station = s.station ∧
    (raisePlaces s).lif = s.lif ∧
    (raisePlaces s).peers = s.peers ∧
    (raisePlaces s).walls = s.walls ∧
    (raisePlaces s).room = s.room ∧
    (raisePlaces s).floor = s.floor ∧
    (raisePlaces s).booth = s.booth ∧
    (raisePlaces s).lanes = s.lanes ∧
    (raisePlaces s).seats = s.seats ∧
    (raisePlaces s).mix = s.mix ∧
    (raisePlaces s).pending = s.pending ∧
    (raisePlaces s).port.mask = s.port.mask ∧
    (raisePlaces s).port.response = s.port.response ∧
    (raisePlaces s).port.shifted = s.port.shifted := by
  simp [raisePlaces]

/-- raiseLanguages changes no other block than booth, claims, flags. -/
@[simp] theorem raiseLanguages_keeps (s : State) :
    (raiseLanguages s).station = s.station ∧
    (raiseLanguages s).lif = s.lif ∧
    (raiseLanguages s).peers = s.peers ∧
    (raiseLanguages s).walls = s.walls ∧
    (raiseLanguages s).room = s.room ∧
    (raiseLanguages s).dlc = s.dlc ∧
    (raiseLanguages s).floor = s.floor ∧
    (raiseLanguages s).lanes = s.lanes ∧
    (raiseLanguages s).seats = s.seats ∧
    (raiseLanguages s).mix = s.mix ∧
    (raiseLanguages s).pending = s.pending ∧
    (raiseLanguages s).port.mask = s.port.mask ∧
    (raiseLanguages s).port.response = s.port.response ∧
    (raiseLanguages s).port.shifted = s.port.shifted := by
  simp [raiseLanguages]

/-- raiseStep changes no other block than booth, claims, dlc, flags, lanes. -/
@[simp] theorem raiseStep_keeps (s : State) :
    (raiseStep s).station = s.station ∧
    (raiseStep s).lif = s.lif ∧
    (raiseStep s).peers = s.peers ∧
    (raiseStep s).walls = s.walls ∧
    (raiseStep s).room = s.room ∧
    (raiseStep s).floor = s.floor ∧
    (raiseStep s).seats = s.seats ∧
    (raiseStep s).mix = s.mix ∧
    (raiseStep s).pending = s.pending ∧
    (raiseStep s).port.mask = s.port.mask ∧
    (raiseStep s).port.response = s.port.response ∧
    (raiseStep s).port.shifted = s.port.shifted := by
  simp [raiseStep]

/-- dropWants changes no other block than booth, claims, dlc, flags. -/
@[simp] theorem dropWants_keeps (s : State) :
    (dropWants s).station = s.station ∧
    (dropWants s).lif = s.lif ∧
    (dropWants s).peers = s.peers ∧
    (dropWants s).walls = s.walls ∧
    (dropWants s).room = s.room ∧
    (dropWants s).floor = s.floor ∧
    (dropWants s).lanes = s.lanes ∧
    (dropWants s).seats = s.seats ∧
    (dropWants s).mix = s.mix ∧
    (dropWants s).pending = s.pending ∧
    (dropWants s).port.mask = s.port.mask ∧
    (dropWants s).port.response = s.port.response ∧
    (dropWants s).port.shifted = s.port.shifted := by
  simp [dropWants]

/-- claimWork changes no other block than booth, claims, dlc, flags, floor, lanes. -/
@[simp] theorem claimWork_keeps (marked : List Nat) (s : State) :
    (claimWork marked s).station = s.station ∧
    (claimWork marked s).lif = s.lif ∧
    (claimWork marked s).peers = s.peers ∧
    (claimWork marked s).walls = s.walls ∧
    (claimWork marked s).room = s.room ∧
    (claimWork marked s).seats = s.seats ∧
    (claimWork marked s).mix = s.mix ∧
    (claimWork marked s).pending = s.pending ∧
    (claimWork marked s).port.mask = s.port.mask ∧
    (claimWork marked s).port.response = s.port.response ∧
    (claimWork marked s).port.shifted = s.port.shifted := by
  simp only [claimWork]
  repeat' split
  all_goals simp

/-- assign changes no other block than seats. -/
@[simp] theorem assign_keeps (a : Nat) (channel : Option Nat) (s : State) :
    (assign a channel s).station = s.station ∧
    (assign a channel s).lif = s.lif ∧
    (assign a channel s).peers = s.peers ∧
    (assign a channel s).walls = s.walls ∧
    (assign a channel s).room = s.room ∧
    (assign a channel s).claims = s.claims ∧
    (assign a channel s).dlc = s.dlc ∧
    (assign a channel s).floor = s.floor ∧
    (assign a channel s).booth = s.booth ∧
    (assign a channel s).lanes = s.lanes ∧
    (assign a channel s).mix = s.mix ∧
    (assign a channel s).port = s.port ∧
    (assign a channel s).pending = s.pending := by
  simp [assign]

/-- setChannel changes no other block than seats. -/
@[simp] theorem setChannel_keeps (c : Nat) (d : Option Downlink) (s : State) :
    (setChannel c d s).station = s.station ∧
    (setChannel c d s).lif = s.lif ∧
    (setChannel c d s).peers = s.peers ∧
    (setChannel c d s).walls = s.walls ∧
    (setChannel c d s).room = s.room ∧
    (setChannel c d s).claims = s.claims ∧
    (setChannel c d s).dlc = s.dlc ∧
    (setChannel c d s).floor = s.floor ∧
    (setChannel c d s).booth = s.booth ∧
    (setChannel c d s).lanes = s.lanes ∧
    (setChannel c d s).mix = s.mix ∧
    (setChannel c d s).port = s.port ∧
    (setChannel c d s).pending = s.pending := by
  simp [setChannel]

/-- assignSelection changes no other block than flags, seats. -/
@[simp] theorem assignSelection_keeps (a sel : Nat) (s : State) :
    (assignSelection a sel s).station = s.station ∧
    (assignSelection a sel s).lif = s.lif ∧
    (assignSelection a sel s).peers = s.peers ∧
    (assignSelection a sel s).walls = s.walls ∧
    (assignSelection a sel s).room = s.room ∧
    (assignSelection a sel s).claims = s.claims ∧
    (assignSelection a sel s).dlc = s.dlc ∧
    (assignSelection a sel s).floor = s.floor ∧
    (assignSelection a sel s).booth = s.booth ∧
    (assignSelection a sel s).lanes = s.lanes ∧
    (assignSelection a sel s).mix = s.mix ∧
    (assignSelection a sel s).pending = s.pending ∧
    (assignSelection a sel s).port.mask = s.port.mask ∧
    (assignSelection a sel s).port.response = s.port.response ∧
    (assignSelection a sel s).port.shifted = s.port.shifted := by
  simp only [assignSelection]
  repeat' split
  all_goals simp

/-- grantFreed changes no other block than seats. -/
@[simp] theorem grantFreed_keeps (c : Nat) (waits : Nat → Nat) (s : State) :
    (grantFreed c waits s).station = s.station ∧
    (grantFreed c waits s).lif = s.lif ∧
    (grantFreed c waits s).peers = s.peers ∧
    (grantFreed c waits s).walls = s.walls ∧
    (grantFreed c waits s).room = s.room ∧
    (grantFreed c waits s).claims = s.claims ∧
    (grantFreed c waits s).dlc = s.dlc ∧
    (grantFreed c waits s).floor = s.floor ∧
    (grantFreed c waits s).booth = s.booth ∧
    (grantFreed c waits s).lanes = s.lanes ∧
    (grantFreed c waits s).mix = s.mix ∧
    (grantFreed c waits s).port = s.port ∧
    (grantFreed c waits s).pending = s.pending := by
  simp only [grantFreed]
  repeat' split
  all_goals simp

/-- leaveAssignment changes no other block than seats. -/
@[simp] theorem leaveAssignment_keeps (a : Nat) (waits : Nat → Nat) (s : State) :
    (leaveAssignment a waits s).station = s.station ∧
    (leaveAssignment a waits s).lif = s.lif ∧
    (leaveAssignment a waits s).peers = s.peers ∧
    (leaveAssignment a waits s).walls = s.walls ∧
    (leaveAssignment a waits s).room = s.room ∧
    (leaveAssignment a waits s).claims = s.claims ∧
    (leaveAssignment a waits s).dlc = s.dlc ∧
    (leaveAssignment a waits s).floor = s.floor ∧
    (leaveAssignment a waits s).booth = s.booth ∧
    (leaveAssignment a waits s).lanes = s.lanes ∧
    (leaveAssignment a waits s).mix = s.mix ∧
    (leaveAssignment a waits s).port = s.port ∧
    (leaveAssignment a waits s).pending = s.pending := by
  simp only [leaveAssignment]
  repeat' split
  all_goals simp

/-- handOverSelection changes no other block than flags, seats. -/
@[simp] theorem handOverSelection_keeps (a sel : Nat) (s : State) :
    (handOverSelection a sel s).station = s.station ∧
    (handOverSelection a sel s).lif = s.lif ∧
    (handOverSelection a sel s).peers = s.peers ∧
    (handOverSelection a sel s).walls = s.walls ∧
    (handOverSelection a sel s).room = s.room ∧
    (handOverSelection a sel s).claims = s.claims ∧
    (handOverSelection a sel s).dlc = s.dlc ∧
    (handOverSelection a sel s).floor = s.floor ∧
    (handOverSelection a sel s).booth = s.booth ∧
    (handOverSelection a sel s).lanes = s.lanes ∧
    (handOverSelection a sel s).mix = s.mix ∧
    (handOverSelection a sel s).pending = s.pending ∧
    (handOverSelection a sel s).port.mask = s.port.mask ∧
    (handOverSelection a sel s).port.response = s.port.response ∧
    (handOverSelection a sel s).port.shifted = s.port.shifted := by
  simp [handOverSelection]

/-- dropSelection changes no other block than seats. -/
@[simp] theorem dropSelection_keeps (a : Nat) (s : State) :
    (dropSelection a s).station = s.station ∧
    (dropSelection a s).lif = s.lif ∧
    (dropSelection a s).peers = s.peers ∧
    (dropSelection a s).walls = s.walls ∧
    (dropSelection a s).room = s.room ∧
    (dropSelection a s).claims = s.claims ∧
    (dropSelection a s).dlc = s.dlc ∧
    (dropSelection a s).floor = s.floor ∧
    (dropSelection a s).booth = s.booth ∧
    (dropSelection a s).lanes = s.lanes ∧
    (dropSelection a s).mix = s.mix ∧
    (dropSelection a s).port = s.port ∧
    (dropSelection a s).pending = s.pending := by
  simp [dropSelection]

end Sys2Proof.Machine
end

