-- ==== Sys2Proof/Laws/FrameLines.lean ====
section
/-! SUPPORT. Frame lemmas: for each operation of the two polled lines and the Mix Engine, the blocks it leaves as they
are. -/

namespace Sys2Proof.Machine

/-- sendPoll changes no other block than dlc. -/
@[simp] theorem sendPoll_keeps (s : State) :
    (sendPoll s).station = s.station ∧
    (sendPoll s).lif = s.lif ∧
    (sendPoll s).peers = s.peers ∧
    (sendPoll s).walls = s.walls ∧
    (sendPoll s).room = s.room ∧
    (sendPoll s).claims = s.claims ∧
    (sendPoll s).floor = s.floor ∧
    (sendPoll s).booth = s.booth ∧
    (sendPoll s).lanes = s.lanes ∧
    (sendPoll s).seats = s.seats ∧
    (sendPoll s).mix = s.mix ∧
    (sendPoll s).port = s.port ∧
    (sendPoll s).pending = s.pending := by
  simp [sendPoll]

/-- pollAt changes no other block than dlc. -/
@[simp] theorem pollAt_keeps (f : Nat) (s : State) :
    (pollAt f s).station = s.station ∧
    (pollAt f s).lif = s.lif ∧
    (pollAt f s).peers = s.peers ∧
    (pollAt f s).walls = s.walls ∧
    (pollAt f s).room = s.room ∧
    (pollAt f s).claims = s.claims ∧
    (pollAt f s).floor = s.floor ∧
    (pollAt f s).booth = s.booth ∧
    (pollAt f s).lanes = s.lanes ∧
    (pollAt f s).seats = s.seats ∧
    (pollAt f s).mix = s.mix ∧
    (pollAt f s).port = s.port ∧
    (pollAt f s).pending = s.pending := by
  simp [pollAt]

/-- dispatchKeys changes no other block than claims, dlc, flags, floor, room. -/
@[simp] theorem dispatchKeys_keeps (a : Nat) (k : Keys) (s : State) :
    (dispatchKeys a k s).station = s.station ∧
    (dispatchKeys a k s).lif = s.lif ∧
    (dispatchKeys a k s).peers = s.peers ∧
    (dispatchKeys a k s).walls = s.walls ∧
    (dispatchKeys a k s).booth = s.booth ∧
    (dispatchKeys a k s).lanes = s.lanes ∧
    (dispatchKeys a k s).seats = s.seats ∧
    (dispatchKeys a k s).mix = s.mix ∧
    (dispatchKeys a k s).pending = s.pending ∧
    (dispatchKeys a k s).port.mask = s.port.mask ∧
    (dispatchKeys a k s).port.response = s.port.response ∧
    (dispatchKeys a k s).port.shifted = s.port.shifted := by
  simp [dispatchKeys]

/-- takeTag changes no other block than dlc, floor. -/
@[simp] theorem takeTag_keeps (a tag : Nat) (s : State) :
    (takeTag a tag s).station = s.station ∧
    (takeTag a tag s).lif = s.lif ∧
    (takeTag a tag s).peers = s.peers ∧
    (takeTag a tag s).walls = s.walls ∧
    (takeTag a tag s).room = s.room ∧
    (takeTag a tag s).claims = s.claims ∧
    (takeTag a tag s).booth = s.booth ∧
    (takeTag a tag s).lanes = s.lanes ∧
    (takeTag a tag s).seats = s.seats ∧
    (takeTag a tag s).mix = s.mix ∧
    (takeTag a tag s).port = s.port ∧
    (takeTag a tag s).pending = s.pending := by
  simp [takeTag]

/-- takeSelection changes no other block than dlc, flags, seats. -/
@[simp] theorem takeSelection_keeps (a sel : Nat) (fresh : Bool) (s : State) :
    (takeSelection a sel fresh s).station = s.station ∧
    (takeSelection a sel fresh s).lif = s.lif ∧
    (takeSelection a sel fresh s).peers = s.peers ∧
    (takeSelection a sel fresh s).walls = s.walls ∧
    (takeSelection a sel fresh s).room = s.room ∧
    (takeSelection a sel fresh s).claims = s.claims ∧
    (takeSelection a sel fresh s).floor = s.floor ∧
    (takeSelection a sel fresh s).booth = s.booth ∧
    (takeSelection a sel fresh s).lanes = s.lanes ∧
    (takeSelection a sel fresh s).mix = s.mix ∧
    (takeSelection a sel fresh s).pending = s.pending ∧
    (takeSelection a sel fresh s).port.mask = s.port.mask ∧
    (takeSelection a sel fresh s).port.response = s.port.response ∧
    (takeSelection a sel fresh s).port.shifted = s.port.shifted := by
  simp [takeSelection]

/-- goodReply changes no other block than claims, dlc, flags, floor, room, seats. -/
@[simp] theorem goodReply_keeps (a : Nat) (c : ReplyClass) (r : UnitContent) (s : State) :
    (goodReply a c r s).station = s.station ∧
    (goodReply a c r s).lif = s.lif ∧
    (goodReply a c r s).peers = s.peers ∧
    (goodReply a c r s).walls = s.walls ∧
    (goodReply a c r s).booth = s.booth ∧
    (goodReply a c r s).lanes = s.lanes ∧
    (goodReply a c r s).mix = s.mix ∧
    (goodReply a c r s).pending = s.pending ∧
    (goodReply a c r s).port.mask = s.port.mask ∧
    (goodReply a c r s).port.response = s.port.response ∧
    (goodReply a c r s).port.shifted = s.port.shifted := by
  simp [goodReply]

/-- loseUnit changes no other block than claims, dlc, flags, floor, seats. -/
@[simp] theorem loseUnit_keeps (a : Nat) (s : State) :
    (loseUnit a s).station = s.station ∧
    (loseUnit a s).lif = s.lif ∧
    (loseUnit a s).peers = s.peers ∧
    (loseUnit a s).walls = s.walls ∧
    (loseUnit a s).room = s.room ∧
    (loseUnit a s).booth = s.booth ∧
    (loseUnit a s).lanes = s.lanes ∧
    (loseUnit a s).mix = s.mix ∧
    (loseUnit a s).pending = s.pending ∧
    (loseUnit a s).port.mask = s.port.mask ∧
    (loseUnit a s).port.response = s.port.response ∧
    (loseUnit a s).port.shifted = s.port.shifted := by
  simp [loseUnit]

/-- badReply changes no other block than claims, dlc, flags, floor, seats. -/
@[simp] theorem badReply_keeps (a : Nat) (s : State) :
    (badReply a s).station = s.station ∧
    (badReply a s).lif = s.lif ∧
    (badReply a s).peers = s.peers ∧
    (badReply a s).walls = s.walls ∧
    (badReply a s).room = s.room ∧
    (badReply a s).booth = s.booth ∧
    (badReply a s).lanes = s.lanes ∧
    (badReply a s).mix = s.mix ∧
    (badReply a s).pending = s.pending ∧
    (badReply a s).port.mask = s.port.mask ∧
    (badReply a s).port.response = s.port.response ∧
    (badReply a s).port.shifted = s.port.shifted := by
  simp [badReply]

/-- closeWindow changes no other block than claims, dlc, flags, floor, room, seats. -/
@[simp] theorem closeWindow_keeps (a : Nat) (reply : Option UnitReply) (s : State) :
    (closeWindow a reply s).station = s.station ∧
    (closeWindow a reply s).lif = s.lif ∧
    (closeWindow a reply s).peers = s.peers ∧
    (closeWindow a reply s).walls = s.walls ∧
    (closeWindow a reply s).booth = s.booth ∧
    (closeWindow a reply s).lanes = s.lanes ∧
    (closeWindow a reply s).mix = s.mix ∧
    (closeWindow a reply s).pending = s.pending ∧
    (closeWindow a reply s).port.mask = s.port.mask ∧
    (closeWindow a reply s).port.response = s.port.response ∧
    (closeWindow a reply s).port.shifted = s.port.shifted := by
  simp only [closeWindow]
  repeat' split
  all_goals simp

/-- takeWindow changes no other block than dlc. -/
@[simp] theorem takeWindow_keeps (s : State) :
    (takeWindow s).station = s.station ∧
    (takeWindow s).lif = s.lif ∧
    (takeWindow s).peers = s.peers ∧
    (takeWindow s).walls = s.walls ∧
    (takeWindow s).room = s.room ∧
    (takeWindow s).claims = s.claims ∧
    (takeWindow s).floor = s.floor ∧
    (takeWindow s).booth = s.booth ∧
    (takeWindow s).lanes = s.lanes ∧
    (takeWindow s).seats = s.seats ∧
    (takeWindow s).mix = s.mix ∧
    (takeWindow s).port = s.port ∧
    (takeWindow s).pending = s.pending := by
  simp only [takeWindow]
  repeat' split
  all_goals simp

/-- pollWindowCloseOp changes no other block than claims, dlc, flags, floor, room, seats. -/
@[simp] theorem pollWindowCloseOp_keeps (reply : Option UnitReply) (s : State) :
    (pollWindowCloseOp reply s).station = s.station ∧
    (pollWindowCloseOp reply s).lif = s.lif ∧
    (pollWindowCloseOp reply s).peers = s.peers ∧
    (pollWindowCloseOp reply s).walls = s.walls ∧
    (pollWindowCloseOp reply s).booth = s.booth ∧
    (pollWindowCloseOp reply s).lanes = s.lanes ∧
    (pollWindowCloseOp reply s).mix = s.mix ∧
    (pollWindowCloseOp reply s).pending = s.pending ∧
    (pollWindowCloseOp reply s).port.mask = s.port.mask ∧
    (pollWindowCloseOp reply s).port.response = s.port.response ∧
    (pollWindowCloseOp reply s).port.shifted = s.port.shifted := by
  simp only [pollWindowCloseOp]
  repeat' split
  all_goals simp

/-- unitAbsentOp changes no other block than claims, dlc, flags, floor, seats. -/
@[simp] theorem unitAbsentOp_keeps (a : Nat) (s : State) :
    (unitAbsentOp a s).station = s.station ∧
    (unitAbsentOp a s).lif = s.lif ∧
    (unitAbsentOp a s).peers = s.peers ∧
    (unitAbsentOp a s).walls = s.walls ∧
    (unitAbsentOp a s).room = s.room ∧
    (unitAbsentOp a s).booth = s.booth ∧
    (unitAbsentOp a s).lanes = s.lanes ∧
    (unitAbsentOp a s).mix = s.mix ∧
    (unitAbsentOp a s).pending = s.pending ∧
    (unitAbsentOp a s).port.mask = s.port.mask ∧
    (unitAbsentOp a s).port.response = s.port.response ∧
    (unitAbsentOp a s).port.shifted = s.port.shifted := by
  simp [unitAbsentOp]

/-- advanceFull changes no other block than dlc. -/
@[simp] theorem advanceFull_keeps (s : State) :
    (advanceFull s).station = s.station ∧
    (advanceFull s).lif = s.lif ∧
    (advanceFull s).peers = s.peers ∧
    (advanceFull s).walls = s.walls ∧
    (advanceFull s).room = s.room ∧
    (advanceFull s).claims = s.claims ∧
    (advanceFull s).floor = s.floor ∧
    (advanceFull s).booth = s.booth ∧
    (advanceFull s).lanes = s.lanes ∧
    (advanceFull s).seats = s.seats ∧
    (advanceFull s).mix = s.mix ∧
    (advanceFull s).port = s.port ∧
    (advanceFull s).pending = s.pending := by
  simp [advanceFull]

/-- sendBoothPoll changes no other block than booth. -/
@[simp] theorem sendBoothPoll_keeps (e : Nat) (s : State) :
    (sendBoothPoll e s).station = s.station ∧
    (sendBoothPoll e s).lif = s.lif ∧
    (sendBoothPoll e s).peers = s.peers ∧
    (sendBoothPoll e s).walls = s.walls ∧
    (sendBoothPoll e s).room = s.room ∧
    (sendBoothPoll e s).claims = s.claims ∧
    (sendBoothPoll e s).dlc = s.dlc ∧
    (sendBoothPoll e s).floor = s.floor ∧
    (sendBoothPoll e s).lanes = s.lanes ∧
    (sendBoothPoll e s).seats = s.seats ∧
    (sendBoothPoll e s).mix = s.mix ∧
    (sendBoothPoll e s).port = s.port ∧
    (sendBoothPoll e s).pending = s.pending := by
  simp [sendBoothPoll]

/-- boothPollAt changes no other block than booth. -/
@[simp] theorem boothPollAt_keeps (f : Nat) (s : State) :
    (boothPollAt f s).station = s.station ∧
    (boothPollAt f s).lif = s.lif ∧
    (boothPollAt f s).peers = s.peers ∧
    (boothPollAt f s).walls = s.walls ∧
    (boothPollAt f s).room = s.room ∧
    (boothPollAt f s).claims = s.claims ∧
    (boothPollAt f s).dlc = s.dlc ∧
    (boothPollAt f s).floor = s.floor ∧
    (boothPollAt f s).lanes = s.lanes ∧
    (boothPollAt f s).seats = s.seats ∧
    (boothPollAt f s).mix = s.mix ∧
    (boothPollAt f s).port = s.port ∧
    (boothPollAt f s).pending = s.pending := by
  simp only [boothPollAt]
  repeat' split
  all_goals simp

/-- withdrawBoothPoll changes no other block than booth. -/
@[simp] theorem withdrawBoothPoll_keeps (s : State) :
    (withdrawBoothPoll s).station = s.station ∧
    (withdrawBoothPoll s).lif = s.lif ∧
    (withdrawBoothPoll s).peers = s.peers ∧
    (withdrawBoothPoll s).walls = s.walls ∧
    (withdrawBoothPoll s).room = s.room ∧
    (withdrawBoothPoll s).claims = s.claims ∧
    (withdrawBoothPoll s).dlc = s.dlc ∧
    (withdrawBoothPoll s).floor = s.floor ∧
    (withdrawBoothPoll s).lanes = s.lanes ∧
    (withdrawBoothPoll s).seats = s.seats ∧
    (withdrawBoothPoll s).mix = s.mix ∧
    (withdrawBoothPoll s).port = s.port ∧
    (withdrawBoothPoll s).pending = s.pending := by
  simp only [withdrawBoothPoll]
  split <;> simp

/-- standDown changes no other block than booth, claims. -/
@[simp] theorem standDown_keeps (e : Nat) (s : State) :
    (standDown e s).station = s.station ∧
    (standDown e s).lif = s.lif ∧
    (standDown e s).peers = s.peers ∧
    (standDown e s).walls = s.walls ∧
    (standDown e s).room = s.room ∧
    (standDown e s).dlc = s.dlc ∧
    (standDown e s).floor = s.floor ∧
    (standDown e s).lanes = s.lanes ∧
    (standDown e s).seats = s.seats ∧
    (standDown e s).mix = s.mix ∧
    (standDown e s).port = s.port ∧
    (standDown e s).pending = s.pending := by
  simp only [standDown]
  repeat' split
  all_goals simp

/-- refreshSource changes no other block than booth. -/
@[simp] theorem refreshSource_keeps (e l : Nat) (s : State) :
    (refreshSource e l s).station = s.station ∧
    (refreshSource e l s).lif = s.lif ∧
    (refreshSource e l s).peers = s.peers ∧
    (refreshSource e l s).walls = s.walls ∧
    (refreshSource e l s).room = s.room ∧
    (refreshSource e l s).claims = s.claims ∧
    (refreshSource e l s).dlc = s.dlc ∧
    (refreshSource e l s).floor = s.floor ∧
    (refreshSource e l s).lanes = s.lanes ∧
    (refreshSource e l s).seats = s.seats ∧
    (refreshSource e l s).mix = s.mix ∧
    (refreshSource e l s).port = s.port ∧
    (refreshSource e l s).pending = s.pending := by
  simp [refreshSource]

/-- changeLanguage changes no other block than booth, claims. -/
@[simp] theorem changeLanguage_keeps (e l : Nat) (s : State) :
    (changeLanguage e l s).station = s.station ∧
    (changeLanguage e l s).lif = s.lif ∧
    (changeLanguage e l s).peers = s.peers ∧
    (changeLanguage e l s).walls = s.walls ∧
    (changeLanguage e l s).room = s.room ∧
    (changeLanguage e l s).dlc = s.dlc ∧
    (changeLanguage e l s).floor = s.floor ∧
    (changeLanguage e l s).lanes = s.lanes ∧
    (changeLanguage e l s).seats = s.seats ∧
    (changeLanguage e l s).mix = s.mix ∧
    (changeLanguage e l s).port = s.port ∧
    (changeLanguage e l s).pending = s.pending := by
  simp [changeLanguage]

/-- pressOffDesk changes no other block than booth, claims, flags. -/
@[simp] theorem pressOffDesk_keeps (e l : Nat) (s : State) :
    (pressOffDesk e l s).station = s.station ∧
    (pressOffDesk e l s).lif = s.lif ∧
    (pressOffDesk e l s).peers = s.peers ∧
    (pressOffDesk e l s).walls = s.walls ∧
    (pressOffDesk e l s).room = s.room ∧
    (pressOffDesk e l s).dlc = s.dlc ∧
    (pressOffDesk e l s).floor = s.floor ∧
    (pressOffDesk e l s).lanes = s.lanes ∧
    (pressOffDesk e l s).seats = s.seats ∧
    (pressOffDesk e l s).mix = s.mix ∧
    (pressOffDesk e l s).pending = s.pending ∧
    (pressOffDesk e l s).port.mask = s.port.mask ∧
    (pressOffDesk e l s).port.response = s.port.response ∧
    (pressOffDesk e l s).port.shifted = s.port.shifted := by
  simp only [pressOffDesk]
  repeat' split
  all_goals simp

/-- deskPress changes no other block than booth, claims, flags. -/
@[simp] theorem deskPress_keeps (e : Nat) (s : State) :
    (deskPress e s).station = s.station ∧
    (deskPress e s).lif = s.lif ∧
    (deskPress e s).peers = s.peers ∧
    (deskPress e s).walls = s.walls ∧
    (deskPress e s).room = s.room ∧
    (deskPress e s).dlc = s.dlc ∧
    (deskPress e s).floor = s.floor ∧
    (deskPress e s).lanes = s.lanes ∧
    (deskPress e s).seats = s.seats ∧
    (deskPress e s).mix = s.mix ∧
    (deskPress e s).pending = s.pending ∧
    (deskPress e s).port.mask = s.port.mask ∧
    (deskPress e s).port.response = s.port.response ∧
    (deskPress e s).port.shifted = s.port.shifted := by
  simp only [deskPress]
  repeat' split
  all_goals simp

/-- goodDeskReply changes no other block than booth, claims, flags, lanes. -/
@[simp] theorem goodDeskReply_keeps (e : Nat) (c : ReplyClass) (r : DeskContent) (s : State) :
    (goodDeskReply e c r s).station = s.station ∧
    (goodDeskReply e c r s).lif = s.lif ∧
    (goodDeskReply e c r s).peers = s.peers ∧
    (goodDeskReply e c r s).walls = s.walls ∧
    (goodDeskReply e c r s).room = s.room ∧
    (goodDeskReply e c r s).dlc = s.dlc ∧
    (goodDeskReply e c r s).floor = s.floor ∧
    (goodDeskReply e c r s).seats = s.seats ∧
    (goodDeskReply e c r s).mix = s.mix ∧
    (goodDeskReply e c r s).pending = s.pending ∧
    (goodDeskReply e c r s).port.mask = s.port.mask ∧
    (goodDeskReply e c r s).port.response = s.port.response ∧
    (goodDeskReply e c r s).port.shifted = s.port.shifted := by
  simp [goodDeskReply]

/-- loseDesk changes no other block than booth, claims, lanes. -/
@[simp] theorem loseDesk_keeps (e : Nat) (s : State) :
    (loseDesk e s).station = s.station ∧
    (loseDesk e s).lif = s.lif ∧
    (loseDesk e s).peers = s.peers ∧
    (loseDesk e s).walls = s.walls ∧
    (loseDesk e s).room = s.room ∧
    (loseDesk e s).dlc = s.dlc ∧
    (loseDesk e s).floor = s.floor ∧
    (loseDesk e s).seats = s.seats ∧
    (loseDesk e s).mix = s.mix ∧
    (loseDesk e s).port = s.port ∧
    (loseDesk e s).pending = s.pending := by
  simp [loseDesk]

/-- badDeskReply changes no other block than booth, claims, lanes. -/
@[simp] theorem badDeskReply_keeps (e : Nat) (s : State) :
    (badDeskReply e s).station = s.station ∧
    (badDeskReply e s).lif = s.lif ∧
    (badDeskReply e s).peers = s.peers ∧
    (badDeskReply e s).walls = s.walls ∧
    (badDeskReply e s).room = s.room ∧
    (badDeskReply e s).dlc = s.dlc ∧
    (badDeskReply e s).floor = s.floor ∧
    (badDeskReply e s).seats = s.seats ∧
    (badDeskReply e s).mix = s.mix ∧
    (badDeskReply e s).port = s.port ∧
    (badDeskReply e s).pending = s.pending := by
  simp [badDeskReply]

/-- closeBoothWindow changes no other block than booth, claims, flags, lanes. -/
@[simp] theorem closeBoothWindow_keeps (e : Nat) (reply : Option DeskReply) (s : State) :
    (closeBoothWindow e reply s).station = s.station ∧
    (closeBoothWindow e reply s).lif = s.lif ∧
    (closeBoothWindow e reply s).peers = s.peers ∧
    (closeBoothWindow e reply s).walls = s.walls ∧
    (closeBoothWindow e reply s).room = s.room ∧
    (closeBoothWindow e reply s).dlc = s.dlc ∧
    (closeBoothWindow e reply s).floor = s.floor ∧
    (closeBoothWindow e reply s).seats = s.seats ∧
    (closeBoothWindow e reply s).mix = s.mix ∧
    (closeBoothWindow e reply s).pending = s.pending ∧
    (closeBoothWindow e reply s).port.mask = s.port.mask ∧
    (closeBoothWindow e reply s).port.response = s.port.response ∧
    (closeBoothWindow e reply s).port.shifted = s.port.shifted := by
  simp only [closeBoothWindow]
  repeat' split
  all_goals simp

/-- takeBoothWindow changes no other block than booth. -/
@[simp] theorem takeBoothWindow_keeps (s : State) :
    (takeBoothWindow s).station = s.station ∧
    (takeBoothWindow s).lif = s.lif ∧
    (takeBoothWindow s).peers = s.peers ∧
    (takeBoothWindow s).walls = s.walls ∧
    (takeBoothWindow s).room = s.room ∧
    (takeBoothWindow s).claims = s.claims ∧
    (takeBoothWindow s).dlc = s.dlc ∧
    (takeBoothWindow s).floor = s.floor ∧
    (takeBoothWindow s).lanes = s.lanes ∧
    (takeBoothWindow s).seats = s.seats ∧
    (takeBoothWindow s).mix = s.mix ∧
    (takeBoothWindow s).port = s.port ∧
    (takeBoothWindow s).pending = s.pending := by
  simp only [takeBoothWindow]
  repeat' split
  all_goals simp

/-- boothWindowCloseOp changes no other block than booth, claims, flags, lanes. -/
@[simp] theorem boothWindowCloseOp_keeps (reply : Option DeskReply) (s : State) :
    (boothWindowCloseOp reply s).station = s.station ∧
    (boothWindowCloseOp reply s).lif = s.lif ∧
    (boothWindowCloseOp reply s).peers = s.peers ∧
    (boothWindowCloseOp reply s).walls = s.walls ∧
    (boothWindowCloseOp reply s).room = s.room ∧
    (boothWindowCloseOp reply s).dlc = s.dlc ∧
    (boothWindowCloseOp reply s).floor = s.floor ∧
    (boothWindowCloseOp reply s).seats = s.seats ∧
    (boothWindowCloseOp reply s).mix = s.mix ∧
    (boothWindowCloseOp reply s).pending = s.pending ∧
    (boothWindowCloseOp reply s).port.mask = s.port.mask ∧
    (boothWindowCloseOp reply s).port.response = s.port.response ∧
    (boothWindowCloseOp reply s).port.shifted = s.port.shifted := by
  simp only [boothWindowCloseOp]
  repeat' split
  all_goals simp

/-- deskAbsentOp changes no other block than booth, claims, lanes. -/
@[simp] theorem deskAbsentOp_keeps (e : Nat) (s : State) :
    (deskAbsentOp e s).station = s.station ∧
    (deskAbsentOp e s).lif = s.lif ∧
    (deskAbsentOp e s).peers = s.peers ∧
    (deskAbsentOp e s).walls = s.walls ∧
    (deskAbsentOp e s).room = s.room ∧
    (deskAbsentOp e s).dlc = s.dlc ∧
    (deskAbsentOp e s).floor = s.floor ∧
    (deskAbsentOp e s).seats = s.seats ∧
    (deskAbsentOp e s).mix = s.mix ∧
    (deskAbsentOp e s).port = s.port ∧
    (deskAbsentOp e s).pending = s.pending := by
  simp [deskAbsentOp]

/-- silence changes no other block than mix. -/
@[simp] theorem silence_keeps (s : State) :
    (silence s).station = s.station ∧
    (silence s).lif = s.lif ∧
    (silence s).peers = s.peers ∧
    (silence s).walls = s.walls ∧
    (silence s).room = s.room ∧
    (silence s).claims = s.claims ∧
    (silence s).dlc = s.dlc ∧
    (silence s).floor = s.floor ∧
    (silence s).booth = s.booth ∧
    (silence s).lanes = s.lanes ∧
    (silence s).seats = s.seats ∧
    (silence s).port = s.port ∧
    (silence s).pending = s.pending := by
  simp [silence]

/-- computeFrame changes no other block than flags, mix. -/
@[simp] theorem computeFrame_keeps (s : State) :
    (computeFrame s).station = s.station ∧
    (computeFrame s).lif = s.lif ∧
    (computeFrame s).peers = s.peers ∧
    (computeFrame s).walls = s.walls ∧
    (computeFrame s).room = s.room ∧
    (computeFrame s).claims = s.claims ∧
    (computeFrame s).dlc = s.dlc ∧
    (computeFrame s).floor = s.floor ∧
    (computeFrame s).booth = s.booth ∧
    (computeFrame s).lanes = s.lanes ∧
    (computeFrame s).seats = s.seats ∧
    (computeFrame s).pending = s.pending ∧
    (computeFrame s).port.mask = s.port.mask ∧
    (computeFrame s).port.response = s.port.response ∧
    (computeFrame s).port.shifted = s.port.shifted := by
  simp [computeFrame]

/-- latchPlan changes no other block than mix. -/
@[simp] theorem latchPlan_keeps (s : State) :
    (latchPlan s).station = s.station ∧
    (latchPlan s).lif = s.lif ∧
    (latchPlan s).peers = s.peers ∧
    (latchPlan s).walls = s.walls ∧
    (latchPlan s).room = s.room ∧
    (latchPlan s).claims = s.claims ∧
    (latchPlan s).dlc = s.dlc ∧
    (latchPlan s).floor = s.floor ∧
    (latchPlan s).booth = s.booth ∧
    (latchPlan s).lanes = s.lanes ∧
    (latchPlan s).seats = s.seats ∧
    (latchPlan s).port = s.port ∧
    (latchPlan s).pending = s.pending := by
  simp [latchPlan]

/-- isolatePlan changes no other block than mix. -/
@[simp] theorem isolatePlan_keeps (s : State) :
    (isolatePlan s).station = s.station ∧
    (isolatePlan s).lif = s.lif ∧
    (isolatePlan s).peers = s.peers ∧
    (isolatePlan s).walls = s.walls ∧
    (isolatePlan s).room = s.room ∧
    (isolatePlan s).claims = s.claims ∧
    (isolatePlan s).dlc = s.dlc ∧
    (isolatePlan s).floor = s.floor ∧
    (isolatePlan s).booth = s.booth ∧
    (isolatePlan s).lanes = s.lanes ∧
    (isolatePlan s).seats = s.seats ∧
    (isolatePlan s).port = s.port ∧
    (isolatePlan s).pending = s.pending := by
  simp [isolatePlan]

end Sys2Proof.Machine
end

