-- ==== Sys2Proof/Laws/FrameStation.lean ====
section
/-! SUPPORT. Frame lemmas: for each operation of the station state machine and the link, the blocks it leaves as they
are. -/

namespace Sys2Proof.Machine

/-- changeState changes no other block than booth, claims, flags, floor, lanes, room, station. -/
@[simp] theorem changeState_keeps (st : StationState) (timer : Option Nat) (s : State) :
    (changeState st timer s).lif = s.lif ∧
    (changeState st timer s).peers = s.peers ∧
    (changeState st timer s).walls = s.walls ∧
    (changeState st timer s).dlc = s.dlc ∧
    (changeState st timer s).seats = s.seats ∧
    (changeState st timer s).mix = s.mix ∧
    (changeState st timer s).pending = s.pending ∧
    (changeState st timer s).port.mask = s.port.mask ∧
    (changeState st timer s).port.response = s.port.response ∧
    (changeState st timer s).port.shifted = s.port.shifted := by
  simp [changeState]

/-- enterJoining changes no other block than booth, claims, flags, floor, lanes, lif, room, station. -/
@[simp] theorem enterJoining_keeps (s : State) :
    (enterJoining s).peers = s.peers ∧
    (enterJoining s).walls = s.walls ∧
    (enterJoining s).dlc = s.dlc ∧
    (enterJoining s).seats = s.seats ∧
    (enterJoining s).mix = s.mix ∧
    (enterJoining s).pending = s.pending ∧
    (enterJoining s).port.mask = s.port.mask ∧
    (enterJoining s).port.response = s.port.response ∧
    (enterJoining s).port.shifted = s.port.shifted := by
  simp [enterJoining]

/-- enterRunning changes no other block than booth, claims, flags, floor, lanes, room, station. -/
@[simp] theorem enterRunning_keeps (s : State) :
    (enterRunning s).lif = s.lif ∧
    (enterRunning s).peers = s.peers ∧
    (enterRunning s).walls = s.walls ∧
    (enterRunning s).dlc = s.dlc ∧
    (enterRunning s).seats = s.seats ∧
    (enterRunning s).mix = s.mix ∧
    (enterRunning s).pending = s.pending ∧
    (enterRunning s).port.mask = s.port.mask ∧
    (enterRunning s).port.response = s.port.response ∧
    (enterRunning s).port.shifted = s.port.shifted := by
  simp [enterRunning]

/-- takeExpiry changes no other block than booth, claims, flags, floor, lanes, room, station. -/
@[simp] theorem takeExpiry_keeps (s : State) :
    (takeExpiry s).lif = s.lif ∧
    (takeExpiry s).peers = s.peers ∧
    (takeExpiry s).walls = s.walls ∧
    (takeExpiry s).dlc = s.dlc ∧
    (takeExpiry s).seats = s.seats ∧
    (takeExpiry s).mix = s.mix ∧
    (takeExpiry s).pending = s.pending ∧
    (takeExpiry s).port.mask = s.port.mask ∧
    (takeExpiry s).port.response = s.port.response ∧
    (takeExpiry s).port.shifted = s.port.shifted := by
  simp [takeExpiry]

/-- nameWalls changes no other block than walls. -/
@[simp] theorem nameWalls_keeps (c : Configuration) (s : State) :
    (nameWalls c s).station = s.station ∧
    (nameWalls c s).lif = s.lif ∧
    (nameWalls c s).peers = s.peers ∧
    (nameWalls c s).room = s.room ∧
    (nameWalls c s).claims = s.claims ∧
    (nameWalls c s).dlc = s.dlc ∧
    (nameWalls c s).floor = s.floor ∧
    (nameWalls c s).booth = s.booth ∧
    (nameWalls c s).lanes = s.lanes ∧
    (nameWalls c s).seats = s.seats ∧
    (nameWalls c s).mix = s.mix ∧
    (nameWalls c s).port = s.port ∧
    (nameWalls c s).pending = s.pending := by
  simp [nameWalls]

/-- fitDesks changes no other block than booth. -/
@[simp] theorem fitDesks_keeps (c : Configuration) (s : State) :
    (fitDesks c s).station = s.station ∧
    (fitDesks c s).lif = s.lif ∧
    (fitDesks c s).peers = s.peers ∧
    (fitDesks c s).walls = s.walls ∧
    (fitDesks c s).room = s.room ∧
    (fitDesks c s).claims = s.claims ∧
    (fitDesks c s).dlc = s.dlc ∧
    (fitDesks c s).floor = s.floor ∧
    (fitDesks c s).lanes = s.lanes ∧
    (fitDesks c s).seats = s.seats ∧
    (fitDesks c s).mix = s.mix ∧
    (fitDesks c s).port = s.port ∧
    (fitDesks c s).pending = s.pending := by
  simp [fitDesks]

/-- acceptConfig changes no other block than booth, claims, flags, floor, lanes, lif, room, station, walls. -/
@[simp] theorem acceptConfig_keeps (c : Configuration) (s : State) :
    (acceptConfig c s).peers = s.peers ∧
    (acceptConfig c s).dlc = s.dlc ∧
    (acceptConfig c s).seats = s.seats ∧
    (acceptConfig c s).mix = s.mix ∧
    (acceptConfig c s).pending = s.pending ∧
    (acceptConfig c s).port.mask = s.port.mask ∧
    (acceptConfig c s).port.response = s.port.response ∧
    (acceptConfig c s).port.shifted = s.port.shifted := by
  simp [acceptConfig]

/-- rejectConfig changes no other block than flags, station. -/
@[simp] theorem rejectConfig_keeps (r : RejectReason) (s : State) :
    (rejectConfig r s).lif = s.lif ∧
    (rejectConfig r s).peers = s.peers ∧
    (rejectConfig r s).walls = s.walls ∧
    (rejectConfig r s).room = s.room ∧
    (rejectConfig r s).claims = s.claims ∧
    (rejectConfig r s).dlc = s.dlc ∧
    (rejectConfig r s).floor = s.floor ∧
    (rejectConfig r s).booth = s.booth ∧
    (rejectConfig r s).lanes = s.lanes ∧
    (rejectConfig r s).seats = s.seats ∧
    (rejectConfig r s).mix = s.mix ∧
    (rejectConfig r s).pending = s.pending ∧
    (rejectConfig r s).port.mask = s.port.mask ∧
    (rejectConfig r s).port.response = s.port.response ∧
    (rejectConfig r s).port.shifted = s.port.shifted := by
  simp [rejectConfig]

/-- memoryReadOp changes no other block than booth, claims, flags, floor, lanes, lif, room, station, walls. -/
@[simp] theorem memoryReadOp_keeps (record : List Byte) (s : State) :
    (memoryReadOp record s).peers = s.peers ∧
    (memoryReadOp record s).dlc = s.dlc ∧
    (memoryReadOp record s).seats = s.seats ∧
    (memoryReadOp record s).mix = s.mix ∧
    (memoryReadOp record s).pending = s.pending ∧
    (memoryReadOp record s).port.mask = s.port.mask ∧
    (memoryReadOp record s).port.response = s.port.response ∧
    (memoryReadOp record s).port.shifted = s.port.shifted := by
  simp only [memoryReadOp]
  repeat' split
  all_goals simp

/-- isolateClaims changes no other block than booth, claims, lanes. -/
@[simp] theorem isolateClaims_keeps (s : State) :
    (isolateClaims s).station = s.station ∧
    (isolateClaims s).lif = s.lif ∧
    (isolateClaims s).peers = s.peers ∧
    (isolateClaims s).walls = s.walls ∧
    (isolateClaims s).room = s.room ∧
    (isolateClaims s).dlc = s.dlc ∧
    (isolateClaims s).floor = s.floor ∧
    (isolateClaims s).seats = s.seats ∧
    (isolateClaims s).mix = s.mix ∧
    (isolateClaims s).port = s.port ∧
    (isolateClaims s).pending = s.pending := by
  simp [isolateClaims]

/-- isolateLink changes no other block than lif, peers. -/
@[simp] theorem isolateLink_keeps (s : State) :
    (isolateLink s).station = s.station ∧
    (isolateLink s).walls = s.walls ∧
    (isolateLink s).room = s.room ∧
    (isolateLink s).claims = s.claims ∧
    (isolateLink s).dlc = s.dlc ∧
    (isolateLink s).floor = s.floor ∧
    (isolateLink s).booth = s.booth ∧
    (isolateLink s).lanes = s.lanes ∧
    (isolateLink s).seats = s.seats ∧
    (isolateLink s).mix = s.mix ∧
    (isolateLink s).port = s.port ∧
    (isolateLink s).pending = s.pending := by
  simp [isolateLink]

/-- forgetPeers changes no other block than room. -/
@[simp] theorem forgetPeers_keeps (s : State) :
    (forgetPeers s).station = s.station ∧
    (forgetPeers s).lif = s.lif ∧
    (forgetPeers s).peers = s.peers ∧
    (forgetPeers s).walls = s.walls ∧
    (forgetPeers s).claims = s.claims ∧
    (forgetPeers s).dlc = s.dlc ∧
    (forgetPeers s).floor = s.floor ∧
    (forgetPeers s).booth = s.booth ∧
    (forgetPeers s).lanes = s.lanes ∧
    (forgetPeers s).seats = s.seats ∧
    (forgetPeers s).mix = s.mix ∧
    (forgetPeers s).port = s.port ∧
    (forgetPeers s).pending = s.pending := by
  simp [forgetPeers]

/-- enterIsolated changes no other block than booth, claims, flags, floor, lanes, lif, mix, peers, room, station. -/
@[simp] theorem enterIsolated_keeps (s : State) :
    (enterIsolated s).walls = s.walls ∧
    (enterIsolated s).dlc = s.dlc ∧
    (enterIsolated s).seats = s.seats ∧
    (enterIsolated s).pending = s.pending ∧
    (enterIsolated s).port.mask = s.port.mask ∧
    (enterIsolated s).port.response = s.port.response ∧
    (enterIsolated s).port.shifted = s.port.shifted := by
  simp [enterIsolated]

/-- takeLinkFailure changes no other block than booth, claims, flags, floor, lanes, lif, mix, peers, room, station. -/
@[simp] theorem takeLinkFailure_keeps (s : State) :
    (takeLinkFailure s).walls = s.walls ∧
    (takeLinkFailure s).dlc = s.dlc ∧
    (takeLinkFailure s).seats = s.seats ∧
    (takeLinkFailure s).pending = s.pending ∧
    (takeLinkFailure s).port.mask = s.port.mask ∧
    (takeLinkFailure s).port.response = s.port.response ∧
    (takeLinkFailure s).port.shifted = s.port.shifted := by
  simp [takeLinkFailure]

/-- withdrawAllIntents changes no other block than booth, claims, dlc, lanes. -/
@[simp] theorem withdrawAllIntents_keeps (s : State) :
    (withdrawAllIntents s).station = s.station ∧
    (withdrawAllIntents s).lif = s.lif ∧
    (withdrawAllIntents s).peers = s.peers ∧
    (withdrawAllIntents s).walls = s.walls ∧
    (withdrawAllIntents s).room = s.room ∧
    (withdrawAllIntents s).floor = s.floor ∧
    (withdrawAllIntents s).seats = s.seats ∧
    (withdrawAllIntents s).mix = s.mix ∧
    (withdrawAllIntents s).port = s.port ∧
    (withdrawAllIntents s).pending = s.pending := by
  simp [withdrawAllIntents]

/-- leaveIsolated changes no other block than booth, claims, dlc, flags, floor, lanes, lif, room, station. -/
@[simp] theorem leaveIsolated_keeps (s : State) :
    (leaveIsolated s).peers = s.peers ∧
    (leaveIsolated s).walls = s.walls ∧
    (leaveIsolated s).seats = s.seats ∧
    (leaveIsolated s).mix = s.mix ∧
    (leaveIsolated s).pending = s.pending ∧
    (leaveIsolated s).port.mask = s.port.mask ∧
    (leaveIsolated s).port.response = s.port.response ∧
    (leaveIsolated s).port.shifted = s.port.shifted := by
  simp [leaveIsolated]

/-- takeLinkRecovery changes no other block than booth, claims, dlc, flags, floor, lanes, lif, room, station. -/
@[simp] theorem takeLinkRecovery_keeps (s : State) :
    (takeLinkRecovery s).peers = s.peers ∧
    (takeLinkRecovery s).walls = s.walls ∧
    (takeLinkRecovery s).seats = s.seats ∧
    (takeLinkRecovery s).mix = s.mix ∧
    (takeLinkRecovery s).pending = s.pending ∧
    (takeLinkRecovery s).port.mask = s.port.mask ∧
    (takeLinkRecovery s).port.response = s.port.response ∧
    (takeLinkRecovery s).port.shifted = s.port.shifted := by
  simp [takeLinkRecovery]

/-- restartTables changes no other block than booth, claims, dlc, floor, lanes, lif, mix, peers, room, seats. -/
@[simp] theorem restartTables_keeps (s : State) :
    (restartTables s).station = s.station ∧
    (restartTables s).walls = s.walls ∧
    (restartTables s).port = s.port ∧
    (restartTables s).pending = s.pending := by
  simp [restartTables]

/-- restartStation changes no other block than booth, claims, dlc, flags, floor, lanes, lif, mix, peers, port, room, seats, station. -/
@[simp] theorem restartStation_keeps (s : State) :
    (restartStation s).walls = s.walls ∧
    (restartStation s).pending = s.pending := by
  simp [restartStation]

/-- releaseReset changes no other block than mix, room, station. -/
@[simp] theorem releaseReset_keeps (number : BitVec 4) (source : ConfigSource) (s : State) :
    (releaseReset number source s).lif = s.lif ∧
    (releaseReset number source s).peers = s.peers ∧
    (releaseReset number source s).walls = s.walls ∧
    (releaseReset number source s).claims = s.claims ∧
    (releaseReset number source s).dlc = s.dlc ∧
    (releaseReset number source s).floor = s.floor ∧
    (releaseReset number source s).booth = s.booth ∧
    (releaseReset number source s).lanes = s.lanes ∧
    (releaseReset number source s).seats = s.seats ∧
    (releaseReset number source s).port = s.port ∧
    (releaseReset number source s).pending = s.pending := by
  simp [releaseReset]

/-- putOut changes no other block than lif. -/
@[simp] theorem putOut_keeps (f : FrameIn) (s : State) :
    (putOut f s).station = s.station ∧
    (putOut f s).peers = s.peers ∧
    (putOut f s).walls = s.walls ∧
    (putOut f s).room = s.room ∧
    (putOut f s).claims = s.claims ∧
    (putOut f s).dlc = s.dlc ∧
    (putOut f s).floor = s.floor ∧
    (putOut f s).booth = s.booth ∧
    (putOut f s).lanes = s.lanes ∧
    (putOut f s).seats = s.seats ∧
    (putOut f s).mix = s.mix ∧
    (putOut f s).port = s.port ∧
    (putOut f s).pending = s.pending := by
  simp [putOut]

/-- takeAnnounced changes no other block than mix. -/
@[simp] theorem takeAnnounced_keeps (s : State) :
    (takeAnnounced s).station = s.station ∧
    (takeAnnounced s).lif = s.lif ∧
    (takeAnnounced s).peers = s.peers ∧
    (takeAnnounced s).walls = s.walls ∧
    (takeAnnounced s).room = s.room ∧
    (takeAnnounced s).claims = s.claims ∧
    (takeAnnounced s).dlc = s.dlc ∧
    (takeAnnounced s).floor = s.floor ∧
    (takeAnnounced s).booth = s.booth ∧
    (takeAnnounced s).lanes = s.lanes ∧
    (takeAnnounced s).seats = s.seats ∧
    (takeAnnounced s).port = s.port ∧
    (takeAnnounced s).pending = s.pending := by
  simp [takeAnnounced]

/-- receiveControl changes no other block than lif. -/
@[simp] theorem receiveControl_keeps (f : FrameIn) (s : State) :
    (receiveControl f s).station = s.station ∧
    (receiveControl f s).peers = s.peers ∧
    (receiveControl f s).walls = s.walls ∧
    (receiveControl f s).room = s.room ∧
    (receiveControl f s).claims = s.claims ∧
    (receiveControl f s).dlc = s.dlc ∧
    (receiveControl f s).floor = s.floor ∧
    (receiveControl f s).booth = s.booth ∧
    (receiveControl f s).lanes = s.lanes ∧
    (receiveControl f s).seats = s.seats ∧
    (receiveControl f s).mix = s.mix ∧
    (receiveControl f s).port = s.port ∧
    (receiveControl f s).pending = s.pending := by
  simp [receiveControl]

/-- deliver changes no other block than booth, dlc, lif. -/
@[simp] theorem deliver_keeps (f : FrameIn) (s : State) :
    (deliver f s).station = s.station ∧
    (deliver f s).peers = s.peers ∧
    (deliver f s).walls = s.walls ∧
    (deliver f s).room = s.room ∧
    (deliver f s).claims = s.claims ∧
    (deliver f s).floor = s.floor ∧
    (deliver f s).lanes = s.lanes ∧
    (deliver f s).seats = s.seats ∧
    (deliver f s).mix = s.mix ∧
    (deliver f s).port = s.port ∧
    (deliver f s).pending = s.pending := by
  simp [deliver]

/-- advanceFrame changes no other block than lif. -/
@[simp] theorem advanceFrame_keeps (f : FrameIn) (s : State) :
    (advanceFrame f s).station = s.station ∧
    (advanceFrame f s).peers = s.peers ∧
    (advanceFrame f s).walls = s.walls ∧
    (advanceFrame f s).room = s.room ∧
    (advanceFrame f s).claims = s.claims ∧
    (advanceFrame f s).dlc = s.dlc ∧
    (advanceFrame f s).floor = s.floor ∧
    (advanceFrame f s).booth = s.booth ∧
    (advanceFrame f s).lanes = s.lanes ∧
    (advanceFrame f s).seats = s.seats ∧
    (advanceFrame f s).mix = s.mix ∧
    (advanceFrame f s).port = s.port ∧
    (advanceFrame f s).pending = s.pending := by
  simp [advanceFrame]

/-- advanceTimer changes no other block than station. -/
@[simp] theorem advanceTimer_keeps (s : State) :
    (advanceTimer s).lif = s.lif ∧
    (advanceTimer s).peers = s.peers ∧
    (advanceTimer s).walls = s.walls ∧
    (advanceTimer s).room = s.room ∧
    (advanceTimer s).claims = s.claims ∧
    (advanceTimer s).dlc = s.dlc ∧
    (advanceTimer s).floor = s.floor ∧
    (advanceTimer s).booth = s.booth ∧
    (advanceTimer s).lanes = s.lanes ∧
    (advanceTimer s).seats = s.seats ∧
    (advanceTimer s).mix = s.mix ∧
    (advanceTimer s).port = s.port ∧
    (advanceTimer s).pending = s.pending := by
  simp [advanceTimer]

/-- latchFrame changes no other block than lif. -/
@[simp] theorem latchFrame_keeps (s : State) :
    (latchFrame s).station = s.station ∧
    (latchFrame s).peers = s.peers ∧
    (latchFrame s).walls = s.walls ∧
    (latchFrame s).room = s.room ∧
    (latchFrame s).claims = s.claims ∧
    (latchFrame s).dlc = s.dlc ∧
    (latchFrame s).floor = s.floor ∧
    (latchFrame s).booth = s.booth ∧
    (latchFrame s).lanes = s.lanes ∧
    (latchFrame s).seats = s.seats ∧
    (latchFrame s).mix = s.mix ∧
    (latchFrame s).port = s.port ∧
    (latchFrame s).pending = s.pending := by
  simp [latchFrame]

/-- endFrame changes no other block than booth, dlc, flags, lif, mix. -/
@[simp] theorem endFrame_keeps (f : FrameIn) (s : State) :
    (endFrame f s).station = s.station ∧
    (endFrame f s).peers = s.peers ∧
    (endFrame f s).walls = s.walls ∧
    (endFrame f s).room = s.room ∧
    (endFrame f s).claims = s.claims ∧
    (endFrame f s).floor = s.floor ∧
    (endFrame f s).lanes = s.lanes ∧
    (endFrame f s).seats = s.seats ∧
    (endFrame f s).pending = s.pending ∧
    (endFrame f s).port.mask = s.port.mask ∧
    (endFrame f s).port.response = s.port.response ∧
    (endFrame f s).port.shifted = s.port.shifted := by
  simp [endFrame]

/-- beginFrame changes no other block than booth, dlc, lif, station. -/
@[simp] theorem beginFrame_keeps (f : FrameIn) (s : State) :
    (beginFrame f s).peers = s.peers ∧
    (beginFrame f s).walls = s.walls ∧
    (beginFrame f s).room = s.room ∧
    (beginFrame f s).claims = s.claims ∧
    (beginFrame f s).floor = s.floor ∧
    (beginFrame f s).lanes = s.lanes ∧
    (beginFrame f s).seats = s.seats ∧
    (beginFrame f s).mix = s.mix ∧
    (beginFrame f s).port = s.port ∧
    (beginFrame f s).pending = s.pending := by
  simp [beginFrame]

/-- frameBoundaryOp changes no other block than booth, claims, dlc, flags, floor, lanes, lif, mix, room, station. -/
@[simp] theorem frameBoundaryOp_keeps (f : FrameIn) (s : State) :
    (frameBoundaryOp f s).peers = s.peers ∧
    (frameBoundaryOp f s).walls = s.walls ∧
    (frameBoundaryOp f s).seats = s.seats ∧
    (frameBoundaryOp f s).pending = s.pending ∧
    (frameBoundaryOp f s).port.mask = s.port.mask ∧
    (frameBoundaryOp f s).port.response = s.port.response ∧
    (frameBoundaryOp f s).port.shifted = s.port.shifted := by
  simp [frameBoundaryOp]

/-- resetPolling changes no other block than claims, dlc, flags, floor, room, seats. -/
@[simp] theorem resetPolling_keeps (reply : Option UnitReply) (s : State) :
    (resetPolling reply s).station = s.station ∧
    (resetPolling reply s).lif = s.lif ∧
    (resetPolling reply s).peers = s.peers ∧
    (resetPolling reply s).walls = s.walls ∧
    (resetPolling reply s).booth = s.booth ∧
    (resetPolling reply s).lanes = s.lanes ∧
    (resetPolling reply s).mix = s.mix ∧
    (resetPolling reply s).pending = s.pending ∧
    (resetPolling reply s).port.mask = s.port.mask ∧
    (resetPolling reply s).port.response = s.port.response ∧
    (resetPolling reply s).port.shifted = s.port.shifted := by
  simp only [resetPolling]
  repeat' split
  all_goals simp

/-- resetBooth changes no other block than booth, claims, flags, lanes. -/
@[simp] theorem resetBooth_keeps (reply : Option DeskReply) (s : State) :
    (resetBooth reply s).station = s.station ∧
    (resetBooth reply s).lif = s.lif ∧
    (resetBooth reply s).peers = s.peers ∧
    (resetBooth reply s).walls = s.walls ∧
    (resetBooth reply s).room = s.room ∧
    (resetBooth reply s).dlc = s.dlc ∧
    (resetBooth reply s).floor = s.floor ∧
    (resetBooth reply s).seats = s.seats ∧
    (resetBooth reply s).mix = s.mix ∧
    (resetBooth reply s).pending = s.pending ∧
    (resetBooth reply s).port.mask = s.port.mask ∧
    (resetBooth reply s).port.response = s.port.response ∧
    (resetBooth reply s).port.shifted = s.port.shifted := by
  simp only [resetBooth]
  repeat' split
  all_goals simp

/-- cutShort changes no other block than lif, walls. -/
@[simp] theorem cutShort_keeps (s : State) :
    (cutShort s).station = s.station ∧
    (cutShort s).peers = s.peers ∧
    (cutShort s).room = s.room ∧
    (cutShort s).claims = s.claims ∧
    (cutShort s).dlc = s.dlc ∧
    (cutShort s).floor = s.floor ∧
    (cutShort s).booth = s.booth ∧
    (cutShort s).lanes = s.lanes ∧
    (cutShort s).seats = s.seats ∧
    (cutShort s).mix = s.mix ∧
    (cutShort s).port = s.port ∧
    (cutShort s).pending = s.pending := by
  simp [cutShort]

/-- acquire changes no other block than lif. -/
@[simp] theorem acquire_keeps (s : State) :
    (acquire s).station = s.station ∧
    (acquire s).peers = s.peers ∧
    (acquire s).walls = s.walls ∧
    (acquire s).room = s.room ∧
    (acquire s).claims = s.claims ∧
    (acquire s).dlc = s.dlc ∧
    (acquire s).floor = s.floor ∧
    (acquire s).booth = s.booth ∧
    (acquire s).lanes = s.lanes ∧
    (acquire s).seats = s.seats ∧
    (acquire s).mix = s.mix ∧
    (acquire s).port = s.port ∧
    (acquire s).pending = s.pending := by
  simp [acquire]

/-- hsyncOp changes no other block than booth, claims, dlc, flags, floor, lanes, lif, room, seats, walls. -/
@[simp] theorem hsyncOp_keeps (u : Option UnitReply) (d : Option DeskReply) (s : State) :
    (hsyncOp u d s).station = s.station ∧
    (hsyncOp u d s).peers = s.peers ∧
    (hsyncOp u d s).mix = s.mix ∧
    (hsyncOp u d s).pending = s.pending ∧
    (hsyncOp u d s).port.mask = s.port.mask ∧
    (hsyncOp u d s).port.response = s.port.response ∧
    (hsyncOp u d s).port.shifted = s.port.shifted := by
  simp only [hsyncOp]
  repeat' split
  all_goals simp

/-- advancePeers changes no other block than peers. -/
@[simp] theorem advancePeers_keeps (s : State) :
    (advancePeers s).station = s.station ∧
    (advancePeers s).lif = s.lif ∧
    (advancePeers s).walls = s.walls ∧
    (advancePeers s).room = s.room ∧
    (advancePeers s).claims = s.claims ∧
    (advancePeers s).dlc = s.dlc ∧
    (advancePeers s).floor = s.floor ∧
    (advancePeers s).booth = s.booth ∧
    (advancePeers s).lanes = s.lanes ∧
    (advancePeers s).seats = s.seats ∧
    (advancePeers s).mix = s.mix ∧
    (advancePeers s).port = s.port ∧
    (advancePeers s).pending = s.pending := by
  simp [advancePeers]

/-- latchWriteSet changes no other block than lif. -/
@[simp] theorem latchWriteSet_keeps (s : State) :
    (latchWriteSet s).station = s.station ∧
    (latchWriteSet s).peers = s.peers ∧
    (latchWriteSet s).walls = s.walls ∧
    (latchWriteSet s).room = s.room ∧
    (latchWriteSet s).claims = s.claims ∧
    (latchWriteSet s).dlc = s.dlc ∧
    (latchWriteSet s).floor = s.floor ∧
    (latchWriteSet s).booth = s.booth ∧
    (latchWriteSet s).lanes = s.lanes ∧
    (latchWriteSet s).seats = s.seats ∧
    (latchWriteSet s).mix = s.mix ∧
    (latchWriteSet s).port = s.port ∧
    (latchWriteSet s).pending = s.pending := by
  simp [latchWriteSet]

/-- forgetLeft changes no other block than booth. -/
@[simp] theorem forgetLeft_keeps (s : State) :
    (forgetLeft s).station = s.station ∧
    (forgetLeft s).lif = s.lif ∧
    (forgetLeft s).peers = s.peers ∧
    (forgetLeft s).walls = s.walls ∧
    (forgetLeft s).room = s.room ∧
    (forgetLeft s).claims = s.claims ∧
    (forgetLeft s).dlc = s.dlc ∧
    (forgetLeft s).floor = s.floor ∧
    (forgetLeft s).lanes = s.lanes ∧
    (forgetLeft s).seats = s.seats ∧
    (forgetLeft s).mix = s.mix ∧
    (forgetLeft s).port = s.port ∧
    (forgetLeft s).pending = s.pending := by
  simp [forgetLeft]

/-- switchPointWork changes no other block than booth, claims, dlc, flags, floor, lanes, lif, mix, peers. -/
@[simp] theorem switchPointWork_keeps (s : State) :
    (switchPointWork s).station = s.station ∧
    (switchPointWork s).walls = s.walls ∧
    (switchPointWork s).room = s.room ∧
    (switchPointWork s).seats = s.seats ∧
    (switchPointWork s).pending = s.pending ∧
    (switchPointWork s).port.mask = s.port.mask ∧
    (switchPointWork s).port.response = s.port.response ∧
    (switchPointWork s).port.shifted = s.port.shifted := by
  simp [switchPointWork]

/-- switchPointOp changes no other block than booth, claims, dlc, flags, floor, lanes, lif, mix, peers, room, station. -/
@[simp] theorem switchPointOp_keeps (s : State) :
    (switchPointOp s).walls = s.walls ∧
    (switchPointOp s).seats = s.seats ∧
    (switchPointOp s).pending = s.pending ∧
    (switchPointOp s).port.mask = s.port.mask ∧
    (switchPointOp s).port.response = s.port.response ∧
    (switchPointOp s).port.shifted = s.port.shifted := by
  simp [switchPointOp]

/-- fadeInOp changes no other block than floor. -/
@[simp] theorem fadeInOp_keeps (seat : Nat) (s : State) :
    (fadeInOp seat s).station = s.station ∧
    (fadeInOp seat s).lif = s.lif ∧
    (fadeInOp seat s).peers = s.peers ∧
    (fadeInOp seat s).walls = s.walls ∧
    (fadeInOp seat s).room = s.room ∧
    (fadeInOp seat s).claims = s.claims ∧
    (fadeInOp seat s).dlc = s.dlc ∧
    (fadeInOp seat s).booth = s.booth ∧
    (fadeInOp seat s).lanes = s.lanes ∧
    (fadeInOp seat s).seats = s.seats ∧
    (fadeInOp seat s).mix = s.mix ∧
    (fadeInOp seat s).port = s.port ∧
    (fadeInOp seat s).pending = s.pending := by
  simp [fadeInOp]

/-- fadeOutOp changes no other block than claims, dlc, floor. -/
@[simp] theorem fadeOutOp_keeps (seat : Nat) (s : State) :
    (fadeOutOp seat s).station = s.station ∧
    (fadeOutOp seat s).lif = s.lif ∧
    (fadeOutOp seat s).peers = s.peers ∧
    (fadeOutOp seat s).walls = s.walls ∧
    (fadeOutOp seat s).room = s.room ∧
    (fadeOutOp seat s).booth = s.booth ∧
    (fadeOutOp seat s).lanes = s.lanes ∧
    (fadeOutOp seat s).seats = s.seats ∧
    (fadeOutOp seat s).mix = s.mix ∧
    (fadeOutOp seat s).port = s.port ∧
    (fadeOutOp seat s).pending = s.pending := by
  simp [fadeOutOp]

/-- speakingExpiryOp changes no other block than flags, floor. -/
@[simp] theorem speakingExpiryOp_keeps (seat : Nat) (s : State) :
    (speakingExpiryOp seat s).station = s.station ∧
    (speakingExpiryOp seat s).lif = s.lif ∧
    (speakingExpiryOp seat s).peers = s.peers ∧
    (speakingExpiryOp seat s).walls = s.walls ∧
    (speakingExpiryOp seat s).room = s.room ∧
    (speakingExpiryOp seat s).claims = s.claims ∧
    (speakingExpiryOp seat s).dlc = s.dlc ∧
    (speakingExpiryOp seat s).booth = s.booth ∧
    (speakingExpiryOp seat s).lanes = s.lanes ∧
    (speakingExpiryOp seat s).seats = s.seats ∧
    (speakingExpiryOp seat s).mix = s.mix ∧
    (speakingExpiryOp seat s).pending = s.pending ∧
    (speakingExpiryOp seat s).port.mask = s.port.mask ∧
    (speakingExpiryOp seat s).port.response = s.port.response ∧
    (speakingExpiryOp seat s).port.shifted = s.port.shifted := by
  simp [speakingExpiryOp]

/-- compose changes no other block than lif. -/
@[simp] theorem compose_keeps (s : State) :
    (compose s).station = s.station ∧
    (compose s).peers = s.peers ∧
    (compose s).walls = s.walls ∧
    (compose s).room = s.room ∧
    (compose s).claims = s.claims ∧
    (compose s).dlc = s.dlc ∧
    (compose s).floor = s.floor ∧
    (compose s).booth = s.booth ∧
    (compose s).lanes = s.lanes ∧
    (compose s).seats = s.seats ∧
    (compose s).mix = s.mix ∧
    (compose s).port = s.port ∧
    (compose s).pending = s.pending := by
  simp [compose]

/-- ownSlotOp changes no other block than booth, claims, dlc, flags, floor, lanes, lif, room. -/
@[simp] theorem ownSlotOp_keeps (s : State) :
    (ownSlotOp s).station = s.station ∧
    (ownSlotOp s).peers = s.peers ∧
    (ownSlotOp s).walls = s.walls ∧
    (ownSlotOp s).seats = s.seats ∧
    (ownSlotOp s).mix = s.mix ∧
    (ownSlotOp s).pending = s.pending ∧
    (ownSlotOp s).port.mask = s.port.mask ∧
    (ownSlotOp s).port.response = s.port.response ∧
    (ownSlotOp s).port.shifted = s.port.shifted := by
  simp [ownSlotOp]

/-- setPeer changes no other block than peers. -/
@[simp] theorem setPeer_keeps (t : Nat) (e : Option PeerEntry) (s : State) :
    (setPeer t e s).station = s.station ∧
    (setPeer t e s).lif = s.lif ∧
    (setPeer t e s).walls = s.walls ∧
    (setPeer t e s).room = s.room ∧
    (setPeer t e s).claims = s.claims ∧
    (setPeer t e s).dlc = s.dlc ∧
    (setPeer t e s).floor = s.floor ∧
    (setPeer t e s).booth = s.booth ∧
    (setPeer t e s).lanes = s.lanes ∧
    (setPeer t e s).seats = s.seats ∧
    (setPeer t e s).mix = s.mix ∧
    (setPeer t e s).port = s.port ∧
    (setPeer t e s).pending = s.pending := by
  simp [setPeer]

/-- setMark changes no other block than room. -/
@[simp] theorem setMark_keeps (t : Nat) (b : Bool) (s : State) :
    (setMark t b s).station = s.station ∧
    (setMark t b s).lif = s.lif ∧
    (setMark t b s).peers = s.peers ∧
    (setMark t b s).walls = s.walls ∧
    (setMark t b s).claims = s.claims ∧
    (setMark t b s).dlc = s.dlc ∧
    (setMark t b s).floor = s.floor ∧
    (setMark t b s).booth = s.booth ∧
    (setMark t b s).lanes = s.lanes ∧
    (setMark t b s).seats = s.seats ∧
    (setMark t b s).mix = s.mix ∧
    (setMark t b s).port = s.port ∧
    (setMark t b s).pending = s.pending := by
  simp [setMark]

/-- mismatchTest changes no other block than flags, room. -/
@[simp] theorem mismatchTest_keeps (t : Nat) (a : Announcement) (s : State) :
    (mismatchTest t a s).station = s.station ∧
    (mismatchTest t a s).lif = s.lif ∧
    (mismatchTest t a s).peers = s.peers ∧
    (mismatchTest t a s).walls = s.walls ∧
    (mismatchTest t a s).claims = s.claims ∧
    (mismatchTest t a s).dlc = s.dlc ∧
    (mismatchTest t a s).floor = s.floor ∧
    (mismatchTest t a s).booth = s.booth ∧
    (mismatchTest t a s).lanes = s.lanes ∧
    (mismatchTest t a s).seats = s.seats ∧
    (mismatchTest t a s).mix = s.mix ∧
    (mismatchTest t a s).pending = s.pending ∧
    (mismatchTest t a s).port.mask = s.port.mask ∧
    (mismatchTest t a s).port.response = s.port.response ∧
    (mismatchTest t a s).port.shifted = s.port.shifted := by
  simp [mismatchTest]

/-- forgetCommand changes no other block than room. -/
@[simp] theorem forgetCommand_keeps (t : Nat) (s : State) :
    (forgetCommand t s).station = s.station ∧
    (forgetCommand t s).lif = s.lif ∧
    (forgetCommand t s).peers = s.peers ∧
    (forgetCommand t s).walls = s.walls ∧
    (forgetCommand t s).claims = s.claims ∧
    (forgetCommand t s).dlc = s.dlc ∧
    (forgetCommand t s).floor = s.floor ∧
    (forgetCommand t s).booth = s.booth ∧
    (forgetCommand t s).lanes = s.lanes ∧
    (forgetCommand t s).seats = s.seats ∧
    (forgetCommand t s).mix = s.mix ∧
    (forgetCommand t s).port = s.port ∧
    (forgetCommand t s).pending = s.pending := by
  simp [forgetCommand]

/-- noteLeft changes no other block than booth. -/
@[simp] theorem noteLeft_keeps (t : Nat) (a : Announcement) (s : State) :
    (noteLeft t a s).station = s.station ∧
    (noteLeft t a s).lif = s.lif ∧
    (noteLeft t a s).peers = s.peers ∧
    (noteLeft t a s).walls = s.walls ∧
    (noteLeft t a s).room = s.room ∧
    (noteLeft t a s).claims = s.claims ∧
    (noteLeft t a s).dlc = s.dlc ∧
    (noteLeft t a s).floor = s.floor ∧
    (noteLeft t a s).lanes = s.lanes ∧
    (noteLeft t a s).seats = s.seats ∧
    (noteLeft t a s).mix = s.mix ∧
    (noteLeft t a s).port = s.port ∧
    (noteLeft t a s).pending = s.pending := by
  simp only [noteLeft]
  split <;> simp

/-- peerArrival changes no other block than booth, claims, dlc, flags, floor, lanes, peers, room. -/
@[simp] theorem peerArrival_keeps (t : Nat) (a : Announcement) (s : State) :
    (peerArrival t a s).station = s.station ∧
    (peerArrival t a s).lif = s.lif ∧
    (peerArrival t a s).walls = s.walls ∧
    (peerArrival t a s).seats = s.seats ∧
    (peerArrival t a s).mix = s.mix ∧
    (peerArrival t a s).pending = s.pending ∧
    (peerArrival t a s).port.mask = s.port.mask ∧
    (peerArrival t a s).port.response = s.port.response ∧
    (peerArrival t a s).port.shifted = s.port.shifted := by
  simp [peerArrival]

/-- losePeer changes no other block than booth, claims, flags, floor, lanes, peers, room. -/
@[simp] theorem losePeer_keeps (t : Nat) (s : State) :
    (losePeer t s).station = s.station ∧
    (losePeer t s).lif = s.lif ∧
    (losePeer t s).walls = s.walls ∧
    (losePeer t s).dlc = s.dlc ∧
    (losePeer t s).seats = s.seats ∧
    (losePeer t s).mix = s.mix ∧
    (losePeer t s).pending = s.pending ∧
    (losePeer t s).port.mask = s.port.mask ∧
    (losePeer t s).port.response = s.port.response ∧
    (losePeer t s).port.shifted = s.port.shifted := by
  simp [losePeer]

/-- peerMissing changes no other block than booth, claims, flags, floor, lanes, peers, room. -/
@[simp] theorem peerMissing_keeps (t : Nat) (s : State) :
    (peerMissing t s).station = s.station ∧
    (peerMissing t s).lif = s.lif ∧
    (peerMissing t s).walls = s.walls ∧
    (peerMissing t s).dlc = s.dlc ∧
    (peerMissing t s).seats = s.seats ∧
    (peerMissing t s).mix = s.mix ∧
    (peerMissing t s).pending = s.pending ∧
    (peerMissing t s).port.mask = s.port.mask ∧
    (peerMissing t s).port.response = s.port.response ∧
    (peerMissing t s).port.shifted = s.port.shifted := by
  simp only [peerMissing]
  repeat' split
  all_goals simp

/-- takeSlot changes no other block than lif. -/
@[simp] theorem takeSlot_keeps (s : State) :
    (takeSlot s).station = s.station ∧
    (takeSlot s).peers = s.peers ∧
    (takeSlot s).walls = s.walls ∧
    (takeSlot s).room = s.room ∧
    (takeSlot s).claims = s.claims ∧
    (takeSlot s).dlc = s.dlc ∧
    (takeSlot s).floor = s.floor ∧
    (takeSlot s).booth = s.booth ∧
    (takeSlot s).lanes = s.lanes ∧
    (takeSlot s).seats = s.seats ∧
    (takeSlot s).mix = s.mix ∧
    (takeSlot s).port = s.port ∧
    (takeSlot s).pending = s.pending := by
  simp [takeSlot]

/-- slotCloseOp changes no other block than booth, claims, dlc, flags, floor, lanes, lif, peers, room. -/
@[simp] theorem slotCloseOp_keeps (t : Nat) (s : State) :
    (slotCloseOp t s).station = s.station ∧
    (slotCloseOp t s).walls = s.walls ∧
    (slotCloseOp t s).seats = s.seats ∧
    (slotCloseOp t s).mix = s.mix ∧
    (slotCloseOp t s).pending = s.pending ∧
    (slotCloseOp t s).port.mask = s.port.mask ∧
    (slotCloseOp t s).port.response = s.port.response ∧
    (slotCloseOp t s).port.shifted = s.port.shifted := by
  simp only [slotCloseOp]
  repeat' split
  all_goals simp

/-- peerLossOp changes no other block than booth, claims, flags, floor, lanes, lif, peers, room. -/
@[simp] theorem peerLossOp_keeps (t : Nat) (s : State) :
    (peerLossOp t s).station = s.station ∧
    (peerLossOp t s).walls = s.walls ∧
    (peerLossOp t s).dlc = s.dlc ∧
    (peerLossOp t s).seats = s.seats ∧
    (peerLossOp t s).mix = s.mix ∧
    (peerLossOp t s).pending = s.pending ∧
    (peerLossOp t s).port.mask = s.port.mask ∧
    (peerLossOp t s).port.response = s.port.response ∧
    (peerLossOp t s).port.shifted = s.port.shifted := by
  simp [peerLossOp]

end Sys2Proof.Machine
end

