-- ==== Sys2Proof/Laws/FramePort.lean ====
section
/-! SUPPORT. Frame lemmas: for each operation of the walls and the management port, the blocks it leaves as they
are. -/

namespace Sys2Proof.Machine

/-- setWall changes no other block than walls. -/
@[simp] theorem setWall_keeps (x : Nat) (w : Wall) (s : State) :
    (setWall x w s).station = s.station ∧
    (setWall x w s).lif = s.lif ∧
    (setWall x w s).peers = s.peers ∧
    (setWall x w s).room = s.room ∧
    (setWall x w s).claims = s.claims ∧
    (setWall x w s).dlc = s.dlc ∧
    (setWall x w s).floor = s.floor ∧
    (setWall x w s).booth = s.booth ∧
    (setWall x w s).lanes = s.lanes ∧
    (setWall x w s).seats = s.seats ∧
    (setWall x w s).mix = s.mix ∧
    (setWall x w s).port = s.port ∧
    (setWall x w s).pending = s.pending := by
  simp [setWall]

/-- handWallOn changes no other block than booth, claims, flags, floor, lanes, room. -/
@[simp] theorem handWallOn_keeps (before after : Wall) (s : State) :
    (handWallOn before after s).station = s.station ∧
    (handWallOn before after s).lif = s.lif ∧
    (handWallOn before after s).peers = s.peers ∧
    (handWallOn before after s).walls = s.walls ∧
    (handWallOn before after s).dlc = s.dlc ∧
    (handWallOn before after s).seats = s.seats ∧
    (handWallOn before after s).mix = s.mix ∧
    (handWallOn before after s).pending = s.pending ∧
    (handWallOn before after s).port.mask = s.port.mask ∧
    (handWallOn before after s).port.response = s.port.response ∧
    (handWallOn before after s).port.shifted = s.port.shifted := by
  simp [handWallOn]

/-- adoptWall changes no other block than booth, claims, flags, floor, lanes, room, walls. -/
@[simp] theorem adoptWall_keeps (x : Nat) (c : WallState) (s : State) :
    (adoptWall x c s).station = s.station ∧
    (adoptWall x c s).lif = s.lif ∧
    (adoptWall x c s).peers = s.peers ∧
    (adoptWall x c s).dlc = s.dlc ∧
    (adoptWall x c s).seats = s.seats ∧
    (adoptWall x c s).mix = s.mix ∧
    (adoptWall x c s).pending = s.pending ∧
    (adoptWall x c s).port.mask = s.port.mask ∧
    (adoptWall x c s).port.response = s.port.response ∧
    (adoptWall x c s).port.shifted = s.port.shifted := by
  simp [adoptWall]

/-- evaluateWall changes no other block than booth, claims, flags, floor, lanes, room, walls. -/
@[simp] theorem evaluateWall_keeps (x : Nat) (d : WallState × Bool) (s : State) :
    (evaluateWall x d s).station = s.station ∧
    (evaluateWall x d s).lif = s.lif ∧
    (evaluateWall x d s).peers = s.peers ∧
    (evaluateWall x d s).dlc = s.dlc ∧
    (evaluateWall x d s).seats = s.seats ∧
    (evaluateWall x d s).mix = s.mix ∧
    (evaluateWall x d s).pending = s.pending ∧
    (evaluateWall x d s).port.mask = s.port.mask ∧
    (evaluateWall x d s).port.response = s.port.response ∧
    (evaluateWall x d s).port.shifted = s.port.shifted := by
  simp only [evaluateWall]
  repeat' split
  all_goals simp

/-- sampleWall changes no other block than booth, claims, flags, floor, lanes, room, walls. -/
@[simp] theorem sampleWall_keeps (sample : Bool × Bool) (x : Nat) (s : State) :
    (sampleWall sample x s).station = s.station ∧
    (sampleWall sample x s).lif = s.lif ∧
    (sampleWall sample x s).peers = s.peers ∧
    (sampleWall sample x s).dlc = s.dlc ∧
    (sampleWall sample x s).seats = s.seats ∧
    (sampleWall sample x s).mix = s.mix ∧
    (sampleWall sample x s).pending = s.pending ∧
    (sampleWall sample x s).port.mask = s.port.mask ∧
    (sampleWall sample x s).port.response = s.port.response ∧
    (sampleWall sample x s).port.shifted = s.port.shifted := by
  simp only [sampleWall]
  repeat' split
  all_goals simp

/-- wallSampleOp changes no other block than booth, claims, flags, floor, lanes, room, walls. -/
@[simp] theorem wallSampleOp_keeps (closed opened : BitVec 4) (s : State) :
    (wallSampleOp closed opened s).station = s.station ∧
    (wallSampleOp closed opened s).lif = s.lif ∧
    (wallSampleOp closed opened s).peers = s.peers ∧
    (wallSampleOp closed opened s).dlc = s.dlc ∧
    (wallSampleOp closed opened s).seats = s.seats ∧
    (wallSampleOp closed opened s).mix = s.mix ∧
    (wallSampleOp closed opened s).pending = s.pending ∧
    (wallSampleOp closed opened s).port.mask = s.port.mask ∧
    (wallSampleOp closed opened s).port.response = s.port.response ∧
    (wallSampleOp closed opened s).port.shifted = s.port.shifted := by
  simp [wallSampleOp]

/-- wallAdoptionOp changes no other block than booth, claims, flags, floor, lanes, room, walls. -/
@[simp] theorem wallAdoptionOp_keeps (x : Nat) (s : State) :
    (wallAdoptionOp x s).station = s.station ∧
    (wallAdoptionOp x s).lif = s.lif ∧
    (wallAdoptionOp x s).peers = s.peers ∧
    (wallAdoptionOp x s).dlc = s.dlc ∧
    (wallAdoptionOp x s).seats = s.seats ∧
    (wallAdoptionOp x s).mix = s.mix ∧
    (wallAdoptionOp x s).pending = s.pending ∧
    (wallAdoptionOp x s).port.mask = s.port.mask ∧
    (wallAdoptionOp x s).port.response = s.port.response ∧
    (wallAdoptionOp x s).port.shifted = s.port.shifted := by
  simp only [wallAdoptionOp]
  repeat' split
  all_goals simp

/-- overrideWall changes no other block than booth, claims, flags, floor, lanes, room, walls. -/
@[simp] theorem overrideWall_keeps (x : Nat) (o : WallOverride) (s : State) :
    (overrideWall x o s).station = s.station ∧
    (overrideWall x o s).lif = s.lif ∧
    (overrideWall x o s).peers = s.peers ∧
    (overrideWall x o s).dlc = s.dlc ∧
    (overrideWall x o s).seats = s.seats ∧
    (overrideWall x o s).mix = s.mix ∧
    (overrideWall x o s).pending = s.pending ∧
    (overrideWall x o s).port.mask = s.port.mask ∧
    (overrideWall x o s).port.response = s.port.response ∧
    (overrideWall x o s).port.shifted = s.port.shifted := by
  simp [overrideWall]

/-- respond changes no other block than port. -/
@[simp] theorem respond_keeps (command : Byte) (code : ResponseCode) (data : ResponseData) (s : State) :
    (respond command code data s).station = s.station ∧
    (respond command code data s).lif = s.lif ∧
    (respond command code data s).peers = s.peers ∧
    (respond command code data s).walls = s.walls ∧
    (respond command code data s).room = s.room ∧
    (respond command code data s).claims = s.claims ∧
    (respond command code data s).dlc = s.dlc ∧
    (respond command code data s).floor = s.floor ∧
    (respond command code data s).booth = s.booth ∧
    (respond command code data s).lanes = s.lanes ∧
    (respond command code data s).seats = s.seats ∧
    (respond command code data s).mix = s.mix ∧
    (respond command code data s).pending = s.pending := by
  simp [respond]

/-- answer changes no other block than port. -/
@[simp] theorem answer_keeps (command : Byte) (code : ResponseCode) (s : State) :
    (answer command code s).station = s.station ∧
    (answer command code s).lif = s.lif ∧
    (answer command code s).peers = s.peers ∧
    (answer command code s).walls = s.walls ∧
    (answer command code s).room = s.room ∧
    (answer command code s).claims = s.claims ∧
    (answer command code s).dlc = s.dlc ∧
    (answer command code s).floor = s.floor ∧
    (answer command code s).booth = s.booth ∧
    (answer command code s).lanes = s.lanes ∧
    (answer command code s).seats = s.seats ∧
    (answer command code s).mix = s.mix ∧
    (answer command code s).pending = s.pending := by
  simp [answer]

/-- loadConfigOp changes no other block than booth, claims, flags, floor, lanes, lif, port, room, station, walls. -/
@[simp] theorem loadConfigOp_keeps (record : List Byte) (s : State) :
    (loadConfigOp record s).peers = s.peers ∧
    (loadConfigOp record s).dlc = s.dlc ∧
    (loadConfigOp record s).seats = s.seats ∧
    (loadConfigOp record s).mix = s.mix ∧
    (loadConfigOp record s).pending = s.pending := by
  simp only [loadConfigOp]
  repeat' split
  all_goals simp

/-- restartOp changes no other block than booth, claims, dlc, flags, floor, lanes, lif, mix, peers, port, room, seats, station. -/
@[simp] theorem restartOp_keeps (s : State) :
    (restartOp s).walls = s.walls ∧
    (restartOp s).pending = s.pending := by
  simp [restartOp]

/-- clearClip changes no other block than mix. -/
@[simp] theorem clearClip_keeps (kind : Nat) (s : State) :
    (clearClip kind s).station = s.station ∧
    (clearClip kind s).lif = s.lif ∧
    (clearClip kind s).peers = s.peers ∧
    (clearClip kind s).walls = s.walls ∧
    (clearClip kind s).room = s.room ∧
    (clearClip kind s).claims = s.claims ∧
    (clearClip kind s).dlc = s.dlc ∧
    (clearClip kind s).floor = s.floor ∧
    (clearClip kind s).booth = s.booth ∧
    (clearClip kind s).lanes = s.lanes ∧
    (clearClip kind s).seats = s.seats ∧
    (clearClip kind s).port = s.port ∧
    (clearClip kind s).pending = s.pending := by
  simp [clearClip]

/-- readRecordOp changes no other block than mix, port. -/
@[simp] theorem readRecordOp_keeps (kind index : Byte) (s : State) :
    (readRecordOp kind index s).station = s.station ∧
    (readRecordOp kind index s).lif = s.lif ∧
    (readRecordOp kind index s).peers = s.peers ∧
    (readRecordOp kind index s).walls = s.walls ∧
    (readRecordOp kind index s).room = s.room ∧
    (readRecordOp kind index s).claims = s.claims ∧
    (readRecordOp kind index s).dlc = s.dlc ∧
    (readRecordOp kind index s).floor = s.floor ∧
    (readRecordOp kind index s).booth = s.booth ∧
    (readRecordOp kind index s).lanes = s.lanes ∧
    (readRecordOp kind index s).seats = s.seats ∧
    (readRecordOp kind index s).pending = s.pending := by
  simp only [readRecordOp]
  repeat' split
  all_goals simp

/-- readEventsOp changes no other block than port. -/
@[simp] theorem readEventsOp_keeps (s : State) :
    (readEventsOp s).station = s.station ∧
    (readEventsOp s).lif = s.lif ∧
    (readEventsOp s).peers = s.peers ∧
    (readEventsOp s).walls = s.walls ∧
    (readEventsOp s).room = s.room ∧
    (readEventsOp s).claims = s.claims ∧
    (readEventsOp s).dlc = s.dlc ∧
    (readEventsOp s).floor = s.floor ∧
    (readEventsOp s).booth = s.booth ∧
    (readEventsOp s).lanes = s.lanes ∧
    (readEventsOp s).seats = s.seats ∧
    (readEventsOp s).mix = s.mix ∧
    (readEventsOp s).pending = s.pending := by
  simp [readEventsOp]

/-- clearEventsOp changes no other block than port. -/
@[simp] theorem clearEventsOp_keeps (mask : BitVec 16) (s : State) :
    (clearEventsOp mask s).station = s.station ∧
    (clearEventsOp mask s).lif = s.lif ∧
    (clearEventsOp mask s).peers = s.peers ∧
    (clearEventsOp mask s).walls = s.walls ∧
    (clearEventsOp mask s).room = s.room ∧
    (clearEventsOp mask s).claims = s.claims ∧
    (clearEventsOp mask s).dlc = s.dlc ∧
    (clearEventsOp mask s).floor = s.floor ∧
    (clearEventsOp mask s).booth = s.booth ∧
    (clearEventsOp mask s).lanes = s.lanes ∧
    (clearEventsOp mask s).seats = s.seats ∧
    (clearEventsOp mask s).mix = s.mix ∧
    (clearEventsOp mask s).pending = s.pending := by
  simp [clearEventsOp]

/-- setEventMaskOp changes no other block than port. -/
@[simp] theorem setEventMaskOp_keeps (mask : BitVec 16) (s : State) :
    (setEventMaskOp mask s).station = s.station ∧
    (setEventMaskOp mask s).lif = s.lif ∧
    (setEventMaskOp mask s).peers = s.peers ∧
    (setEventMaskOp mask s).walls = s.walls ∧
    (setEventMaskOp mask s).room = s.room ∧
    (setEventMaskOp mask s).claims = s.claims ∧
    (setEventMaskOp mask s).dlc = s.dlc ∧
    (setEventMaskOp mask s).floor = s.floor ∧
    (setEventMaskOp mask s).booth = s.booth ∧
    (setEventMaskOp mask s).lanes = s.lanes ∧
    (setEventMaskOp mask s).seats = s.seats ∧
    (setEventMaskOp mask s).mix = s.mix ∧
    (setEventMaskOp mask s).pending = s.pending := by
  simp [setEventMaskOp]

/-- issueRoomCommandOp changes no other block than port, room. -/
@[simp] theorem issueRoomCommandOp_keeps (kind argument : Byte) (s : State) :
    (issueRoomCommandOp kind argument s).station = s.station ∧
    (issueRoomCommandOp kind argument s).lif = s.lif ∧
    (issueRoomCommandOp kind argument s).peers = s.peers ∧
    (issueRoomCommandOp kind argument s).walls = s.walls ∧
    (issueRoomCommandOp kind argument s).claims = s.claims ∧
    (issueRoomCommandOp kind argument s).dlc = s.dlc ∧
    (issueRoomCommandOp kind argument s).floor = s.floor ∧
    (issueRoomCommandOp kind argument s).booth = s.booth ∧
    (issueRoomCommandOp kind argument s).lanes = s.lanes ∧
    (issueRoomCommandOp kind argument s).seats = s.seats ∧
    (issueRoomCommandOp kind argument s).mix = s.mix ∧
    (issueRoomCommandOp kind argument s).pending = s.pending := by
  simp only [issueRoomCommandOp]
  repeat' split
  all_goals simp

/-- setWallOverrideOp changes no other block than booth, claims, flags, floor, lanes, port, room, walls. -/
@[simp] theorem setWallOverrideOp_keeps (input setting : Byte) (s : State) :
    (setWallOverrideOp input setting s).station = s.station ∧
    (setWallOverrideOp input setting s).lif = s.lif ∧
    (setWallOverrideOp input setting s).peers = s.peers ∧
    (setWallOverrideOp input setting s).dlc = s.dlc ∧
    (setWallOverrideOp input setting s).seats = s.seats ∧
    (setWallOverrideOp input setting s).mix = s.mix ∧
    (setWallOverrideOp input setting s).pending = s.pending := by
  simp only [setWallOverrideOp]
  repeat' split
  all_goals simp

/-- closeSeatOp changes no other block than claims, floor, port. -/
@[simp] theorem closeSeatOp_keeps (seat : Byte) (s : State) :
    (closeSeatOp seat s).station = s.station ∧
    (closeSeatOp seat s).lif = s.lif ∧
    (closeSeatOp seat s).peers = s.peers ∧
    (closeSeatOp seat s).walls = s.walls ∧
    (closeSeatOp seat s).room = s.room ∧
    (closeSeatOp seat s).dlc = s.dlc ∧
    (closeSeatOp seat s).booth = s.booth ∧
    (closeSeatOp seat s).lanes = s.lanes ∧
    (closeSeatOp seat s).seats = s.seats ∧
    (closeSeatOp seat s).mix = s.mix ∧
    (closeSeatOp seat s).pending = s.pending := by
  simp [closeSeatOp]

/-- cancelRequestOp changes no other block than claims, floor, port. -/
@[simp] theorem cancelRequestOp_keeps (seat : Byte) (s : State) :
    (cancelRequestOp seat s).station = s.station ∧
    (cancelRequestOp seat s).lif = s.lif ∧
    (cancelRequestOp seat s).peers = s.peers ∧
    (cancelRequestOp seat s).walls = s.walls ∧
    (cancelRequestOp seat s).room = s.room ∧
    (cancelRequestOp seat s).dlc = s.dlc ∧
    (cancelRequestOp seat s).booth = s.booth ∧
    (cancelRequestOp seat s).lanes = s.lanes ∧
    (cancelRequestOp seat s).seats = s.seats ∧
    (cancelRequestOp seat s).mix = s.mix ∧
    (cancelRequestOp seat s).pending = s.pending := by
  simp [cancelRequestOp]

/-- emptyTransactionOp changes no other block than port. -/
@[simp] theorem emptyTransactionOp_keeps (s : State) :
    (emptyTransactionOp s).station = s.station ∧
    (emptyTransactionOp s).lif = s.lif ∧
    (emptyTransactionOp s).peers = s.peers ∧
    (emptyTransactionOp s).walls = s.walls ∧
    (emptyTransactionOp s).room = s.room ∧
    (emptyTransactionOp s).claims = s.claims ∧
    (emptyTransactionOp s).dlc = s.dlc ∧
    (emptyTransactionOp s).floor = s.floor ∧
    (emptyTransactionOp s).booth = s.booth ∧
    (emptyTransactionOp s).lanes = s.lanes ∧
    (emptyTransactionOp s).seats = s.seats ∧
    (emptyTransactionOp s).mix = s.mix ∧
    (emptyTransactionOp s).pending = s.pending := by
  simp [emptyTransactionOp]

/-- badFrameOp changes no other block than port. -/
@[simp] theorem badFrameOp_keeps (frame : List Byte) (s : State) :
    (badFrameOp frame s).station = s.station ∧
    (badFrameOp frame s).lif = s.lif ∧
    (badFrameOp frame s).peers = s.peers ∧
    (badFrameOp frame s).walls = s.walls ∧
    (badFrameOp frame s).room = s.room ∧
    (badFrameOp frame s).claims = s.claims ∧
    (badFrameOp frame s).dlc = s.dlc ∧
    (badFrameOp frame s).floor = s.floor ∧
    (badFrameOp frame s).booth = s.booth ∧
    (badFrameOp frame s).lanes = s.lanes ∧
    (badFrameOp frame s).seats = s.seats ∧
    (badFrameOp frame s).mix = s.mix ∧
    (badFrameOp frame s).pending = s.pending := by
  simp only [badFrameOp]
  repeat' split
  all_goals simp

end Sys2Proof.Machine
end

