-- ==== Sys2Proof/Laws/State.lean ====
section
/-! SUPPORT. What the updates of the state leave behind: for each shared operation the table it writes, and what reading
an entry back gives. The blocks an operation leaves alone are in the Frame files. -/

namespace Sys2Proof.Machine

/-! ### Bits sampled three times -/

/-- A bit has the value that at least two of its samples have. -/
theorem majority_iff (a b c : Bool) : majority a b c = true ↔ a = true ∧ b = true ∨ a = true ∧ c = true ∨ b = true ∧ c = true := by
  revert a b c
  decide

/-- Bit i of a field is the majority of the three samples of that bit. -/
@[simp] theorem fieldValue_getLsbD {w : Nat} (x : Thrice (BitVec w)) (i : Nat) :
    (fieldValue x).getLsbD i = majority (x.first.getLsbD i) (x.second.getLsbD i) (x.third.getLsbD i) := by
  simp [fieldValue, majority]

/-- The three samples of a field agree exactly where the field is one value sampled three times. -/
theorem agreed_iff {α : Type} [DecidableEq α] (x : Thrice α) : agreed x = true ↔ x = .same x.first := by
  obtain ⟨a, b, c⟩ := x
  simp only [agreed, Thrice.same, Bool.and_eq_true, beq_iff_eq, Thrice.mk.injEq]
  exact ⟨fun ⟨h, k⟩ => ⟨trivial, h.symm, (h.trans k).symm⟩, fun ⟨_, h, k⟩ => ⟨h.symm, h.trans k.symm⟩⟩

/-- A bit whose samples agree has their value. -/
@[simp] theorem bitValue_same (b : Bool) : bitValue (.same b) = b := by cases b <;> rfl

/-- A field whose samples agree has their value. -/
@[simp] theorem fieldValue_same {w : Nat} (x : BitVec w) : fieldValue (.same x) = x := by simp [fieldValue, Thrice.same]

/-! ### Lists in order -/

/-- Inserting keeps every element and adds one. -/
theorem insertBy_perm {α : Type} (before : α → α → Bool) (x : α) (xs : List α) : (insertBy before x xs).Perm (x :: xs) := by
  induction xs with
  | nil => exact List.Perm.refl _
  | cons y ys ih =>
    unfold insertBy
    split
    · exact (ih.cons y).trans (List.Perm.swap x y ys)
    · exact List.Perm.refl _

/-- Sorting permutes. -/
theorem sortBy_perm {α : Type} (before : α → α → Bool) (xs : List α) : (sortBy before xs).Perm xs := by
  induction xs with
  | nil => exact List.Perm.refl _
  | cons x xs ih => exact (insertBy_perm before x _).trans (ih.cons x)

/-- A sorted list holds what the list held. -/
@[simp] theorem mem_sortBy {α : Type} (before : α → α → Bool) (xs : List α) (a : α) : a ∈ sortBy before xs ↔ a ∈ xs :=
  (sortBy_perm before xs).mem_iff

/-- A sorted list is as long as the list. -/
@[simp] theorem length_sortBy {α : Type} (before : α → α → Bool) (xs : List α) : (sortBy before xs).length = xs.length :=
  (sortBy_perm before xs).length_eq

/-- Inserting into a list in order gives a list in order, when the order is transitive and total as `before` says it:
no element comes before one that comes before it or before one that it does not come before. -/
theorem insertBy_ordered {α : Type} (before : α → α → Bool)
    (anti : ∀ a b, before a b = true → before b a = false)
    (trans : ∀ a b c, before b a = false → before c b = false → before c a = false) (x : α) (xs : List α)
    (h : xs.Pairwise (fun a b => before b a = false)) :
    (insertBy before x xs).Pairwise (fun a b => before b a = false) := by
  induction xs with
  | nil => exact List.pairwise_singleton _ x
  | cons y ys ih =>
    obtain ⟨hy, hys⟩ := List.pairwise_cons.mp h
    unfold insertBy
    split
    · next hb =>
      refine List.pairwise_cons.mpr ⟨fun z hz => ?_, ih hys⟩
      rcases List.mem_cons.mp ((insertBy_perm before x ys).mem_iff.mp hz) with rfl | hz
      · exact anti y z hb
      · exact hy z hz
    · next hb =>
      have hb : before y x = false := by simpa using hb
      exact List.pairwise_cons.mpr ⟨fun z hz => by
        rcases List.mem_cons.mp hz with rfl | hz
        · exact hb
        · exact trans x y z hb (hy z hz), h⟩

/-- A sorted list is in order. -/
theorem sortBy_ordered {α : Type} (before : α → α → Bool)
    (anti : ∀ a b, before a b = true → before b a = false)
    (trans : ∀ a b c, before b a = false → before c b = false → before c a = false) (xs : List α) :
    (sortBy before xs).Pairwise (fun a b => before b a = false) := by
  induction xs with
  | nil => exact List.Pairwise.nil
  | cons x xs ih => exact insertBy_ordered before anti trans x _ ih

/-- A number is in the list after its insertion, and no other one comes in. -/
@[simp] theorem mem_insertNat (n m : Nat) (xs : List Nat) : m ∈ insertNat n xs ↔ m = n ∨ m ∈ xs := by
  unfold insertNat
  split
  · next h => exact ⟨Or.inr, fun h' => h'.elim (fun e => e ▸ (List.contains_iff_mem.mp h)) id⟩
  · exact (insertBy_perm _ n xs).mem_iff.trans List.mem_cons

/-! ### Flags -/

/-- The flags after raising one: bit n is set when it was, or when it is that flag's. -/
@[simp] theorem raise_flags (f : EventFlag) (s : State) :
    (raise f s).port.flags = s.port.flags ||| BitVec.twoPow 16 (flagBit f) := rfl

/-- A raised flag is set. -/
theorem raise_sets (f : EventFlag) (s : State) : flagSet (raise f s) f = true := by cases f <;> simp [flagSet, flagBit]

/-- Raising sets no other flag and clears none. -/
theorem raise_getLsbD (f : EventFlag) (s : State) (n : Nat) :
    (raise f s).port.flags.getLsbD n = true ↔ s.port.flags.getLsbD n = true ∨ n = flagBit f := by
  have hf : flagBit f < 16 := by cases f <;> decide
  simp only [raise_flags, BitVec.getLsbD_or, BitVec.getLsbD_twoPow, Bool.or_eq_true, Bool.and_eq_true, decide_eq_true_eq]
  exact or_congr_right ⟨fun h => h.2.symm, fun h => ⟨by omega, h.symm⟩⟩

/-- ClearEvents clears the flags it names. -/
@[simp] theorem clearFlags_flags (mask : BitVec 16) (s : State) : (clearFlags mask s).port.flags = s.port.flags &&& ~~~mask := rfl

/-- SetEventMask replaces the mask. -/
@[simp] theorem setMask_mask (mask : BitVec 16) (s : State) : (setMask mask s).port.mask = mask := rfl

/-! ### Unit table and uplink channels -/

/-- Reading a unit after a change of one: that one is changed, every other is as it was. -/
theorem unitOf_modifyUnit (a b : Nat) (f : UnitEntry → UnitEntry) (s : State) (ha : 1 ≤ a) (hb : 1 ≤ b)
    (h : a ≤ s.dlc.units.length) :
    unitOf (modifyUnit a f s) b = if b = a then f (unitOf s a) else unitOf s b := by
  have h0 : a ≠ 0 := by omega
  have h1 : b ≠ 0 := by omega
  unfold unitOf modifyUnit
  simp only [h0, h1, if_false, List.getD_eq_getElem?_getD, List.getElem?_modify]
  by_cases hab : b = a
  · subst hab
    have h2 : b - 1 < s.dlc.units.length := by omega
    simp [h2]
  · have h2 : a - 1 ≠ b - 1 := by omega
    simp [hab, h2]

/-- A change of a unit keeps the number of units. -/
@[simp] theorem modifyUnit_length (a : Nat) (f : UnitEntry → UnitEntry) (s : State) :
    (modifyUnit a f s).dlc.units.length = s.dlc.units.length := by unfold modifyUnit; split <;> simp

/-- A change of a unit keeps the uplink channels. -/
@[simp] theorem modifyUnit_uplinks (a : Nat) (f : UnitEntry → UnitEntry) (s : State) :
    (modifyUnit a f s).dlc.uplinks = s.dlc.uplinks := by unfold modifyUnit; split <;> rfl

/-- The uplink channels after one is set. -/
@[simp] theorem setUplink_uplinks (channel : Nat) (seat : Option Nat) (s : State) :
    (setUplink channel seat s).dlc.uplinks = s.dlc.uplinks.set channel seat := rfl

/-- Setting an uplink channel keeps the units. -/
@[simp] theorem setUplink_units (channel : Nat) (seat : Option Nat) (s : State) :
    (setUplink channel seat s).dlc.units = s.dlc.units := rfl

/-- The uplink channel that a search finds is Free, and it is the lowest such. -/
theorem freeUplink_spec (s : State) (c : Nat) :
    freeUplink s = some c ↔ s.dlc.uplinks[c]? = some none ∧ ∀ k < c, ∃ seat, s.dlc.uplinks[k]? = some (some seat) := by
  unfold freeUplink
  rw [List.findIdx?_eq_some_iff_getElem]
  constructor
  · rintro ⟨hc, h1, h2⟩
    refine ⟨by rw [List.getElem?_eq_getElem hc]; simpa using h1, fun k hk => ?_⟩
    have := h2 k hk
    have hk' : k < s.dlc.uplinks.length := by omega
    rw [List.getElem?_eq_getElem hk']
    cases he : s.dlc.uplinks[k] with
    | none => simp [he] at this
    | some seat => exact ⟨seat, rfl⟩
  · rintro ⟨h1, h2⟩
    obtain ⟨hc, he⟩ := List.getElem?_eq_some_iff.mp h1
    refine ⟨hc, by simp [he], fun k hk => ?_⟩
    obtain ⟨seat, hs⟩ := h2 k hk
    obtain ⟨_, he'⟩ := List.getElem?_eq_some_iff.mp hs
    simp [he']

/-! ### Claims and wants -/

/-- A withdrawal mark makes no entry a Hold and no Hold an Intent. -/
@[simp] theorem isIntent_markStage (x : Stage) : isIntent (markStage x) = isIntent x := by cases x <;> rfl

/-- No marked entry is live. -/
@[simp] theorem isLiveIntent_markStage (x : Stage) : isLiveIntent (markStage x) = false := by cases x <;> rfl

/-- A marked entry is a Hold when it was one. -/
@[simp] theorem markStage_eq_hold (x : Stage) : markStage x = .hold ↔ x = .hold := by cases x <;> simp [markStage]

/-- The wants a withdrawal for a seat leaves. -/
@[simp] theorem withdrawSeat_placeWants (every : Bool) (seat : Nat) (s : State) :
    (withdrawSeat every seat s).claims.placeWants =
      s.claims.placeWants.filter (fun w => !(w.seat == seat && (every || counted w.cls))) := rfl

/-- The claims a withdrawal for a seat leaves. -/
@[simp] theorem withdrawSeat_places (every : Bool) (seat : Nat) (s : State) :
    (withdrawSeat every seat s).claims.places = s.claims.places.map (fun c =>
      if c.seat == seat && (every || counted c.cls) then { c with stage := markStage c.stage } else c) := rfl

/-- A withdrawal for a seat keeps the language claims. -/
@[simp] theorem withdrawSeat_languages (every : Bool) (seat : Nat) (s : State) :
    (withdrawSeat every seat s).claims.languages = s.claims.languages := rfl

/-- A withdrawal for a seat keeps the language wants. -/
@[simp] theorem withdrawSeat_languageWants (every : Bool) (seat : Nat) (s : State) :
    (withdrawSeat every seat s).claims.languageWants = s.claims.languageWants := rfl

/-- A withdrawal for a seat keeps the lane claims. -/
@[simp] theorem withdrawSeat_lanes (every : Bool) (seat : Nat) (s : State) :
    (withdrawSeat every seat s).claims.lanes = s.claims.lanes := rfl

/-- The wants a withdrawal for a desk leaves. -/
@[simp] theorem withdrawDesk_languageWants (desk : Nat) (s : State) :
    (withdrawDesk desk s).claims.languageWants = s.claims.languageWants.filter (fun w => w.desk != desk) := rfl

/-- The claims a withdrawal for a desk leaves. -/
@[simp] theorem withdrawDesk_languages (desk : Nat) (s : State) :
    (withdrawDesk desk s).claims.languages = s.claims.languages.map (fun c =>
      if c.desk == desk then { c with stage := markStage c.stage } else c) := rfl

/-- A withdrawal for a desk keeps the place claims. -/
@[simp] theorem withdrawDesk_places (desk : Nat) (s : State) : (withdrawDesk desk s).claims.places = s.claims.places := rfl

/-- A withdrawal for a desk keeps the lane claims. -/
@[simp] theorem withdrawDesk_lanes (desk : Nat) (s : State) : (withdrawDesk desk s).claims.lanes = s.claims.lanes := rfl

/-- After an unrestricted withdrawal no place claim of the seat is pending. -/
theorem pendingPlace_withdrawSeat (seat : Nat) (s : State) : pendingPlace (withdrawSeat true seat s) seat = false := by
  simp only [pendingPlace, withdrawSeat_placeWants, withdrawSeat_places, Bool.or_eq_false_iff, List.any_eq_false,
    List.mem_filter, List.mem_map]
  refine ⟨fun w hw => by simpa using hw.2, ?_⟩
  rintro x ⟨c, -, rfl⟩
  by_cases h : c.seat = seat <;> simp [h]

/-- Filing a place want: refused while Unconfigured, dropped while the seat has a live claim, else filed once. -/
theorem filePlaceWant_cases (w : PlaceWant) (s : State) :
    (s.station.state = .unconfigured ∧ filePlaceWant w s = if w.origin = .press then refusePress w.seat s else s) ∨
    (s.station.state ≠ .unconfigured ∧ (∃ c ∈ s.claims.places, c.seat = w.seat ∧ c.stage ≠ .intent true) ∧
      filePlaceWant w s = s) ∨
    (s.station.state ≠ .unconfigured ∧ (∀ c ∈ s.claims.places, c.seat = w.seat → c.stage = .intent true) ∧
      filePlaceWant w s = { s with claims := { s.claims with
        placeWants := s.claims.placeWants.filter (fun x => x.seat != w.seat) ++ [w] } }) := by
  unfold filePlaceWant
  split
  · next h => exact .inl ⟨h, rfl⟩
  · next h =>
    split
    · next h' => exact .inr (.inl ⟨h, by simpa using h', rfl⟩)
    · next h' => exact .inr (.inr ⟨h, by simpa using h', rfl⟩)

/-- Filing a language want: the desk is engaged while Unconfigured, the want is dropped while the desk has a live claim, else
it is filed once. -/
theorem fileLanguageWant_cases (w : LanguageWant) (s : State) :
    (s.station.state = .unconfigured ∧ fileLanguageWant w s = engageDesk w.desk s) ∨
    (s.station.state ≠ .unconfigured ∧ (∃ c ∈ s.claims.languages, c.desk = w.desk ∧ c.stage ≠ .intent true) ∧
      fileLanguageWant w s = s) ∨
    (s.station.state ≠ .unconfigured ∧ (∀ c ∈ s.claims.languages, c.desk = w.desk → c.stage = .intent true) ∧
      fileLanguageWant w s = { s with claims := { s.claims with
        languageWants := s.claims.languageWants.filter (fun x => x.desk != w.desk) ++ [w] } }) := by
  unfold fileLanguageWant
  split
  · next h => exact .inl ⟨h, rfl⟩
  · next h =>
    split
    · next h' => exact .inr (.inl ⟨h, by simpa using h', rfl⟩)
    · next h' => exact .inr (.inr ⟨h, by simpa using h', rfl⟩)

/-- The place claims after the end of a seat's hold. -/
@[simp] theorem endPlaceHold_places (seat : Nat) (s : State) :
    (endPlaceHold seat s).claims.places = s.claims.places.filter (fun c => !(c.seat == seat && c.stage == .hold)) := by
  unfold endPlaceHold
  rw [foldl_claims (fun s' (c : PlaceClaim) => setUplink c.uplink none s') (fun _ _ => rfl)]

/-- The language claims after the end of a desk's hold. -/
@[simp] theorem endDeskHold_languages (e : Nat) (s : State) :
    (endDeskHold e s).claims.languages = s.claims.languages.filter (fun c => !(c.desk == e && c.stage == .hold)) := rfl

/-- The lane claims after the end of a lane's hold. -/
@[simp] theorem endLaneHold_lanes (n : Nat) (s : State) :
    (endLaneHold n s).claims.lanes = s.claims.lanes.filter (fun c => !(c.lane == n && c.stage == .hold)) := rfl

/-! ### Floor -/

/-- A closed mic: the phase alone changes, and only where it was Opening or Open. -/
theorem closed_eq (m : Mic) : closed m = { m with phase := .closing } := by
  unfold closed
  cases h : m.phase <;> simp [sounding]
  rw [← h]

/-- The mics after a close. -/
@[simp] theorem closeMics_mics (pick : Mic → Bool) (s : State) :
    (closeMics pick s).floor.mics = s.floor.mics.map (fun m => if pick m then closed m else m) := rfl

/-- A close keeps the requests. -/
@[simp] theorem closeMics_requests (pick : Mic → Bool) (s : State) : (closeMics pick s).floor.requests = s.floor.requests := rfl

/-- A close keeps the floor level. -/
@[simp] theorem closeMics_level (pick : Mic → Bool) (s : State) : (closeMics pick s).floor.level = s.floor.level := rfl

/-- The requests after one is dropped. -/
@[simp] theorem dropRequest_requests (seat : Nat) (s : State) :
    (dropRequest seat s).floor.requests = s.floor.requests.filter (fun r => r.seat != seat) := rfl

/-- Dropping a request keeps the mics. -/
@[simp] theorem dropRequest_mics (seat : Nat) (s : State) : (dropRequest seat s).floor.mics = s.floor.mics := rfl

/-! ### Desks and lanes -/

/-- Reading a desk after a change of one: that one is changed, every other is as it was. -/
theorem deskOf_modifyDesk (e x : Nat) (f : Desk → Desk) (s : State) (h : e < s.booth.desks.length) :
    deskOf (modifyDesk e f s) x = if x = e then f (deskOf s e) else deskOf s x := by
  unfold deskOf modifyDesk
  simp only [List.getD_eq_getElem?_getD, List.getElem?_modify]
  by_cases hx : x = e
  · subst hx; simp [h]
  · simp [hx, Ne.symm hx]

/-- A change of a desk keeps the number of desks. -/
@[simp] theorem modifyDesk_length (e : Nat) (f : Desk → Desk) (s : State) :
    (modifyDesk e f s).booth.desks.length = s.booth.desks.length := by simp [modifyDesk]

/-- The holdings after they are set. -/
@[simp] theorem setHoldings_holdings (hs : List Holding) (s : State) : (setHoldings hs s).lanes.holdings = hs := rfl

/-- Setting the holdings keeps the shortage set. -/
@[simp] theorem setHoldings_shortage (hs : List Holding) (s : State) :
    (setHoldings hs s).lanes.shortage = s.lanes.shortage := rfl

/-- A lane that the search finds is free and 16..63. -/
theorem lowestFreeLane_free (s : State) (n : Nat) (h : lowestFreeLane s = some n) :
    16 ≤ n ∧ n ≤ 63 ∧ laneBusy s n = false := by
  have h1 := List.find?_some h
  have h2 := List.mem_range'_1.mp (List.mem_of_find?_eq_some h)
  exact ⟨h2.1, by omega, by simpa using h1⟩

/-! ### Walls, seats and the port -/

/-- Reading a wall record after one is set. -/
theorem wallOf_setWall (x y : Nat) (w : Wall) (s : State) (h : x < s.walls.length) :
    wallOf (setWall x w s) y = if y = x then w else wallOf s y := by
  unfold wallOf setWall
  simp only [List.getD_eq_getElem?_getD, List.getElem?_set]
  by_cases hy : x = y
  · subst hy; simp [h]
  · simp [hy, Ne.symm hy]

/-- Reading an assignment after one is set. -/
theorem assignmentOf_assign (a b : Nat) (channel : Option Nat) (s : State) (ha : 1 ≤ a) (hb : 1 ≤ b)
    (h : a ≤ s.seats.assigned.length) :
    assignmentOf (assign a channel s) b = if b = a then channel else assignmentOf s b := by
  have h0 : a ≠ 0 := by omega
  have h1 : b ≠ 0 := by omega
  unfold assignmentOf assign
  simp only [h0, h1, if_false, List.getD_eq_getElem?_getD, List.getElem?_set]
  by_cases hab : b = a
  · subst hab
    have h2 : b - 1 < s.seats.assigned.length := by omega
    simp [h2]
  · have h2 : a - 1 ≠ b - 1 := by omega
    simp [hab, h2]

/-- Reading a downlink channel after one is set. -/
theorem channelOf_setChannel (c k : Nat) (d : Option Downlink) (s : State) (h : c < s.seats.channels.length) :
    channelOf (setChannel c d s) k = if k = c then d else channelOf s k := by
  unfold channelOf setChannel
  simp only [List.getD_eq_getElem?_getD, List.getElem?_set]
  by_cases hk : c = k
  · subst hk; simp [h]
  · simp [hk, Ne.symm hk]

/-- The response after a command is answered. -/
@[simp] theorem respond_response (command : Byte) (code : ResponseCode) (data : ResponseData) (s : State) :
    (respond command code data s).port.response = some ⟨command, code, data⟩ := rfl

/-- What the transaction has shifted out is the response that stood before. -/
@[simp] theorem respond_shifted (command : Byte) (code : ResponseCode) (data : ResponseData) (s : State) :
    (respond command code data s).port.shifted = s.port.response := rfl

/-- Answering keeps the flags. -/
@[simp] theorem respond_flags (command : Byte) (code : ResponseCode) (data : ResponseData) (s : State) :
    (respond command code data s).port.flags = s.port.flags := rfl

/-! ### Room -/

/-- What a recomputation puts in place before it presents anything (R29). -/
theorem recomposed_room (s : State) :
    (recomposed s).room.members = membershipOf s ∧ (recomposed s).room.head = headOf s (membershipOf s) ∧
    (recomposed s).room.adopted = adoptedUnder s (headOf s (membershipOf s)) := ⟨rfl, rfl, rfl⟩

/-- Presenting a membership change keeps membership, head and adopted context. -/
@[simp] theorem presentMembership_room (before : List Nat) (s : State) :
    (presentMembership before s).room.members = s.room.members ∧ (presentMembership before s).room.head = s.room.head ∧
    (presentMembership before s).room.adopted = s.room.adopted := by
  simp [presentMembership, markNewcomers]

/-- What a recomputation leaves in the Room Resolver (R29): the membership of the view, its head, and the context adopted
under that head. -/
theorem recompute_room (s : State) :
    (recompute s).room.members = membershipOf s ∧ (recompute s).room.head = headOf s (membershipOf s) ∧
    (recompute s).room.adopted = adoptedUnder s (headOf s (membershipOf s)) := by
  unfold recompute
  simp only [presentContextChange_keeps]
  split <;> simp [recomposed_room]

/-- A change of membership raises RoomChanged (R30), and no recomputation clears a flag. -/
theorem presentMembership_raises (before : List Nat) (s : State) :
    (presentMembership before s).port.flags = (raise .roomChanged s).port.flags := by
  simp [presentMembership]

/-! ### What a listener takes -/

/-- From an own producing desk a listener takes the language sample (R121). -/
theorem listenerSample_ownDesk (s : State) (l e : Nat) (h : plannedSource s.mix.plan l = .ownDesk e) :
    listenerSample s l = languageSample s l := by
  simp [listenerSample, h]

/-- From lane n a listener takes what the LIF delivers of it (R121). -/
theorem listenerSample_lane (s : State) (l n : Nat) (h : plannedSource s.mix.plan l = .lane n) :
    listenerSample s l = (s.lif.lanesIn.getD n 0).toInt := by
  simp [listenerSample, h]

/-- In floor fallback a listener takes the floor sample (R121). -/
theorem listenerSample_floor (s : State) (l : Nat) (h : plannedSource s.mix.plan l = .floor) :
    listenerSample s l = floorSample s := by
  simp [listenerSample, h]

/-- A listener that leaves no lane takes its feed (R121). -/
@[simp] theorem listenerTakes_none (s : State) (feed : Int) : listenerTakes s none feed = feed := rfl

/-- Past output frame 0 every listener takes its feed (R121). -/
theorem listenerTakes_past (s : State) (left : Option Nat) (feed : Int) (h : s.lif.frame ≠ 0) :
    listenerTakes s left feed = feed := by
  cases left <;> simp [listenerTakes, h]

/-- All that a listener can take: its feed, or in output frame 0, where it stops using lane n there, what frame 95 brought
in that lane (R121, R153). -/
theorem listenerTakes_or (s : State) (left : Option Nat) (feed : Int) : listenerTakes s left feed = feed ∨
    s.lif.frame = 0 ∧ ∃ n, left = some n ∧ listenerTakes s left feed = (s.lif.lanesIn.getD n 0).toInt := by
  cases left with
  | none => simp
  | some n =>
    by_cases h : s.lif.frame = 0
    · cases k : Config.lastLaneSampleHeard <;> simp [listenerTakes, h, k]
    · exact .inl (listenerTakes_past s _ feed h)

/-- In output frame 0 a listener that stops using lane n takes the one sample of the two that the free choice names
(R121, R153, log entry 24). -/
theorem listenerTakes_last (s : State) (n : Nat) (feed : Int) (h : s.lif.frame = 0) :
    listenerTakes s (some n) feed =
      if Config.lastLaneSampleHeard = true then (s.lif.lanesIn.getD n 0).toInt else feed := by
  simp [listenerTakes, h]

/-- A listener stops using lane n exactly where it keeps its language, the plan before named the lane for it, an
announcement has let it go, and its source is another from here on (R153). -/
theorem laneLeft_eq_some (s : State) (was now : Option Nat) (n : Nat) : laneLeft s was now = some n ↔
    ∃ l, was = some l ∧ now = some l ∧ plannedSource s.mix.plan l = .lane n ∧ ⟨n, l⟩ ∈ s.booth.left ∧
      listenerOf s l ≠ .lane n := by
  cases now with
  | none => simp [laneLeft]
  | some l =>
    cases h : plannedSource s.mix.plan l with
    | lane k =>
      simp only [laneLeft, h]
      split
      · simp_all
        rintro rfl
        simp_all
      · simp_all
    | ownDesk e => simp [laneLeft, h]
    | floor => simp [laneLeft, h]

/-! ### Standing aside -/

/-- Standing aside ends the Hold of the desk and no other claim (R37). -/
@[simp] theorem standAside_languages (e : Nat) (s : State) : (standAside e s).claims.languages =
    s.claims.languages.filter (fun c => !(c.desk == e && c.stage == .hold)) := by
  simp [standAside, engageDesk, takeDeskOffAir, setDeskOff, endDeskHold, modifyDesk, raise]

/-- A desk that stands aside goes Off with the engaged mark; its other fields and the other desks stay (R130, log
entry 14). -/
theorem deskOf_standAside (e x : Nat) (s : State) (h : e < s.booth.desks.length) :
    deskOf (standAside e s) x = if x = e then { deskOf s e with state := .off, engaged := true } else deskOf s x := by
  have h' : e < (takeDeskOffAir e s).booth.desks.length := by simpa [takeDeskOffAir, setDeskOff, endDeskHold] using h
  have k : deskOf (standAside e s) x = deskOf (modifyDesk e (fun d => { d with engaged := true }) (takeDeskOffAir e s)) x := by
    simp [standAside, engageDesk, deskOf]
  have m : ∀ y, deskOf (takeDeskOffAir e s) y = deskOf (modifyDesk e (fun d => { d with state := .off }) s) y := fun y => by
    simp [takeDeskOffAir, setDeskOff, endDeskHold, deskOf]
  rw [k, deskOf_modifyDesk _ _ _ _ h', m, m, deskOf_modifyDesk _ _ _ _ h, deskOf_modifyDesk _ _ _ _ h]
  by_cases hx : x = e <;> simp [hx]

/-- In a lane that the station does not own the received sample is repeated. -/
theorem laneOut_repeats (s : State) (received : List Sample) (n : Nat) (h : substituted s n = none) :
    laneOut s received n = received.getD n 0 := by simp [laneOut, h]

/-- A frame with nothing to substitute owns no lane. -/
theorem substituted_bypass (s : State) (h : s.lif.latch = FrameLatch.bypass) (n : Nat) : substituted s n = none := by
  simp [substituted, h, FrameLatch.bypass]

/-- A pin reset fixes the lanes that the frame in progress substitutes, with the samples they have. -/
theorem substituted_resetStation (s : State) (n : Nat) (h : n < 64) :
    substituted (resetStation s) n = substituted s n := by
  have key : ∀ xs : List Nat, n ∈ xs →
      ((xs.filterMap (fun k => (substituted s k).map (fun x => (⟨k, x⟩ : LaneSample)))).find? (fun x => x.lane == n)).map
        (·.sample) = substituted s n := by
    intro xs
    induction xs with
    | nil => simp
    | cons k ks ih =>
      intro hn
      by_cases hk : k = n
      · subst hk
        cases hs : substituted s k with
        | some x => simp [hs]
        | none =>
          simp only [List.filterMap_cons, hs, Option.map_none, Option.map_eq_none_iff, List.find?_eq_none]
          intro x hx
          obtain ⟨j, -, hj⟩ := List.mem_filterMap.mp hx
          cases hsj : substituted s j with
          | none => simp [hsj] at hj
          | some y =>
            simp only [hsj, Option.map_some, Option.some.injEq] at hj
            subst hj
            simp only [beq_iff_eq]
            rintro rfl
            simp [hs] at hsj
      · have hn' : n ∈ ks := by simpa [Ne.symm hk] using hn
        cases hs : substituted s k with
        | some x => simpa [hs, hk] using ih hn'
        | none => simpa [hs] using ih hn'
  refine Eq.trans ?_ (key (List.range 64) (List.mem_range.mpr h))
  change substituted (resetStation s) n = ((fixedLanes s).find? (fun x => x.lane == n)).map (·.sample)
  generalize hl : fixedLanes s = l
  simp only [substituted, resetStation, hl, FrameLatch.bypass]
  cases List.find? (fun x => x.lane == n) l <;> rfl

end Sys2Proof.Machine
end

