-- ==== Sys2Proof/Tests/Slice0.lean ====
section
/-! SUPPORT. Small tests. Expected values come from the manual's worked cases and tables, or from hand calculation by its
rules; each says which. The witnesses show states and operands that meet the hypotheses of the statements for the provers,
clause by clause, at boundary values. -/

set_option Elab.async false

namespace Sys2Proof.Tests

open Sys2Proof Sys2Proof.Machine

/-! ### Helpers -/

/-- The state after a command. -/
def after (i : Instr) (s : State) : State :=
  match exec i s with
  | .next t => t
  | .fault _ | .refused _ => State.reset

/-- A configuration record: 30 seats; input 0 towards station 4; desk 0 understands 1 and 2, desk 1 understands 3; seat 10 has
class 2 at unity, seat 20 class 3 at half gain; Free mode, limit 2, auto-advance, 60 s with 10 s warning, Takeover, pivot 1,
clear on mute, floor-under 4096. The byte sum is 625, so the sum field is 65536 - 625 = FD8Fh (Table 11-3). -/
def record : List Byte :=
  [1, 30, 1, 0, 4, 0, 0, 0, 0, 0, 0, 2, 0, 0x82, 1, 2, 0, 1, 0x81, 3, 0, 0] ++ List.replicate 10 0 ++
  [2, 10, 2, 0x80, 0, 20, 3, 0x40, 0] ++ List.replicate 56 0 ++ [0, 2, 1, 0, 60, 10, 1, 1, 1, 0x10, 0, 0xFD, 0x8F]

/-- The record with one byte replaced. -/
def recordWith (n : Nat) (b : Byte) : List Byte := record.set n b

/-- Station 5 out of reset, with source Host. -/
def fresh : State := after (.resetRelease 5 .host) State.reset

/-- Station 5 out of reset, its memory read in progress. -/
def reading : State := after (.resetRelease 5 .memory) State.reset

/-- Station 5 in Joining. -/
def joining : State := after (.loadConfig record) fresh

/-- Station 5 with the Joining timer at 0. -/
def expiring : State := { joining with station := { joining.station with joinTimer := some 0 } }

/-- Station 5 in Running, alone. -/
def running : State := after .joiningTimerExpiry expiring

/-- Station 5 in Isolated. -/
def isolated : State := after .linkFailure { running with lif := { running.lif with unaligned := 3 } }

/-- What station 4 announces: Running, its wall towards station 5 Open, with what it holds. -/
def announced (mics : List AnnMic) (desks : List AnnDesk) (lanes : List AnnLane) : Announcement :=
  ⟨4, true, 7, 4, [⟨5, .opened⟩], ⟨.free, 2, true, 60, 10, .takeover, 1, true, 4096, 0⟩, 9, none, mics, [], desks, lanes⟩

/-- Station 5 in one room with station 4, whose latest announcement is `a`; the own wall stands Open. -/
def together (a : Announcement) : State :=
  let s := { running with
    walls := running.walls.set 0 { Wall.initial with neighbour := some 4, debounced := .opened, derived := .opened }
    peers := running.peers.set 4 (some ⟨2, 1, a⟩) }
  recompute s

/-- A state with an open mic of seat 3 on channel 0, and its hold. -/
def speaking (phase : MicPhase) (step used : Nat) (s : State) : State :=
  { s with
    floor := { s.floor with mics := [⟨3, 0, 0, phase, step, 40, used, 2, none⟩] }
    claims := { s.claims with places := [⟨.hold, 3, 0, none, 0, .press⟩] }
    dlc := { s.dlc with uplinks := s.dlc.uplinks.set 0 (some 3) } }

/-- A state with a place intent of seat 6 on channel 1. -/
def wanting (cls : Nat) (displaced : Option Named) (s : State) : State :=
  { s with
    claims := { s.claims with places := s.claims.places ++ [⟨.intent false, 6, cls, displaced, 1, .press⟩] }
    dlc := { s.dlc with uplinks := s.dlc.uplinks.set 1 (some 6) } }

/-- Changes the frame counter. -/
def atFrame (n : Nat) (s : State) : State := { s with lif := { s.lif with frame := n } }

/-- Changes the context in force. -/
def under (f : Context → Context) (s : State) : State := { s with room := { s.room with adopted := some (f (context s)) } }

/-- A present unit at address 6 whose window has closed, with a miss count. -/
def polled (miss : Nat) (s : State) : State :=
  let s1 := modifyUnit 6 (fun u => { u with present := true, miss := miss, tag := some 2 }) s
  let s2 := assign 6 (some 0) s1
  { s2 with dlc := { s2.dlc with dueWindow := some 6 } }

/-- A present desk 1 for language 3 whose window has closed, with a miss count and an on-air state. -/
def desked (miss : Nat) (st : DeskState) (s : State) : State :=
  let s1 := modifyDesk 1 (fun d => { d with present := true, miss := miss, output := some 3, state := st }) s
  { s1 with booth := { s1.booth with dueWindow := some 1 } }

/-- A whole, clean reply of a unit. -/
def unitSays (a : Nat) (k : Keys) (selection tag : Nat) : UnitReply := unitReply ⟨a, false, k, Keys.empty, none, selection, tag⟩

/-- A whole, clean reply of a desk. -/
def deskSays (e : Nat) (mic : Bool) (output : Nat) (relay : Relay) : DeskReply :=
  deviceReply ⟨e, false, mic, false, .off, output, relay⟩

/-- A frame of silence. -/
def quiet : FrameIn := ⟨true, true, List.replicate 64 0, List.replicate 24 0, List.replicate 6 none, List.replicate 4 none⟩

/-! ### Well-formed commands: each check refuses an ill-formed one -/

theorem test_wf_record_too_short : (Instr.loadConfig (List.replicate 109 0)).wf = false := by decide +kernel
theorem test_wf_memory_record_too_long : (Instr.configMemoryRead (List.replicate 111 0)).wf = false := by decide +kernel
theorem test_wf_frame : (Instr.frameBoundary quiet).wf = true := by decide +kernel
theorem test_wf_frame_with_63_lanes :
    (Instr.frameBoundary { quiet with lanes := List.replicate 63 0 }).wf = false := by decide +kernel
theorem test_wf_frame_with_short_control :
    (Instr.frameBoundary { quiet with control := List.replicate 23 0 }).wf = false := by decide +kernel
theorem test_wf_frame_with_seven_slots :
    (Instr.frameBoundary { quiet with uplinks := List.replicate 7 none }).wf = false := by decide +kernel
theorem test_wf_frame_with_five_desks :
    (Instr.frameBoundary { quiet with deskMics := List.replicate 5 none }).wf = false := by decide +kernel
theorem test_wf_seat_0_and_61 : (Instr.fadeInComplete 0).wf = false ∧ (Instr.fadeOutEnd 61).wf = false ∧
    (Instr.speakingTimeExpiry 0).wf = false ∧ (Instr.unitAbsent 61).wf = false := by decide
theorem test_wf_slot_16 : (Instr.slotClose 16).wf = false ∧ (Instr.peerLoss 16).wf = false := by decide
theorem test_wf_input_and_desk_4 : (Instr.wallAdoption 4).wf = false ∧ (Instr.deskAbsent 4).wf = false := by decide
theorem test_wf_a_command_frame_is_no_bad_frame :
    (Instr.badCommandFrame [0x04]).wf = false ∧ (Instr.badCommandFrame []).wf = false := by decide +kernel

/-! ### Command frames, written out from Table 12-1 -/

theorem test_frame_restart : decodePortFrame [0x02] = some .restart := by decide +kernel
theorem test_frame_readRecord : decodePortFrame [0x03, 0x0B, 0x3C] = some (.readRecord 11 60) := by decide +kernel
theorem test_frame_readEvents : decodePortFrame [0x04] = some .readEvents := by decide +kernel
theorem test_frame_clearEvents : decodePortFrame [0x05, 0x18, 0x01] = some (.clearEvents 0x1801) := by decide +kernel
theorem test_frame_setEventMask : decodePortFrame [0x06, 0xFF, 0x00] = some (.setEventMask 0xFF00) := by decide +kernel
theorem test_frame_issue : decodePortFrame [0x07, 0x02, 0x03] = some (.issueRoomCommand 2 3) := by decide +kernel
theorem test_frame_override : decodePortFrame [0x08, 0x03, 0x01] = some (.setWallOverride 3 1) := by decide +kernel
theorem test_frame_closeSeat : decodePortFrame [0x09, 0x11] = some (.closeSeat 17) := by decide +kernel
theorem test_frame_cancelRequest : decodePortFrame [0x0A, 0x11] = some (.cancelRequest 17) := by decide +kernel
theorem test_frame_loadConfig : decodePortFrame (0x01 :: record) = some (.loadConfig record) := by decide +kernel
theorem test_frame_unknown_or_long :
    decodePortFrame [0x0B] = none ∧ decodePortFrame [0x04, 0x00] = none ∧ decodePortFrame [] = none := by decide +kernel
theorem test_table_words_spell_nothing : decodeTableWord 8 0x04 = none := rfl

/-! ### Mixing arithmetic (Tables 7-2 to 7-7, section 7.9) -/

theorem test_round_table_7_2 : [49152, 16384, -16384, -16385, -49152].map roundQ15 = [2, 1, 0, -1, -1] := by decide +kernel
theorem test_gain_case_1 : gainStage (toSample (-1200000)) 40000 = -1464844 := by decide +kernel
theorem test_fade_case_1 : fadeStage (-1464844) 4 = -732422 := by decide +kernel
theorem test_partial_case_1 :
    partialOf [toSample 3000000, toSample (-1200000)] [⟨0, 32768, 8⟩, ⟨1, 40000, 4⟩] = 2267578 := by decide +kernel
theorem test_nom_table_7_3 : [0, 1, 2, 3, 8, 40].map nomFactor = [32768, 32768, 23170, 18919, 11585, 11585] := by decide +kernel
theorem test_fade_table_7_7 : [1, 2, 3, 4, 5, 6, 7, 8].map (fadeStage (-1000003)) =
    [-125001, -250001, -375002, -500002, -625002, -750003, -875003, -1000003] := by decide +kernel

/-- Station 5 of case 1 of section 7.9: member set 2 and 5, three open mics, own partial 7,000,000. -/
def caseOne : State := { running with
  lif := { running.lif with lanesIn := (List.replicate 64 0).set 2 (toSample 2267578), latch := ⟨true, true, [], none, []⟩ }
  mix := { running.mix with
    ownPartial := toSample 7000000
    plan := { Plan.initial 5 with members := [2, 5], openMics := 3, factor := 18919, producers := [⟨1, 4⟩] } }
  booth := { running.booth with micIn := (List.replicate 4 0).set 1 (toSample 1000000) } }

theorem test_floor_case_1 : floorSample caseOne = 5350748 := by decide +kernel
theorem test_language_case_3 : languageSample caseOne 4 = 1668844 := by decide +kernel
theorem test_frameBoundary_floor_case_1 :
    (after (.frameBoundary quiet) caseOne).mix.paOut = toSample 5350748 := by decide +kernel

/-- Case 2 of section 7.9: two partials of 7,500,000 under factor 23170 clamp the floor. -/
def caseTwo : State := { caseOne with
  lif := { caseOne.lif with lanesIn := (List.replicate 64 0).set 2 (toSample 7500000) }
  mix := { caseOne.mix with
    ownPartial := toSample 7500000, plan := { caseOne.mix.plan with openMics := 2, factor := 23170 } } }

theorem test_frameBoundary_clamp_case_2 :
    let t := after (.frameBoundary quiet) caseTwo
    t.mix.paOut = toSample 8388607 ∧ t.mix.clip = 1 ∧ flagSet t .clip = true := by decide +kernel

/-! ### Announcement layout, written out from Table 1-3 -/

/-- CRC-16 with generator 1021h, preset FFFFh: the published check value of "123456789" is 29B1h. -/
theorem test_crc16_check_value : crc16 [0x31, 0x32, 0x33, 0x34, 0x35, 0x36, 0x37, 0x38, 0x39] = 0x29B1 := by decide +kernel

/-- Station 4, Running, epoch 7, head 4, one wall to 5 Open; Free, limit 2, auto-advance, Takeover, clear-on-mute; 60 s; 10 s;
level 0, pivot 1; 4096; sequence 9 and SetFloorLevel 3; one mic: seat 6, class 1, Open, tag 5, age 258, displaced (3, 20). -/
theorem test_announcement_head_and_mic :
    (announcementBody { announced [⟨6, 1, .mic .opened, 5, 258, some ⟨3, 20⟩⟩] [] [] with
      command := some ⟨.setFloorLevel, 3⟩ }).take 24 =
    [0x48, 0x07, 0x41, 0x52, 0, 0, 0, 0x17, 0x00, 0x3C, 0x0A, 0x01, 0x10, 0x00, 0x94, 0x03, 0x10, 0x00,
      0x19, 0x85, 0x01, 0x02, 0x83, 0x14] := by decide +kernel

/-- One request (seat 60, class 3, age 65535) at 54; one desk (2 for language 9, relay Language 4, OnAir, displaced desk 1 of
station 3, ages 256 and 2) at 72; one lane (Held, 63, language 9, age 1) at 100. -/
theorem test_announcement_entries :
    let b := announcementBody { announced [] [⟨2, 9, .language 4, .onAir, some ⟨3, 1⟩, 256, 2⟩] [⟨true, 63, 9, 1⟩] with
      requests := [⟨60, 3, 65535⟩] }
    (b.drop 16).take 2 = [0x01, 0x11] ∧ (b.drop 54).take 3 = [0xF3, 0xFF, 0xFF] ∧
    (b.drop 72).take 7 = [0xA9, 0x84, 0x93, 0x01, 0x00, 0x00, 0x02] ∧
    (b.drop 100).take 4 = [0xBF, 0x09, 0x00, 0x01] ∧ b.length = 118 := by decide +kernel

/-- The announcement of station 4 with nothing in its lists. -/
def plain : Announcement := announced [] [] []

/-- Its first 18 bytes, by Table 1-3; the 100 bytes of its empty lists are 0. -/
def plainHead : List Byte := [0x48, 7, 0x41, 0x52, 0, 0, 0, 0x17, 0, 0x3C, 0x0A, 1, 0x10, 0, 0x90, 0, 0, 0]

/-- Twenty bytes of zero. -/
def zeros : List Byte := List.replicate 20 0

theorem plain_body : announcementBody plain = plainHead ++ zeros ++ zeros ++ zeros ++ zeros ++ zeros := by decide +kernel
theorem crc_head : plainHead.foldl crcByte 0xFFFF#16 = 0xF837#16 := by decide +kernel
theorem crc_zeros_1 : zeros.foldl crcByte 0xF837#16 = 0xBD22#16 := by decide +kernel
theorem crc_zeros_2 : zeros.foldl crcByte 0xBD22#16 = 0x456D#16 := by decide +kernel
theorem crc_zeros_3 : zeros.foldl crcByte 0x456D#16 = 0xF9E2#16 := by decide +kernel
theorem crc_zeros_4 : zeros.foldl crcByte 0xF9E2#16 = 0x7D71#16 := by decide +kernel
theorem crc_zeros_5 : zeros.foldl crcByte 0x7D71#16 = 0x11D2#16 := by decide +kernel

/-- The check of these bytes, worked out by the polynomial division of R13 outside Lean. -/
theorem test_crc16_of_an_announcement : crc16 (announcementBody plain) = 0x11D2#16 := by
  rw [plain_body]
  simp only [crc16, List.foldl_append, crc_head, crc_zeros_1, crc_zeros_2, crc_zeros_3, crc_zeros_4, crc_zeros_5]

/-- The five control fields that carry it. -/
def plainSlot : List (Bool × List Byte) :=
  [(true, plainHead ++ List.replicate 6 0), (true, List.replicate 24 0), (true, List.replicate 24 0),
    (true, List.replicate 24 0), (true, List.replicate 22 0 ++ [0x11, 0xD2])]

theorem test_validAnnouncement : validAnnouncement 4 plainSlot = some plain := by
  have h : (plainSlot.flatMap (·.2)).take 118 = announcementBody plain := by decide +kernel
  simp only [validAnnouncement, h, test_crc16_of_an_announcement]
  decide +kernel

theorem test_peerArrival : (peerAt (peerArrival 4 plain running) 4).map (·.content.epoch) = some 7 ∧
    flagSet (peerArrival 4 plain running) .peerChanged = true := by decide +kernel
theorem test_slotClose_counts_an_unaligned_slot :
    let s := { together plain with lif := { running.lif with closedSlot := some (4, (false, []) :: plainSlot.tail) } }
    (after (.slotClose 4) s).peers[4]? = some none := by decide +kernel

/-! ### Reset, configuration, start-up -/

theorem test_pinReset_keeps_the_queue :
    (after .pinReset { running with pending := [.readEvents] }).pending = [.readEvents] ∧
    (after .pinReset running).station.state = .unconfigured := by decide +kernel
/-- Case 1 of section 7.9 with a reset in the frame: lane 5 still carries its partial, lane 0 is repeated. -/
theorem test_pinReset_keeps_the_frame_whole :
    let s := { caseOne with dlc := { caseOne.dlc with uplinkIn := [toSample 3000000] }
                            mix := { caseOne.mix with plan := { caseOne.mix.plan with mics := [⟨0, 32768, 8⟩] } } }
    let t := after .pinReset s
    let u := after (.frameBoundary { quiet with lanes := List.replicate 64 9 }) t
    u.lif.lanesOut.take 6 = [9, 9, 9, 9, 9, toSample 3000000] ∧
    (after (.frameBoundary { quiet with lanes := List.replicate 64 9 }) u).lif.lanesOut = List.replicate 64 9 := by
  decide +kernel
theorem test_resetRelease_latches : fresh.station.number = 5 ∧ fresh.station.inReset = false ∧
    reading.station.memoryReading = true := by decide +kernel
theorem test_configMemoryRead_accepts : (after (.configMemoryRead record) reading).station.state = .joining := by decide +kernel
theorem test_configMemoryRead_rejects :
    (after (.configMemoryRead (recordWith 0 2)) reading).station.lastReject = some .badSum := by decide +kernel
theorem test_loadConfig_enters_joining : joining.station.joinTimer = some 384 ∧ joining.lif.epoch = 1 ∧
    joining.port.response = some ⟨1, .ok, .none⟩ := by decide +kernel
theorem test_loadConfig_home_context : context joining =
    ⟨.free, 2, true, 60, 10, .takeover, 1, true, 4096, 0⟩ ∧ seatClass joining 20 = 3 ∧ seatGain joining 20 = 16384 ∧
    seatGain joining 1 = 32768 := by decide +kernel
theorem test_joiningTimerExpiry_runs : running.station.state = .running ∧ running.station.joinTimer = none := by decide +kernel
theorem test_restart_clears_flags_and_keeps_mask :
    let t := after .restart { running with port := { running.port with flags := 0xFFFF, mask := 0x0003 } }
    t.port.flags = 0 ∧ t.port.mask = 0x0003 ∧ t.station.state = .joining ∧ t.lif.epoch = 2 := by decide +kernel
theorem test_restart_unconfigured : (after .restart fresh).port.response = some ⟨2, .notConfigured, .none⟩ := by decide +kernel

/-! ### Link -/

theorem test_frameBoundary_counts_back_to_0 : (after (.frameBoundary quiet) (atFrame 95 running)).lif.frame = 0 := by
  decide +kernel
theorem test_hlckTimeout : (after .hlckTimeout running).lif.clock = .frameTimer := by decide +kernel
theorem test_hsyncMark_acquires : (after (.hsyncMark none none) (atFrame 7 running)).lif.sync = .locked ∧
    (after (.hsyncMark none none) (atFrame 7 running)).lif.frame = 0 := by decide +kernel
theorem test_switchPoint_counts_a_missing_mark :
    (after .switchPoint { running with lif := { running.lif with sync := .locked, markMissing := 0 } }).lif.markMissing = 1 := by
  decide +kernel
theorem test_linkFailure_isolates : isolated.station.state = .isolated ∧ flagSet isolated .linkLost = true := by decide +kernel
theorem test_linkRecovery_rejoins :
    (after .linkRecovery { isolated with lif := { isolated.lif with good := 4 } }).station.state = .joining ∧
    (after .linkRecovery { isolated with lif := { isolated.lif with good := 3 } }).station.state = .isolated := by decide +kernel
theorem test_ownSlot_transmits : (after .ownSlot (atFrame 25 running)).lif.transmitting = true ∧
    ((after .ownSlot (atFrame 25 running)).lif.onWire.take 3) = [0x58, 0x01, 0x51] := by decide +kernel
theorem test_peerLoss_leaves_the_room : (together (announced [] [] [])).room.members = [4, 5] ∧
    (after (.peerLoss 4) (together (announced [] [] []))).room.members = [5] := by decide +kernel

/-! ### Walls (Table 2-4: the count 24 at superframe 1024 becomes an adoption at 1025) -/

/-- Input 0 closed and debounced, 24 evaluations into Open, two samples taken. -/
def opening : State := atFrame 64 { running with
  walls := running.walls.set 0 ⟨some 4, [(false, true), (false, true)], false, .opened, some .opened, 24, .closed, .auto⟩ }

theorem test_wallSample_adopts_at_25 :
    (wallOf (after (.wallSample 0 1) opening) 0).debounced = .opened ∧ (wallOf (after (.wallSample 0 1) opening) 0).count = 0 ∧
    flagSet (after (.wallSample 0 1) opening) .wallChanged = true := by decide +kernel
theorem test_wallSample_noise : (wallOf (after (.wallSample 1 1) opening) 0).noise = true ∧
    (wallOf (after (.wallSample 1 1) opening) 0).derived = .opened := by decide +kernel
theorem test_wallAdoption : (wallOf (after (.wallAdoption 0) opening) 0).debounced = .opened := by decide +kernel
theorem test_setWallOverride_forceOpen :
    effective (wallOf (after (.setWallOverride 0 1) running) 0) = .opened ∧
    (after (.setWallOverride 4 1) running).port.response = some ⟨8, .badArgument, .none⟩ := by decide +kernel

/-! ### Delegate line, floor and desks -/

theorem test_pollWindowClose_mic_press_files_a_want :
    (after (.pollWindowClose (some (unitSays 6 ⟨true, false, false, false⟩ 0 2))) (polled 0 running)).claims.placeWants =
      [⟨6, 0, none, .press⟩] := by decide +kernel
theorem test_pollWindowClose_third_miss :
    (unitOf (after (.pollWindowClose none) (polled 2 running)) 6).present = false ∧
    flagSet (after (.pollWindowClose none) (polled 2 running)) .unitChanged = true := by decide +kernel
theorem test_unitAbsent_not_yet : after (.unitAbsent 6) (polled 1 running) = polled 1 running := by decide +kernel
theorem test_fadeInComplete : (micOf (after (.fadeInComplete 3) (speaking .opening 7 0 running)) 3).map (fun m => (m.phase, m.step)) =
    some (.opened, 8) := by decide +kernel
theorem test_fadeOutEnd_frees_the_channel :
    (after (.fadeOutEnd 3) (speaking .closing 1 0 running)).floor.mics = [] ∧
    (after (.fadeOutEnd 3) (speaking .closing 1 0 running)).dlc.uplinks = List.replicate 6 none := by decide +kernel
/-- 60 s are 30,000 superframes. -/
theorem test_speakingTimeExpiry :
    (micOf (after (.speakingTimeExpiry 3) (speaking .opened 8 30000 running)) 3).map (·.phase) = some .closing ∧
    (micOf (after (.speakingTimeExpiry 3) (speaking .opened 8 29999 running)) 3).map (·.phase) = some .opened := by decide +kernel
theorem test_boothWindowClose_press_files_a_want :
    (after (.boothWindowClose (some (deskSays 1 true 3 .floor))) (desked 0 .off running)).claims.languageWants =
      [⟨1, 3, none⟩] := by decide +kernel
theorem test_boothWindowClose_language_0_is_malformed :
    (deskOf (after (.boothWindowClose (some (deskSays 1 false 0 .floor))) (desked 0 .off running)) 1).miss = 1 := by
  decide +kernel
theorem test_deskAbsent_goes_off_air : (deskOf (after (.deskAbsent 1) (desked 2 .onAir running)) 1).state = .off := by
  decide +kernel

/-! ### Seat channels: step 4 of Table 10-4 -/

/-- Station 5 before step 4: unit 22 alone on channel 7 (Chinese, 7); units 8 and 14 wait for Italian, 11 for Japanese. -/
def beforeStepFour : State :=
  let s := [(8, 9), (11, 10), (14, 9), (22, 7)].foldl (fun s x =>
    modifyUnit x.1 (fun u => { u with present := true, selection := x.2 }) (assign x.1 (some 0) s)) running
  { assign 22 (some 7) s with seats := { (assign 22 (some 7) s).seats with
    channels := [none, some ⟨1, 10⟩, some ⟨2, 4⟩, some ⟨3, 1⟩, some ⟨4, 3⟩, some ⟨5, 2⟩, some ⟨6, 2⟩, some ⟨7, 1⟩]
    deferred := [8, 11, 14] } }

theorem test_seat_channels_step_4 :
    let t := handOverSelection 22 0 beforeStepFour
    channelOf t 7 = some ⟨9, 2⟩ ∧ t.seats.deferred = [11] ∧ assignmentOf t 8 = some 7 ∧ assignmentOf t 14 = some 7 ∧
    assignmentOf t 22 = some 0 := by decide +kernel

/-! ### Management port -/

theorem test_readRecord_clears_the_clip_counter :
    let t := after (.readRecord 12 0) { running with mix := { running.mix with clip := 9 } }
    t.mix.clip = 0 ∧ t.port.response = some ⟨3, .ok, .record (.clipCounter 9)⟩ := by decide +kernel
theorem test_readRecord_index_out_of_range : (after (.readRecord 11 61) running).port.response = some ⟨3, .badArgument, .none⟩ := by
  decide +kernel
theorem test_readEvents : (after .readEvents { running with port := ⟨0x18, 0x08, none, none⟩ }).port.response =
    some ⟨4, .ok, .events [0x00, 0x18] [0x00, 0x08]⟩ := by decide +kernel
theorem test_clearEvents : (after (.clearEvents 0x08) { running with port := ⟨0x18, 0x08, none, none⟩ }).port.flags = 0x10 := by
  decide +kernel
theorem test_setEventMask_drives_attn :
    attention (after (.setEventMask 0x10) { running with port := ⟨0x18, 0, none, none⟩ }) = true ∧
    attention (after (.setEventMask 0x04) { running with port := ⟨0x18, 0, none, none⟩ }) = false := by decide +kernel
theorem test_issueRoomCommand_grantNext_argument :
    (after (.issueRoomCommand 2 0) running).room.queue = [⟨.grantNext, 6⟩] ∧
    (after (.issueRoomCommand 4 4) running).port.response = some ⟨7, .badArgument, .none⟩ := by decide +kernel
theorem test_closeSeat : (micOf (after (.closeSeat 3) (speaking .opened 8 0 running)) 3).map (·.phase) = some .closing ∧
    (after (.closeSeat 31) running).port.response = some ⟨9, .badArgument, .none⟩ := by decide +kernel
theorem test_cancelRequest : (after (.cancelRequest 4) { running with
    floor := { running.floor with requests := [⟨4, 0, 1⟩] } }).floor.requests = [] := by decide +kernel
theorem test_emptyTransaction : (after .emptyTransaction { running with port := { running.port with
    response := some ⟨6, .ok, .none⟩ } }).port.shifted = some ⟨6, .ok, .none⟩ := by decide +kernel
theorem test_badCommandFrame : (after (.badCommandFrame [0x0B, 1]) running).port.response = some ⟨0x0B, .badArgument, .none⟩ := by
  decide +kernel

/-! ### Witnesses: states and operands that meet the hypotheses of the statements, clause by clause -/

/-- Station 5 in one room with station 4, which holds seat 6 (open, age 900, displacing seat 3), an intent of seat 8, desk 2
OnAir for language 3, and lane 17 Held. -/
def busy : State := together (announced
  [⟨6, 0, .mic .opened, 2, 900, some ⟨5, 3⟩⟩, ⟨8, 1, .intent, 0, 0, none⟩]
  [⟨2, 3, .floor, .onAir, none, 5, 70⟩] [⟨true, 17, 3, 12⟩])

/-- The room without anything held. -/
def pair : State := together plain

theorem witness_StepTakesTheFrontCommand : ({ running with pending := [.readEvents, .restart] } : State).pending =
    .readEvents :: [.restart] ∧ running.pending = [] := by decide +kernel

theorem witness_ResetAndRelease : State.reset.station.inReset = true ∧ Instr.restart ≠ .pinReset ∧
    State.reset.lif.latch = ⟨false, false, [], none, []⟩ ∧ quiet.lanes.length = 64 ∧ caseOne.lif.latch.ownLane = true := by
  decide +kernel

theorem witness_ConfigurationRecordTests :
    rejection 5 record = none ∧ rejection 5 (recordWith 108 0) = some .badSum ∧
    rejection 5 ((recordWith 0 2).set 109 0x8E) = some .badFormat ∧ rejection 4 record = some .outOfRange ∧
    rejection 5 ((recordWith 15 1).set 109 0x90) = some .duplicate := by decide +kernel

theorem witness_MemoryReadEnds : Live reading ∧ record.length = 110 ∧ fresh.station.memoryReading = false ∧
    reading.station.memoryReading = true ∧ rejection reading.station.number record = none ∧
    rejection reading.station.number (recordWith 108 0) = some .badSum := by decide +kernel

theorem witness_LoadConfigAnswers : Live running ∧ running.station.accepted = true ∧ Live reading ∧
    reading.station.accepted = false ∧ reading.station.memoryReading = true ∧ Live fresh ∧
    fresh.station.accepted = false ∧ fresh.station.memoryReading = false ∧ record.length = 110 ∧
    rejection fresh.station.number record = none ∧
    rejection fresh.station.number (recordWith 108 0) = some .badSum := by decide +kernel

theorem witness_JoiningTimerExpires : Live expiring ∧ expiring.station.state = .joining ∧
    expiring.station.joinTimer = some 0 ∧ RoomLaw expiring := by decide +kernel

theorem witness_RestartResetsTheTables : Live fresh ∧ fresh.station.state = .unconfigured ∧ Live running ∧
    running.station.state ≠ .unconfigured := by decide +kernel

theorem witness_FrameBoundary : Live running ∧ running.station.joinTimer ≠ some 0 ∧ quiet.lanes.length = 64 ∧
    Live joining ∧ joining.station.joinTimer ≠ some 0 ∧ running.dlc.uplinks.length = 6 ∧ caseOne.lif.latch.compute = true ∧
    Live caseOne ∧ caseOne.station.joinTimer ≠ some 0 ∧ quiet.wf = true := by decide +kernel

/-- A frame that carries the samples of seat 3 on channel 0 and of desk 1. -/
def voiced : FrameIn := { quiet with
  uplinks := some ⟨.same 3, .same 77⟩ :: List.replicate 5 none
  deskMics := [none, some ⟨.same 1, .same 55⟩, none, none] }

/-- The same with one sample of one bit of each wrong. -/
def blurred : FrameIn := { quiet with
  uplinks := some ⟨.same 3, ⟨77, 76, 77⟩⟩ :: List.replicate 5 none
  deskMics := [none, some ⟨⟨1, 1, 3⟩, .same 55⟩, none, none] }

theorem witness_FrameDeliversCleanSamplesOnly :
    let s := desked 0 .off (speaking .opened 8 0 running)
    Live s ∧ s.station.joinTimer ≠ some 0 ∧ s.dlc.uplinks.length = 6 ∧ s.dlc.uplinks[0]? = some (some 3) ∧
    voiced.uplinks.getD 0 none = some ⟨.same 3, .same 77⟩ ∧ voiced.deskMics.getD 1 none = some ⟨.same 1, .same 55⟩ ∧
    (deskOf s 1).present = true ∧ (deskOf s 0).present = false ∧
    (after (.frameBoundary voiced) s).booth.micIn = [0, 55, 0, 0] ∧
    (after (.frameBoundary blurred) s).booth.micIn = [0, 0, 0, 0] ∧
    (after (.frameBoundary blurred) s).dlc.uplinkIn = List.replicate 6 0 := by decide +kernel

/-- Station 5 of case 1 and station 2 of the same room. -/
theorem witness_TwoStationsAgree_floor :
    let s := caseOne
    let s' : State := { caseOne with
      station := { caseOne.station with number := 2 }
      lif := { caseOne.lif with lanesIn := (List.replicate 64 0).set 5 (toSample 7000000) }
      mix := { caseOne.mix with ownPartial := toSample 2267578 } }
    s.mix.plan.members = s'.mix.plan.members ∧ s.mix.plan.factor = s'.mix.plan.factor ∧
    ∀ t ∈ s.mix.plan.members, (if t = s.station.number then s.mix.ownPartial else s.lif.lanesIn.getD t 0) =
      (if t = s'.station.number then s'.mix.ownPartial else s'.lif.lanesIn.getD t 0) := by decide +kernel

theorem witness_PollCarriesTheTables :
    let s := atFrame 95 running
    Live s ∧ s.station.joinTimer ≠ some 0 ∧ s.station.state ≠ .unconfigured ∧ (s.lif.frame + 1) % 96 ∈ [0, 24, 48, 72] ∧
    (unitOf s s.dlc.pointer).fullTimer = 0 ∧ (∀ m, micOf s s.dlc.pointer = some m → m.phase = .closing) := by
  refine ⟨by decide +kernel, by decide +kernel, by decide +kernel, by decide +kernel, by decide +kernel, fun m h => ?_⟩
  have h' : micOf (atFrame 95 running) (atFrame 95 running).dlc.pointer = none := by decide +kernel
  simp [h'] at h

theorem witness_PollCarriesTheTables_lamps :
    let s := fun (x : State) => { x with dlc := { x.dlc with pointer := 3 }, lif := { x.lif with frame := 23 } }
    (unitOf (s (modifyUnit 3 (fun u => { u with fullTimer := 500 }) running)) 3).fullTimer ≠ 0 ∧
    (unitOf (s (speaking .opened 8 0 running)) 3).fullTimer = 0 ∧
    ((micOf (s (speaking .opened 8 0 running)) 3).map (·.phase)) = some .opened ∧
    Live (s (speaking .opened 8 0 running)) ∧ (s running).station.joinTimer ≠ some 0 := by decide +kernel

/-- Of 60 s with a warning time of 10 s, 25000 superframes used leave 10 s and 24999 leave more (R93). A request, a want or an
intent of the seat shows Request, a bare seat Off (R66). -/
theorem witness_PollCarriesTheTables_warning_and_request :
    let lamp := fun (a : Nat) (s : State) => (after (.frameBoundary quiet)
      { s with dlc := { s.dlc with pointer := a }, lif := { s.lif with frame := 23 } }).dlc.pollOut.map (·.lamp)
    let want := { running with claims := { running.claims with placeWants := [⟨8, 0, none, .press⟩] } }
    (context running).speakingTime = 60 ∧ (context running).warningTime = 10 ∧
    lamp 3 (speaking .opened 8 25000 running) = some .warning ∧ lamp 3 (speaking .opened 8 24999 running) = some .opened ∧
    lamp 3 (speaking .closing 8 25000 running) = some .off ∧
    lamp 7 { running with floor := { running.floor with requests := [⟨7, 0, 2⟩] } } = some .request ∧
    lamp 8 want = some .request ∧ lamp 6 (wanting 0 none running) = some .request := by decide +kernel

/-- No unit poll goes out at frame 1, nor at frame 0 while Unconfigured (R56). -/
theorem witness_PollCarriesTheTables_no_poll :
    (Live (atFrame 0 running) ∧ running.station.joinTimer ≠ some 0 ∧ ((atFrame 0 running).lif.frame + 1) % 96 ∉ [0, 24, 48, 72]) ∧
    (Live (atFrame 95 fresh) ∧ fresh.station.joinTimer ≠ some 0 ∧ fresh.station.state = .unconfigured) ∧
    (after (.frameBoundary quiet) (atFrame 0 running)).dlc.pointer = running.dlc.pointer ∧
    (after (.frameBoundary quiet) (atFrame 95 fresh)).dlc.pollOut = none := by decide +kernel

/-- The lamps of the booth poll of desk 1 at frame 36, one state for each indication of R135. -/
theorem witness_PollCarriesTheTables_desk_lamps :
    let lamp := fun (s : State) => (after (.frameBoundary quiet) (atFrame 35
      (modifyDesk 1 (fun d => { d with fitted := true }) s))).booth.pollOut.map (·.lamp)
    let short := { desked 0 .onAir running with lanes := ⟨[], [3]⟩ }
    let asks := { desked 0 .off running with claims := { running.claims with languageWants := [⟨1, 3, none⟩] } }
    lamp (modifyDesk 1 (fun d => { d with loopMark := true }) short) = some .loop ∧ lamp short = some .noLane ∧
    lamp (desked 0 .onAir running) = some .onAir ∧ lamp (desked 0 .intent running) = some .intent ∧ lamp asks = some .intent ∧
    lamp (modifyDesk 1 (fun d => { d with engaged := true }) (desked 0 .off running)) = some .engaged ∧
    lamp (desked 0 .off running) = some .off := by decide +kernel

/-- A booth poll goes to desk 3 at frame 84 alone of the frames about it, and a desk that is not fitted gets none. -/
theorem witness_PollCarriesTheTables_booth :
    let s := fun n => atFrame n (modifyDesk 3 (fun d => { d with fitted := true }) running)
    (after (.frameBoundary quiet) (s 83)).booth.window = some 3 ∧ (after (.frameBoundary quiet) (s 82)).booth.window = none ∧
    (after (.frameBoundary quiet) (s 59)).booth.pollOut = none ∧ (deskOf running 2).fitted = false ∧ (s 83).station.joinTimer ≠ some 0 := by decide +kernel

/-- The fifth frame of slot 15 closes it; frame 80 is of no slot; a slot without its first frames is discarded; at the end of
frame 29 station 5 counts the mics of the record on the wire. -/
theorem witness_FrameBoundary_slot :
    let s := fun n k => { running with lif := { running.lif with frame := n, slotFrames := List.replicate k (true, []) } }
    let t := fun n k => (after (.frameBoundary quiet) (s n k)).lif
    (t 79 4).closedSlot.map (·.1) = some 15 ∧ (t 79 4).slotFrames = [] ∧ (t 80 4).closedSlot = none ∧
    (t 79 3).closedSlot = none ∧ (t 75 4).slotFrames.length = 1 ∧ (t 78 3).slotFrames.length = 4 ∧ (t 78 2).slotFrames = [] := by
  decide +kernel

/-- A record with a mic in phase Closing and an intent. -/
def twoMics : Announcement := announced [⟨6, 1, .mic .closing, 5, 258, none⟩, ⟨7, 1, .intent, 5, 0, none⟩] [] []

/-- Station 5 at the end of its slot, that record on the wire. -/
def transmitting : State := atFrame 29 { running with
  lif := { running.lif with onWire := announcementBytes twoMics, latch := ⟨true, true, [], some [], []⟩ } }

theorem witness_FrameBoundary_announced_law : AnnouncementLaw twoMics := by decide +kernel
theorem witness_FrameBoundary_announced : Live transmitting ∧ transmitting.lif.latch.control ≠ none ∧
    transmitting.lif.frame = 5 * transmitting.station.number + 4 ∧
    (after (.frameBoundary quiet) transmitting).mix.announced = 1 := by decide +kernel

/-- A fitted, present desk 1 whose booth poll the boundary of frame 36 sends, with a poll window of unit 6 in progress. -/
def fitted : State :=
  let s := modifyDesk 1 (fun d => { d with fitted := true }) (desked 0 .off (polled 0 (atFrame 35 running)))
  { s with
    dlc := { s.dlc with dueWindow := none, window := some 6 }
    booth := { s.booth with pollOut := some ⟨0, true, .off⟩ } }

theorem test_hsyncMark_withdraws_the_booth_poll :
    let t := after (.frameBoundary quiet) fitted
    let u := after (.hsyncMark none none) t
    t.booth.pollOut = some ⟨1, false, .off⟩ ∧ u.booth.pollOut = some ⟨0, true, .off⟩ ∧ u.booth.window = none := by
  decide +kernel

theorem witness_HouseSyncMark_windows :
    let s := after (.frameBoundary quiet) fitted
    Live s ∧ SizeLaw s ∧ s.lif.sync = .searching ∧ s.lif.frame = 36 ∧ s.dlc.window = some 6 ∧
    (unitOf s 6).present = true ∧ (unitOf s 6).miss ≤ 2 ∧ s.booth.before ≠ none ∧
    classifyUnit 6 (some (unitSays 6 Keys.empty 0 2)) = .clean := by decide +kernel

theorem witness_HouseSyncMark_booth :
    let s := atFrame 36 (desked 0 .off running)
    s.booth.dueWindow = some 1 ∧ (deskOf s 1).present = true ∧ (deskOf s 1).miss ≤ 2 ∧
    classifyDesk 1 (some (deskSays 1 false 3 .floor)) = .clean ∧ 36 ∈ [12, 36, 60, 84] ∧ Live fitted ∧
    fitted.station.joinTimer ≠ some 0 ∧ (fitted.lif.frame + 1) % 96 ∈ [12, 36, 60, 84] := by decide +kernel

theorem witness_HouseSyncMark :
    let locked := fun n => atFrame n { running with lif := { running.lif with sync := .locked, markMissing := 0 } }
    Live (locked 0) ∧ (locked 0).lif.sync = .locked ∧ (locked 0).lif.frame = 0 ∧ (locked 95).lif.frame ≠ 0 ∧
    (atFrame 0 running).lif.sync = .searching ∧ (atFrame 0 running).lif.frame = 0 ∧ (atFrame 95 running).lif.frame ≠ 0 ∧
    running.station.state ≠ .unconfigured ∧ (atFrame 95 running).lif.frame ∉ [24, 48, 72] := by decide +kernel

theorem witness_UnalignedCount : Live running ∧ running.lif.superframeAligned = true ∧ running.lif.sync = .searching ∧
    (atFrame 1 running).lif.frame ≠ 0 := by decide +kernel

theorem witness_SwitchPointJudgesTheLink :
    Live running ∧ (running.station.state = .joining ∨ running.station.state = .running) ∧ running.lif.sync = .searching ∧
    Live isolated ∧ isolated.station.state = .isolated ∧ Live fresh ∧ fresh.station.state = .unconfigured := by decide +kernel

/-- Running on a sound link: locked, with the mark seen. -/
def locked : State := { running with
  lif := { running.lif with sync := .locked, markMissing := 0, markSeen := true, unaligned := 0 } }

theorem witness_SwitchPointHandsNothingOver : Live locked ∧ HandsNothingOver locked ∧ Live (speaking .opened 8 29999 locked) ∧
    HandsNothingOver (speaking .opened 8 29999 locked) := by decide +kernel

/-- A switch point that hands a failure over, and one that hands a recovery over (R10). -/
theorem witness_SwitchPointHandsOver :
    let bad := { running with lif := { running.lif with unaligned := 2, superframeAligned := false } }
    let good := { isolated with lif := { locked.lif with good := 3, superframeAligned := true } }
    Live bad ∧ ¬ HandsNothingOver bad ∧ (after .switchPoint bad).station.state = .isolated ∧
    Live good ∧ ¬ HandsNothingOver good ∧ (after .switchPoint good).station.state = .joining := by decide +kernel

/-- Station 5 with an intent and a Held lane, its link at the limit. -/
def failing : State := { running with
  lif := { running.lif with unaligned := 3 }
  claims := { running.claims with lanes := [⟨.hold, 16, 3⟩, ⟨.intent false, 63, 4⟩] }
  lanes := ⟨[⟨16, 3, true, 8, false⟩, ⟨63, 4, false, 0, false⟩], [5]⟩ }

theorem witness_LinkFailureIsolates : Live failing ∧ failing.station.state = .running ∧ 3 ≤ failing.lif.unaligned ∧
    LaneLaw failing ∧ Live locked ∧ locked.lif.markMissing < 2 ∧ locked.lif.unaligned < 3 := by decide +kernel

theorem witness_LinkRecoveryRejoins :
    let s := wanting 0 none { isolated with lif := { isolated.lif with good := 4 } }
    Live s ∧ s.station.state = .isolated ∧ 4 ≤ s.lif.good ∧ UplinkLaw s ∧ isolated.lif.good < 4 := by decide +kernel

theorem witness_OneMicAtASwitchPoint :
    (∃ m ∈ (speaking .closing 1 0 running).floor.mics, m.seat = 3 ∧ m.phase = .closing ∧ m.step ≤ 1) ∧
    (∀ m ∈ (speaking .closing 2 0 running).floor.mics, ¬ (m.seat = 3 ∧ m.phase = .closing ∧ m.step ≤ 1)) ∧
    (∃ m ∈ (speaking .opened 8 30000 running).floor.mics, m.seat = 3 ∧ m.cls ≤ 1 ∧ m.phase ≠ .closing ∧
      0 < (context running).speakingTime ∧ (context running).speakingTime * 500 ≤ m.used) ∧
    (∀ m ∈ (speaking .opened 8 29999 running).floor.mics, ¬ (context running).speakingTime * 500 ≤ m.used) ∧
    Live (speaking .closing 1 0 running) ∧ Live (speaking .opened 8 30000 running) := by decide +kernel

theorem witness_OwnSlotAnnouncesTheTables : Live fresh ∧ fresh.station.state = .unconfigured ∧ Live isolated ∧
    isolated.station.state = .isolated ∧ Live running ∧ running.station.state = .running ∧
    running.station.config ≠ none ∧ Live joining ∧ joining.station.state = .joining ∧ joining.station.config ≠ none := by
  decide +kernel

/-- Seven requests under floor level 1, the last two eligible: they come first, and the sixth ineligible place is cut (R81).
Of the desks the Present one is announced, in Intent with the name its Takeover displaces (R142); the wall that is forced open
is announced Open (R25). -/
theorem witness_OwnSlotAnnouncesTheTables_entries :
    let s := under (fun c => { c with level := 1 }) { desked 0 .intent running with
      walls := running.walls.set 0 { wallOf running 0 with setting := .forceOpen }
      floor := { running.floor with
        requests := [⟨1, 0, 9⟩, ⟨2, 0, 8⟩, ⟨3, 0, 7⟩, ⟨4, 0, 6⟩, ⟨5, 0, 5⟩, ⟨10, 2, 4⟩, ⟨20, 3, 3⟩] }
      claims := { running.claims with languages := [⟨.intent false, 1, 3, some ⟨4, 2⟩⟩] } }
    (ownRequests s).map (·.seat) = [10, 20, 1, 2, 3, 4] ∧
    (ownDesks s).map (fun d => (d.desk, d.output, d.onAirAge, d.displaced)) = [(1, 3, 0, some ⟨4, 2⟩)] ∧
    ownWalls s = [⟨4, .opened⟩] := by decide +kernel

/-- A state with a room command queue and a current command. -/
def commanding (current : Option CurrentCommand) : State :=
  { running with room := { running.room with queue := [⟨.cancelAll, 0⟩, ⟨.grantNext, 1⟩], current := current } }

/-- A lone place want of seat 7. -/
def asking (cls : Nat) (s : State) : State :=
  { s with claims := { s.claims with placeWants := [⟨7, cls, none, .press⟩] } }

theorem test_ownSlot_raises_on_the_lowest_channel :
    let t := after .ownSlot (asking 0 (speaking .opened 8 0 running))
    t.claims.places = [⟨.hold, 3, 0, none, 0, .press⟩, ⟨.intent false, 7, 0, none, 1, .press⟩] ∧
    t.dlc.uplinks[1]? = some (some 7) := by decide +kernel

theorem witness_OwnSlotDoesTheClaimWork_want :
    let s := asking 0 (speaking .opened 8 0 running)
    let t := asking 0 (under (fun x => { x with speakerLimit := 1 }) (speaking .opened 8 0 running))
    Live s ∧ UplinkLaw s ∧ s.room.current = none ∧ s.room.queue = [] ∧ s.floor.requests = [] ∧
    (∀ c ∈ s.claims.places, c.stage = .hold ∧ c.seat ≠ 7) ∧ 0 < freePlaces s ∧ s.dlc.uplinks[1]? = some none ∧
    freePlaces t = 0 ∧ UplinkLaw t := by decide +kernel

theorem witness_RaiseStep :
    freePlaces (under (fun x => { x with speakerLimit := 1 }) (speaking .opened 8 0 running)) = 0 ∧
    running.claims.places = [] ∧ running.floor.mics = [] ∧ running.dlc.uplinks[0]? = some none ∧
    holders busy 3 ≠ [] ∧ holders running 3 = [] ∧ 1 < busy.booth.desks.length ∧ lowestFreeLane running = some 16 ∧
    lowestFreeLane { running with
      lanes := ⟨(List.range' 16 48).map (fun n => ⟨n, 1, true, 0, false⟩), []⟩ } = none := by decide +kernel

theorem witness_OwnSlotQueueAndWants : Live (commanding none) ∧ (commanding none).station.state = .running ∧
    (commanding none).room.queue ≠ [] ∧ (commanding (some ⟨4, 1⟩)).room.current = some ⟨4, 1⟩ ∧
    (commanding (some ⟨4, 2⟩)).room.current = some ⟨4, 2⟩ ∧ Live joining ∧ joining.station.state = .joining ∧
    joining.room.current = none ∧ running.room.queue = [] := by decide +kernel

theorem witness_PlaceSettlement_wins :
    let s := wanting 0 none running
    let c : PlaceClaim := ⟨.intent false, 6, 0, none, 1, .press⟩
    UplinkLaw s ∧ c ∈ s.claims.places ∧ isIntent c.stage = true ∧ placeWins s c = true := by decide +kernel

theorem witness_PlaceSettlement_loses :
    let s := under (fun x => { x with speakerLimit := 1 }) (wanting 0 none (speaking .opened 8 0 running))
    let c : PlaceClaim := ⟨.intent false, 6, 0, none, 1, .press⟩
    UplinkLaw s ∧ c ∈ s.claims.places ∧ isIntent c.stage = true ∧ placeWins s c = false := by decide +kernel

theorem witness_PlaceSettlement_override :
    let n : Named := ⟨5, 3⟩
    let s := wanting 0 (some n) (speaking .opened 8 0 running)
    let c : PlaceClaim := ⟨.intent false, 6, 0, some n, 1, .press⟩
    UplinkLaw s ∧ c ∈ s.claims.places ∧ isIntent c.stage = true ∧ c.displaced = some n ∧ placeWins s c = true ∧
    n.station = s.station.number := by decide +kernel

/-- Stations 5 and 4, each with an intent that the other sees, under speaker limit 1. -/
def lastPlace (own peer : Nat) (seat peerSeat : Nat) : State :=
  under (fun x => { x with speakerLimit := 1 }) { running with
    station := { running.station with number := own }
    room := { running.room with members := [4, 5], head := 4 }
    peers := (List.replicate 16 none).set peer (some ⟨0, 0, { plain with
      station := peer, mics := [⟨peerSeat, 0, .intent, 0, 0, none⟩] }⟩)
    claims := { running.claims with places := [⟨.intent false, seat, 0, none, 0, .press⟩] } }

theorem witness_TwoStationsAgree_last_place :
    (⟨0, 4, 8⟩ : PlaceKey) ∈ countedIntents (lastPlace 5 4 6 8) ∧ (⟨0, 5, 6⟩ : PlaceKey) ∈ countedIntents (lastPlace 4 5 8 6) ∧
    countedHolders (lastPlace 5 4 6 8) + 1 = (context (lastPlace 5 4 6 8)).speakerLimit ∧
    countedHolders (lastPlace 4 5 8 6) + 1 = (context (lastPlace 4 5 8 6)).speakerLimit := by decide +kernel

/-- A language intent of desk 1. -/
def translating (l : Nat) (displaced : Option Named) (s : State) : State :=
  { s with claims := { s.claims with languages := [⟨.intent false, 1, l, displaced⟩] } }

theorem witness_LanguageSettlement :
    (⟨.intent false, 1, 3, none⟩ : LanguageClaim) ∈ (translating 3 none pair).claims.languages ∧
    1 < pair.booth.desks.length ∧ languageWins (translating 3 none pair) ⟨.intent false, 1, 3, none⟩ = true ∧
    languageWins (translating 3 none busy) ⟨.intent false, 1, 3, none⟩ = false ∧
    languageWins (translating 3 (some ⟨4, 2⟩) busy) ⟨.intent false, 1, 3, some ⟨4, 2⟩⟩ = true := by decide +kernel

/-- A Takeover that names a foreign desk, beside an own desk on air for the language: it wins (R47), and the own desk goes
Off (R134). -/
theorem test_takeover_beside_an_own_desk :
    let c : LanguageClaim := ⟨.intent false, 1, 3, some ⟨4, 2⟩⟩
    let s := translating 3 (some ⟨4, 2⟩) (modifyDesk 0 (fun d => { d with state := .onAir, output := some 3 }) busy)
    let t := settleLanguage s c
    languageWins s c = true ∧ t.booth.desks.map (·.state) = [.off, .onAir, .off, .off] ∧
    (deskOf t 0).engaged = true := by decide +kernel

theorem witness_LaneSettlement :
    let s := fun (n : Nat) => { busy with
      claims := { busy.claims with lanes := [⟨.intent false, n, 3⟩] }, lanes := ⟨[⟨n, 3, false, 0, false⟩], []⟩ }
    LaneLaw (s 16) ∧ laneWins (s 16) ⟨.intent false, 16, 3⟩ = true ∧ LaneLaw (s 17) ∧
    laneWins (s 17) ⟨.intent false, 17, 3⟩ = false := by decide +kernel

theorem witness_RaiseStep_lowest_free_lane : lowestFreeLane busy = some 16 ∧ laneBusy busy 17 = true := by decide +kernel

/-- Station 5 with lane 17 Held, desk 1 on air for language 3 and an own mic, in the room of the busy station 4. -/
def contested (age : Nat) : State :=
  let s := desked 0 .onAir (speaking .opened 8 0 busy)
  { s with
    claims := { s.claims with languages := [⟨.hold, 1, 3, none⟩], lanes := [⟨.hold, 17, 3⟩] }
    lanes := ⟨[⟨17, 3, true, age, false⟩], []⟩ }

/-- The estimate of station 4's lane 17 is 12 + 1: the higher station 5 keeps it with 16 and loses it with 15 (R50). -/
theorem test_lane_conflict_margin :
    (laneConflictStep (contested 16)).lanes.holdings = [⟨17, 3, true, 16, false⟩] ∧
    (laneConflictStep (contested 15)).lanes.holdings = [] := by decide +kernel

theorem witness_ConflictAndDisplacement : LaneLaw (contested 15) ∧ (contested 15).booth.desks.length = 4 ∧
    (deskOf (contested 15) 1).state = .onAir ∧ (deskOf (deskConflictStep (contested 15)) 1).state = .off ∧
    ((applyOverrides (announced [⟨6, 0, .mic .opened, 2, 39, some ⟨5, 3⟩⟩] [] []) (contested 15)).floor.mics.map (·.phase)) =
      [.closing] ∧
    ((applyOverrides (announced [⟨6, 0, .mic .opened, 2, 40, some ⟨5, 3⟩⟩] [] []) (contested 15)).floor.mics.map (·.phase)) =
      [.opened] := by decide +kernel

theorem witness_AnnouncementArrives :
    let s := { running with lif := { running.lif with closedSlot := some (4, plainSlot) } }
    Live s ∧ SizeLaw s ∧ s.station.state = .running ∧ s.lif.closedSlot = some (4, plainSlot) ∧ 4 < 16 ∧
    4 ≠ s.station.number ∧ validAnnouncement 4 plainSlot = some plain :=
  ⟨by decide +kernel, by decide +kernel, by decide +kernel, rfl, by decide, by decide +kernel, test_validAnnouncement⟩

/-- A slot of another station received whole, with an unaligned frame. -/
def spoilt : List (Bool × List Byte) := (false, []) :: plainSlot.tail

theorem spoilt_is_missing : validAnnouncement 4 spoilt = none := by simp [validAnnouncement, spoilt]

/-- A peer entry of station 4 with a miss count, and its slot spoilt. -/
def missing (miss : Nat) (s : State) : State :=
  { s with peers := s.peers.set 4 (some ⟨miss, 1, plain⟩), lif := { s.lif with closedSlot := some (4, spoilt) } }

theorem witness_AnnouncementMissing : Live (missing 1 running) ∧ SizeLaw (missing 1 running) ∧
    (missing 1 running).station.state = .running ∧ peerAt (missing 1 running) 4 = some ⟨1, 1, plain⟩ ∧
    peerAt (missing 2 running) 4 = some ⟨2, 1, plain⟩ ∧ SizeLaw (missing 2 running) ∧
    validAnnouncement 4 spoilt = none ∧ peerAt running 4 = none ∧ Live isolated ∧ isolated.station.state = .isolated ∧
    running.lif.closedSlot = none :=
  ⟨by decide +kernel, by decide +kernel, by decide +kernel, by decide +kernel, by decide +kernel, by decide +kernel,
    spoilt_is_missing, by decide +kernel, by decide +kernel, by decide +kernel, by decide +kernel⟩

theorem witness_MembershipIsReachability : pair.station.state = .running ∧ pair.station.number < 16 ∧
    membershipOf pair = [4, 5] ∧ countsOpen pair 5 4 = true := by decide +kernel

theorem witness_ContextChangeActsAtOnce :
    let before : Context := ⟨.override, 2, false, 0, 0, .takeover, 0, false, 0, 0⟩
    let after : Context := ⟨.free, 2, false, 0, 0, .refuse, 0, false, 0, 1⟩
    before.level < after.level ∧ before.mode = .override ∧ after.mode ≠ .override ∧ before.interlock = .takeover ∧
    after.interlock = .refuse ∧ (∃ m ∈ (speaking .opened 8 0 running).floor.mics, m.cls < after.level) := by decide +kernel

theorem witness_RoomCommandsAct : RoomLaw running ∧ running.station.number < 16 ∧
    running.room.members = membershipOf running ∧ running.room.head = running.station.number ∧
    running.station.state ≠ .unconfigured ∧ 4 < pair.room.lastSeen.length ∧ 4 ∈ pair.room.members ∧
    pair.room.lastSeen[4]? ≠ some (some 8) ∧ pair.room.head ≠ pair.station.number := by decide +kernel

/-- Requests of seats 6 and 7, and an intent of seat 6 on channel 1. -/
def requested : State := { wanting 0 none running with
  floor := { running.floor with requests := [⟨6, 0, 9⟩, ⟨7, 0, 2⟩] } }

theorem test_grantNext_passes_over_a_pending_seat :
    (actOn ⟨.grantNext, 1⟩ requested).claims.placeWants = [⟨7, 0, none, .grantNext⟩] := by decide +kernel
theorem test_cancelAll_withdraws_the_claims_of_requests :
    (actOn ⟨.cancelAll, 0⟩ requested).claims.places = [⟨.intent true, 6, 0, none, 1, .press⟩] ∧
    (actOn ⟨.cancelAll, 0⟩ requested).floor.requests = [] := by decide +kernel
theorem witness_RoomCommandsAct_grantNext : requested.station.state ≠ .unconfigured ∧
    (roomRanking requested).map (·.seat) = [7] ∧ requested.station.number = 5 := by decide +kernel
theorem witness_ContextChangeActsAtOnce_queue :
    let before : Context := ⟨.queue, 2, false, 0, 0, .refuse, 0, false, 0, 0⟩
    let t := presentContext before { before with mode := .free } requested
    t.floor.requests = [] ∧ pendingPlace requested 6 = true ∧ pendingPlace t 6 = false := by decide +kernel

/-- The announcement of station 4 with floor level 2, its first 18 bytes, and its check worked out outside Lean. -/
def risen : Announcement := { plain with context := { plain.context with level := 2 } }
def risenHead : List Byte := plainHead.set 11 0x81
theorem risen_body : announcementBody risen = risenHead ++ zeros ++ zeros ++ zeros ++ zeros ++ zeros := by decide +kernel
theorem crc_risen_head : risenHead.foldl crcByte 0xFFFF#16 = 0x53CE#16 := by decide +kernel
theorem crc_risen_1 : zeros.foldl crcByte 0x53CE#16 = 0xAF68#16 := by decide +kernel
theorem crc_risen_2 : zeros.foldl crcByte 0xAF68#16 = 0xB80D#16 := by decide +kernel
theorem crc_risen_3 : zeros.foldl crcByte 0xB80D#16 = 0x6C89#16 := by decide +kernel
theorem crc_risen_4 : zeros.foldl crcByte 0x6C89#16 = 0xDC56#16 := by decide +kernel
theorem crc_risen_5 : zeros.foldl crcByte 0xDC56#16 = 0xC299#16 := by decide +kernel

/-- The five control fields that carry it. -/
def risenSlot : List (Bool × List Byte) :=
  [(true, risenHead ++ List.replicate 6 0), (true, List.replicate 24 0), (true, List.replicate 24 0),
    (true, List.replicate 24 0), (true, List.replicate 22 0 ++ [0xC2, 0x99])]

theorem risenSlot_is_valid : validAnnouncement 4 risenSlot = some risen := by
  have h : (risenSlot.flatMap (·.2)).take 118 = announcementBody risen := by decide +kernel
  have c : crc16 (announcementBody risen) = 0xC299#16 := by
    rw [risen_body]
    simp only [crc16, List.foldl_append, crc_risen_head, crc_risen_1, crc_risen_2, crc_risen_3, crc_risen_4, crc_risen_5]
  simp only [validAnnouncement, h, c]
  decide +kernel

/-- Station 5 in the room of station 4, a class 0 mic open, with that announcement received whole. -/
def rising : State :=
  let s := speaking .opened 8 0 pair
  { s with lif := { s.lif with closedSlot := some (4, risenSlot) } }

theorem witness_ContextChangeActsAtOnce_arrival : Live rising ∧ SizeLaw rising ∧ rising.station.state = .running ∧
    rising.lif.closedSlot = some (4, risenSlot) ∧ 4 ≠ rising.station.number ∧ validAnnouncement 4 risenSlot = some risen ∧
    headOf rising (membershipOf { rising with peers := rising.peers.set 4 (some ⟨0, 0, risen⟩) }) = 4 ∧
    rising.room.adopted = some plain.context ∧ plain.context.level < risen.context.level ∧
    (∃ m ∈ rising.floor.mics, m.cls < risen.context.level ∧ m.phase ≠ .closing) ∧
    (peerArrival 4 risen rising).floor.mics.map (·.phase) = [.closing] :=
  ⟨by decide +kernel, by decide +kernel, by decide +kernel, rfl, by decide +kernel, risenSlot_is_valid, by decide +kernel,
    by decide +kernel, by decide +kernel, by decide +kernel, by decide +kernel⟩

/-- A recomputation that changes membership and adopted context, one that changes neither, and one from no context. -/
theorem witness_ContextChangeActsAtOnce_recomputation :
    let gone := { pair with peers := List.replicate 16 none, room := { pair.room with adopted := some risen.context } }
    (membershipOf gone ≠ gone.room.members ∧ (membershipOf gone).length < 2 ∧ gone.room.adopted ≠ homeContext gone ∧
      gone.room.adopted ≠ none ∧ homeContext gone ≠ none) ∧
    membershipOf pair = pair.room.members ∧ 2 ≤ (membershipOf pair).length ∧ fresh.room.adopted = none ∧
    (let s := { pair with room := { pair.room with members := [5] } }
     4 ∈ membershipOf s ∧ 4 ∉ s.room.members ∧ 4 ≠ s.station.number ∧ (peerAt s 4).isSome = true) := by decide +kernel

theorem witness_RoomCommandsAct_ties : (Live (commanding none) ∧ (commanding none).station.state = .running ∧
      (commanding none).room.queue.head? = some ⟨.cancelAll, 0⟩) ∧
    (commanding (some ⟨3, 1⟩)).room.current = some ⟨3, 1⟩ ∧ joining.station.state = .joining ∧
    (running.room.current = none ∧ running.room.queue = []) ∧
    Live rising ∧ rising.station.state = .running ∧ 4 ≠ rising.station.number := by decide +kernel

theorem witness_WallSampleAndAdoption : Live opening ∧ opening.walls.length = 4 ∧ opening.lif.frame = 64 ∧
    (wallOf opening 0).candidate = some .opened ∧ 24 ≤ (wallOf opening 0).count ∧ (wallOf opening 0).neighbour ≠ none ∧
    (wallOf opening 0).setting = .auto ∧ WallState.opened ≠ (wallOf opening 0).debounced ∧
    (wallOf running 0).candidate = none ∧ (wallOf running 1).neighbour = none ∧
    (wallOf opening 0).history = [(false, true), (false, true)] := by decide +kernel

theorem witness_WallOverrideActsAtOnce : Live running ∧ running.walls.length = 4 ∧ (3 : Byte).toNat ≤ 3 ∧ (2 : Byte).toNat = 2 ∧
    (wallOf running 0).neighbour ≠ none ∧ effective (wallOf running 0) ≠ .opened := by decide +kernel

/-- The keys of a class 3 seat with one place left in the queue, and with the queue full: PriorityMute is taken and GrantNext
refused, then both refused (R101); a class 2 seat's Priority is ignored (R63). -/
theorem witness_GoodUnitReply_keys :
    let s := fun n => { running with room := { running.room with queue := List.replicate n ⟨.cancelAll, 0⟩ } }
    let both : Keys := ⟨false, false, true, true⟩
    ((dispatchKeys 20 both (s 3)).room.queue.map (·.kind)).drop 3 = [.priorityMute] ∧
    flagSet (dispatchKeys 20 both (s 3)) .requestRefused = true ∧ (dispatchKeys 20 both (s 4)).room.queue.length = 4 ∧
    (dispatchKeys 10 both (s 2)).room.queue.drop 2 = [⟨.grantNext, 1⟩] ∧ dispatchKeys 9 both (s 2) = s 2 := by decide +kernel
/-- Mic and Cancel in one report of an Idle seat: in Free mode no want is left, in Queue mode no request (R63). -/
theorem witness_GoodUnitReply_mic_and_cancel :
    let t := fun s => dispatchKeys 6 ⟨true, true, false, false⟩ s
    (t running).claims.placeWants = [] ∧ (micPress 6 running).claims.placeWants ≠ [] ∧
    (t (under (fun x => { x with mode := .queue }) running)).floor.requests = [] := by decide +kernel

theorem witness_GoodUnitReply : Live (polled 2 running) ∧ SizeLaw (polled 2 running) ∧ ChannelLaw (polled 2 running) ∧
    closingWindow (polled 2 running) = some 6 ∧
    (let r : UnitReply := { unitSays 6 ⟨true, true, true, true⟩ 31 1 with restAgreed := false, tag := ⟨1, 3, 1⟩ };
      r.ended = true ∧ r.framed = true ∧ (fieldValue r.address).toNat = 6 ∧ fieldValue r.tag = 1 ∧
      classifyUnit 6 (some r) = .noisy) := by decide +kernel

theorem witness_BadUnitReply : Live (polled 1 running) ∧ SizeLaw (polled 1 running) ∧
    closingWindow (polled 1 running) = some 6 ∧ (unitOf (polled 1 running) 6).present = true ∧
    (unitOf (polled 1 running) 6).miss < 2 ∧ 2 ≤ (unitOf (polled 2 running) 6).miss ∧ closingWindow running = none ∧
    (unitOf running 6).present = false := by decide +kernel

theorem witness_BadUnitReply_channels : ChannelLaw (polled 1 running) := by decide +kernel
theorem witness_BadUnitReply_deferred : DeferredLaw (polled 1 running) := by decide +kernel

/-- No reply is a bad reply, and so is one with tag 0. -/
theorem witness_bad_reply : (∀ r, (none : Option UnitReply) = some r → r.ended = false ∨ fieldValue r.tag = 0) ∧
    fieldValue (unitSays 6 Keys.empty 0 0).tag = 0 := ⟨fun _ h => by simp at h, by decide +kernel⟩

theorem witness_AcknowledgedReports : SizeLaw running ∧ (unitPowerUp 60 0 1).address = 60 ∧ 1 ≤ (unitPowerUp 60 0 1).tag := by
  decide +kernel

/-- The modes of the floor, and a room with no free place. -/
def queueing : State := under (fun x => { x with mode := .queue }) running
def overriding : State := under (fun x => { x with mode := .override, speakerLimit := 1 }) (speaking .opened 8 0 running)
def fullQueue : State := { queueing with floor := { queueing.floor with
  requests := (List.range' 31 16).map (fun seat => ⟨seat, 0, 0⟩) } }

theorem witness_MicPress_free : SizeLaw running ∧ running.station.state ≠ .unconfigured ∧ floorState running 6 = .idle ∧
    (context running).mode = .free ∧ belowLevel running (seatClass running 6) = false ∧
    belowLevel (under (fun x => { x with level := 1 }) running) 0 = true ∧ running.claims.places = [] := by decide +kernel
theorem witness_MicPress_below_level :
    let low := under (fun x => { x with level := 3 }) queueing
    let overruled := under (fun x => { x with level := 1 }) overriding
    belowLevel low (seatClass low 10) = true ∧ 2 ≤ seatClass low 10 ∧ floorState low 10 = .idle ∧
    belowLevel overruled (seatClass overruled 6) = true ∧ floorState overruled 6 = .idle := by decide +kernel
theorem witness_MicPress_queue : SizeLaw queueing ∧ (context queueing).mode = .queue ∧ floorState queueing 6 = .idle ∧
    seatClass queueing 6 ≤ 1 ∧ queueing.floor.requests.length < 16 ∧ 16 ≤ fullQueue.floor.requests.length ∧
    floorState fullQueue 6 = .idle ∧ 2 ≤ seatClass queueing 10 ∧ floorState queueing 10 = .idle ∧
    floorState fullQueue 31 = .requesting := by decide +kernel
theorem witness_MicPress_override : SizeLaw overriding ∧ (context overriding).mode = .override ∧ floorState overriding 6 = .idle ∧
    freePlaces overriding = 0 ∧ (∀ m ∈ roomMics overriding, m.cls ≤ 1) ∧ roomMics overriding ≠ [] ∧
    floorState overriding 3 = .speaking ∧ floorState (speaking .closing 4 0 running) 3 = .fading ∧
    floorState (wanting 0 none running) 6 = .pending := by decide +kernel

theorem witness_GoodDeskReply : Live (desked 0 .onAir running) ∧ SizeLaw (desked 0 .onAir running) ∧
    RelayLaw (desked 0 .onAir running) ∧ closingBoothWindow (desked 0 .onAir running) = some 1 ∧
    (deskOf (desked 0 .onAir running) 1).output = some 3 ∧
    (let r : DeskReply := { deskSays 1 false 31 (.language 31) with restAgreed := false };
      r.ended = true ∧ r.framed = true ∧ (fieldValue r.desk).toNat = 1 ∧ fieldValue r.output ≠ 0 ∧ bitValue r.mic = false ∧
      relayOfBits (fieldValue r.relayKind) (fieldValue r.relayLanguage) = some (.language 31)) := by
  decide +kernel

/-- A reply with a new language, 4, and Mic presses the key of a desk that has gone Off and has language 4; its relay of
language 4 goes to Floor, age 0, and then to the reported Auto (R126, R128, R136). -/
theorem witness_GoodDeskReply_mic :
    let s := modifyDesk 1 (fun d => { d with relay := .language 4, selectionAge := 9, source := .language 4 })
      (desked 0 .onAir running)
    let t := after (.boothWindowClose (some (deskSays 1 true 4 .auto))) s
    RelayLaw s ∧ t.claims.languageWants = [⟨1, 4, none⟩] ∧ (deskOf t 1).state = .off ∧ (deskOf t 1).relay = .auto ∧
    (deskOf t 1).selectionAge = 0 ∧ (deskOf t 1).source = .floor ∧ (deskOf t 1).output = some 4 := by decide +kernel

theorem witness_BadDeskReply : Live (desked 1 .intent running) ∧ SizeLaw (desked 1 .intent running) ∧
    closingBoothWindow (desked 1 .intent running) = some 1 ∧ (deskOf (desked 1 .intent running) 1).present = true ∧
    (deskOf (desked 1 .intent running) 1).miss < 2 ∧ 2 ≤ (deskOf (desked 2 .intent running) 1).miss ∧
    (deskOf (desked 2 .intent running) 1).state = .intent ∧ (deskOf (desked 2 .onAir running) 1).state = .onAir ∧
    closingBoothWindow running = none ∧ (deskOf running 1).present = false ∧
    (let r := deskSays 1 false 3 (.language 0); fieldValue r.relayKind = 2 ∧ fieldValue r.relayLanguage = 0) := by
  decide +kernel

theorem witness_DeskPress :
    let refuse := under (fun x => { x with interlock := .refuse }) (desked 0 .off busy)
    SizeLaw (desked 0 .off busy) ∧ (deskOf (desked 0 .off busy) 1).output = some 3 ∧ holders (desked 0 .off busy) 3 ≠ [] ∧
    (context (desked 0 .off busy)).interlock = .takeover ∧ (context refuse).interlock = .refuse ∧ holders refuse 3 ≠ [] ∧
    holders (desked 0 .off running) 3 = [] ∧ (deskOf (desked 0 .off running) 1).state = .off ∧
    (deskOf (desked 0 .onAir running) 1).state = .onAir ∧ (deskOf (desked 0 .intent running) 1).state = .intent := by
  decide +kernel

theorem witness_AutoRelay : roomMics busy ≠ [] ∧ floorLanguage busy = 2 ∧ roomMics running = [] ∧
    resolveAuto (desked 0 .off (under (fun x => { x with pivot := 3 }) busy)) Desk.initial = .language 3 := by decide +kernel

/-- The relay loop of section 8.13, station 4 in the place of station 3: desk 4/0 is on air for French (2) and relays English
(1) with age 800; own desk 2 is on air for English and selects French with the given age. -/
def looping (age : Nat) : State :=
  let s := together (announced [] [⟨0, 2, .language 1, .onAir, none, 800, 900⟩] [])
  modifyDesk 2 (fun d => { d with
    fitted := true, present := true, state := .onAir, output := some 1, relay := .language 2, selectionAge := age }) s

/-- With age 1 it is forced, as in the example. The announced 800 is estimated 801, the entry of `together` being one switch
point old: the higher station keeps with 804, three more, and not with 803 (R50, R133). -/
theorem witness_LoopCheckAndSourceStep :
    let t := after .ownSlot (looping 1)
    Live (looping 1) ∧ (looping 1).station.state = .running ∧ (looping 1).booth.desks.length = 4 ∧
    (deskOf t 2).relay = .floor ∧ (deskOf t 2).selectionAge = 0 ∧ (deskOf t 2).loopMark = true ∧
    flagSet t .relayLoop = true ∧ (deskOf t 2).pendingSource = .floor ∧
    loopForced (looping 803) 2 = true ∧ loopForced (looping 804) 2 = false := by decide +kernel

/-- Section 5.11 at station 5, station 4 in the place of station 9: class before age, the peer's seat between. -/
def ranked : State :=
  let s := under (fun x => { x with mode := .queue, autoAdvance := true }) (together { announced
    [⟨30, 0, .mic .opened, 1, 50, none⟩] [] [] with requests := [⟨12, 0, 400⟩] })
  { s with floor := { s.floor with requests := [⟨6, 1, 50⟩, ⟨4, 0, 300⟩] } }

theorem witness_PlacesAndRoomRanking :
    (roomRanking ranked).map (fun r => (r.station, r.seat)) = [(5, 6), (4, 12), (5, 4)] ∧ countedHolders ranked = 1 ∧
    freePlaces ranked = 1 ∧ (deriveAutoAdvance ranked).claims.placeWants = [⟨6, 1, none, .autoAdvance⟩] ∧
    (after .ownSlot ranked).claims.places = [⟨.intent false, 6, 1, none, 0, .autoAdvance⟩] := by decide +kernel
theorem witness_PlacesAndRoomRanking_alone :
    let s := { under (fun x => { x with mode := .queue, autoAdvance := true }) running with
      floor := { running.floor with requests := [⟨6, 1, 50⟩] } }
    Live s ∧ s.station.state = .running ∧ UplinkLaw s ∧ s.room.current = none ∧ s.room.queue = [] ∧
    s.room.members = [s.station.number] ∧ s.claims.placeWants = [] ∧ (∀ c ∈ s.claims.places, c.stage = .hold ∧ c.seat ≠ 6) ∧
    (context s).level ≤ 1 ∧ 0 < freePlaces s ∧ s.dlc.uplinks[0]? = some none := by decide +kernel

/-- Station 5 hears language 3 on lane 17, which carries 77, until the first switch point after station 4's announcement
without it (R153); the floor is 1000. -/
def listening : State :=
  let p : Plan := { Plan.initial 5 with members := [4, 5], headphones := [.language 3], listeners := [⟨3, .lane 17⟩] }
  let desk := modifyDesk 0 (fun d => { d with relay := .language 3, pendingSource := .language 3 })
  let s := desk (under (fun x => { x with pivot := 0 }) busy)
  { s with
    mix := { s.mix with plan := p }
    lif := { s.lif with
      lanesIn := ((List.replicate 64 0).set 4 1000).set 17 77, latch := { s.lif.latch with compute := true }
      superframeAligned := true, sync := .locked, markMissing := 0, markSeen := true } }

/-- The frame computation of frame n of the superframe that begins at a switch point taken in s. -/
def heard (n : Nat) (s : State) : Mix := (after (.frameBoundary quiet) (atFrame n (after .switchPoint (atFrame 0 s)))).mix

/-- The new plan names the floor and keeps lane 17 for output frame 0, for which the LIF delivers its last sample; past
output frame 0 the floor is heard. -/
theorem test_floor_after_the_last_lane_sample :
    let s := after .switchPoint (atFrame 0 (peerArrival 4 plain listening))
    s.mix.plan.listeners = [⟨3, .floor⟩] ∧ s.mix.plan.headphonesLeave.take 1 = [some 17] ∧ s.lif.lanesIn[17]? = some 77 ∧
    s.booth.left = [] ∧ (heard 1 (peerArrival 4 plain listening)).headphoneOut.take 1 = [1000] := by decide +kernel

/-- Output frame 0, between R153 and R121: 77 or 1000, and nothing else. -/
theorem test_last_lane_sample_is_free :
    headphoneSample (atFrame 0 (after .switchPoint (atFrame 0 (peerArrival 4 plain listening)))) 0 =
      if Config.lastLaneSampleHeard = true then 77 else 1000 := by
  have h : ∀ s : State, s.mix.plan.headphones.getD 0 .floor = .language 3 → s.mix.plan.headphonesLeave.getD 0 none = some 17 →
      s.lif.frame = 0 → s.lif.lanesIn.getD 17 0 = 77 → listenerSample s 3 = 1000 →
      headphoneSample s 0 = if Config.lastLaneSampleHeard = true then 77 else 1000 := by
    intro s h1 h2 h3 h4 h5
    simp only [headphoneSample, listenerTakes, h1, h2, h3, h4, h5]
    cases Config.lastLaneSampleHeard <;> decide
  exact h _ (by decide +kernel) (by decide +kernel) (by decide +kernel) (by decide +kernel) (by decide +kernel)

/-- A downlink channel that takes language 3 at that switch point carries its listener source from output frame 0 on
(R163), and so does every listener whose lane no announcement has let go. -/
theorem test_only_a_listener_of_the_lane_has_the_choice :
    let fresh := fun (s : State) => { s with seats := { s.seats with channels := s.seats.channels.set 2 (some ⟨3, 1⟩) } }
    (heard 0 (fresh (peerArrival 4 plain listening))).downlinkOut[2]? = some 1000 ∧
    (after .switchPoint (atFrame 0 listening)).mix.plan.headphonesLeave = List.replicate 4 none := by decide +kernel

theorem witness_PortStatements_kind :
    recordOf busy 1 4 = some (.peerEntry .running 2 (some 7) (some ⟨4, 2, 0, 1, 1⟩) false) ∧
    recordOf busy 1 3 = some (.peerEntry .absent 0 none none false) ∧
    recordOf running 9 0 = some (.downlinks (.floor :: List.replicate 7 .free)) := by decide +kernel

theorem witness_PortStatements : Live fresh ∧ Live running ∧ fresh.station.state = .unconfigured ∧
    running.station.state ≠ .unconfigured ∧ (60 : Byte).toNat = 60 ∧ running.room.queue.length < 4 ∧
    4 ≤ ({ running with room := { running.room with queue := List.replicate 4 ⟨.cancelAll, 0⟩ } } : State).room.queue.length ∧
    (30 : Byte).toNat ≤ seatCount running ∧ seatCount running < (31 : Byte).toNat := by decide +kernel

theorem witness_CommandFramesDecode : (Instr.clearEvents 0x1801).wf = true ∧
    encodePortFrame (.clearEvents 0x1801) = some [0x05, 0x18, 0x01] ∧ (Instr.badCommandFrame [0x0B]).wf = true := by
  decide +kernel

theorem witness_AnnouncementRoundTrip : AnnouncementLaw { announced [⟨60, 3, .mic .closing, 31, 65535, some ⟨15, 60⟩⟩]
    [⟨3, 31, .language 31, .intent, some ⟨15, 3⟩, 65535, 65535⟩] [⟨true, 63, 31, 65535⟩] with
      command := some ⟨.grantNext, 6⟩, requests := [⟨1, 0, 0⟩] } := by decide +kernel

theorem witness_InvalidAnnouncements : validAnnouncement 4 plainSlot = some plain ∧ (∃ f ∈ spoilt, f.1 = false) :=
  ⟨test_validAnnouncement, by decide +kernel⟩

/-- The laws that every step keeps hold together in a state with peers, a mic, a desk on air and a Held lane. -/
def lively : State :=
  let s := desked 0 .onAir (speaking .opened 8 40 busy)
  { s with
    claims := { s.claims with languages := [⟨.hold, 1, 3, none⟩], lanes := [⟨.hold, 16, 3⟩] }
    lanes := ⟨[⟨16, 3, true, 5, false⟩], []⟩
    pending := [.switchPoint] }

theorem witness_StepKeeps_station : StationLaw lively ∧ LinkLaw lively ∧ RoomLaw lively ∧ ContextLaw lively := by decide +kernel
theorem witness_StepKeeps_config : ∀ c ∈ lively.station.config, ConfigLaw lively.station.number c := by decide +kernel
theorem witness_StepKeeps_mics : MicLaw lively ∧ RelayLaw lively := by decide +kernel
theorem witness_StepKeeps_desks : SizeLaw lively ∧ DeskLaw lively := by decide +kernel
theorem witness_StepKeeps_holds : UplinkLaw lively ∧ LaneLaw lively := by decide +kernel
theorem witness_OwnSlotDoesTheClaimWork : Live lively ∧ lively.station.state = .running ∧ lively.claims.languages ≠ [] ∧
    hasDemand (after .ownSlot { lively with peers := lively.peers.set 4 (some ⟨2, 1, plain⟩) }) 3 = true := by decide +kernel

/-- The Held lane 16 marked for release, beside a lane intent without demand: both go at the own slot (R151, R42). -/
def releasing : State :=
  { lively with
    claims := { lively.claims with languages := [], lanes := [⟨.hold, 16, 3⟩, ⟨.intent false, 63, 4⟩] }
    booth := (modifyDesk 1 (fun d => { d with state := .off }) lively).booth
    lanes := ⟨[⟨16, 3, true, 5, true⟩, ⟨63, 4, false, 0, false⟩], []⟩ }

theorem witness_OwnSlotDoesTheClaimWork_release_laws : UplinkLaw releasing ∧ LaneLaw releasing ∧ Live releasing ∧
    releasing.station.state = .running := by decide +kernel
theorem witness_OwnSlotDoesTheClaimWork_release_desks : SizeLaw releasing ∧ DeskLaw releasing := by decide +kernel
theorem witness_OwnSlotDoesTheClaimWork_release :
    (after .ownSlot releasing).lanes.holdings = [] ∧ (after .ownSlot releasing).claims.lanes = [] := by decide +kernel
/-- The release mark follows the demand: the premise of R146 holds with demand, and without it. -/
theorem witness_OwnSlotDoesTheClaimWork_marks : StationLaw lively ∧ hasDemand lively 3 = true ∧ hasDemand releasing 3 = false ∧
    (evalDemand { lively with lanes := releasing.lanes }).lanes.holdings.map (·.release) = [false, false] ∧
    (evalDemand { releasing with lanes := lively.lanes }).lanes.holdings.map (·.release) = [true] := by decide +kernel

/-- Eight present units that select languages 1..8: the eighth waits. -/
def seated : State := (List.range' 1 8).foldl (fun s a =>
  assignSelection a a (modifyUnit a (fun u => { u with present := true, selection := a }) s)) running

/-- Nine units in all: the ninth joins the tail with SeatChannelShortage; unit 1, the last listener of channel 1, leaves it to
the head of the list (R157, R159, R160). -/
theorem witness_SeatChannelsAreHandedOver :
    let nine := assignSelection 9 9 (modifyUnit 9 (fun u => { u with present := true, selection := 9 }) seated)
    let t := handOverSelection 1 9 nine
    nine.seats.deferred = [8, 9] ∧ flagSet nine .seatChannelShortage = true ∧ channelOf t 1 = some ⟨8, 1⟩ ∧
    assignmentOf t 8 = some 1 ∧ t.seats.deferred = [9, 1] ∧ assignmentOf t 1 = some 0 ∧
    channelOf (assignSelection 9 7 seated) 7 = some ⟨7, 2⟩ ∧ channelOf (dropSelection 7 running) 7 = none := by decide +kernel

theorem witness_StepKeeps_sizes : SizeLaw seated ∧ PollLaw seated := by decide +kernel
theorem witness_StepKeeps_channels : ChannelLaw seated := by decide +kernel
theorem witness_StepKeeps_deferred : DeferredLaw seated ∧ seated.seats.deferred = [8] := by decide +kernel
theorem witness_StepKeeps_answers : ∃ t, step lively = .next t := ⟨_, rfl⟩
theorem witness_OnlyTheseCommandsChange : (∃ t, exec .readEvents running = .next t) ∧ StationLaw running ∧
    running.station.accepted = true ∧ Live running := ⟨⟨_, rfl⟩, by decide +kernel, by decide +kernel, by decide +kernel⟩

end Sys2Proof.Tests
end

section
/-! SUPPORT and PROOF for the hall link: the alignment test of a superframe and the unaligned count (R1, R8 to R10).
First what each operation does to the two fields that R9 speaks of, then O14. -/

namespace Sys2Proof.Machine

/-! ### Isolated and Joining leave the link counts -/

/-- Entering Isolated, the Link Interface empties its write set and stops substituting (R7); its counts stay. -/
@[simp] theorem enterIsolated_lif (s : State) :
    (enterIsolated s).lif = { s.lif with writeSet := [], transmitting := false } := by
  simp [enterIsolated, isolateLink]

/-- Leaving Isolated for Joining, the Link Interface counts its epoch up (R12); its counts stay. -/
@[simp] theorem leaveIsolated_lif (s : State) :
    (leaveIsolated s).lif = { s.lif with epoch := (s.lif.epoch + 1) % 256 } := by
  simp [leaveIsolated, enterJoining]

/-- A link failure leaves the alignment test and the unaligned count, taken or not. -/
@[simp] theorem takeLinkFailure_alignment (s : State) :
    (takeLinkFailure s).lif.unaligned = s.lif.unaligned ∧
    (takeLinkFailure s).lif.superframeAligned = s.lif.superframeAligned := by
  unfold takeLinkFailure
  split <;> simp

/-- A link recovery leaves the alignment test and the unaligned count, taken or not. -/
@[simp] theorem takeLinkRecovery_alignment (s : State) :
    (takeLinkRecovery s).lif.unaligned = s.lif.unaligned ∧
    (takeLinkRecovery s).lif.superframeAligned = s.lif.superframeAligned := by
  unfold takeLinkRecovery
  split <;> simp

/-! ### The switch point (R9) -/

/-- The sync evaluation leaves the alignment test and the unaligned count, whichever of its branches is taken (R8). -/
@[simp] theorem evaluateSync_alignment (l : Lif) :
    (evaluateSync l).unaligned = l.unaligned ∧ (evaluateSync l).superframeAligned = l.superframeAligned := by
  cases h : l.sync with
  | searching => simp [evaluateSync, h]
  | locked =>
    simp only [evaluateSync, h]
    split_ifs <;> exact ⟨rfl, rfl⟩

/-- The count after the evaluation: 0 after an aligned superframe, else one more, up to 3 (R9). -/
@[simp] theorem evaluateLink_unaligned (l : Lif) :
    (evaluateLink l).unaligned = if l.superframeAligned then 0 else min (l.unaligned + 1) Config.unalignedLimit := by
  simp [evaluateLink, evaluateAlignment]

/-- The test of the next superframe starts afresh. -/
@[simp] theorem evaluateLink_superframeAligned (l : Lif) : (evaluateLink l).superframeAligned = true := rfl

/-- After the evaluation the work of a switch point changes write set and latch alone in the Link Interface, so the
evaluation decides the alignment test and the unaligned count. -/
@[simp] theorem switchPointWork_alignment (s : State) :
    (switchPointWork s).lif.unaligned = (evaluateLink s.lif).unaligned ∧
    (switchPointWork s).lif.superframeAligned = (evaluateLink s.lif).superframeAligned := by
  simp [switchPointWork, latchWriteSet]

/-- The same for the whole switch point: what it hands over leaves both (R10). -/
@[simp] theorem switchPointOp_alignment (s : State) :
    (switchPointOp s).lif.unaligned = (evaluateLink s.lif).unaligned ∧
    (switchPointOp s).lif.superframeAligned = (evaluateLink s.lif).superframeAligned := by
  simp [switchPointOp]

/-! ### The frame boundary (R1, R9) -/

/-- Collecting the control field of a frame leaves what the alignment test reads and counts. -/
@[simp] theorem receiveControl_alignment (f : FrameIn) (s : State) :
    (receiveControl f s).lif.unaligned = s.lif.unaligned ∧
    (receiveControl f s).lif.superframeAligned = s.lif.superframeAligned ∧
    (receiveControl f s).lif.boundary = s.lif.boundary := by
  simp only [receiveControl]
  split_ifs <;> exact ⟨rfl, rfl, rfl⟩

/-- A frame was aligned when its pattern stood where HLCK put it (R1). -/
theorem frameAligned_iff (s : State) (f : FrameIn) :
    frameAligned s f = true ↔ f.pattern = true ∧ s.lif.boundary = .hlck := by
  simp [frameAligned]

/-- The frame that ends joins the alignment test of its superframe, by the boundary that began it; the unaligned
count waits for the switch point. -/
@[simp] theorem endFrame_alignment (f : FrameIn) (s : State) :
    (endFrame f s).lif.unaligned = s.lif.unaligned ∧
    (endFrame f s).lif.superframeAligned = (s.lif.superframeAligned && frameAligned s f) := by
  simp [endFrame, deliver, frameAligned, putOut]

/-- The frame that begins leaves the alignment test and the unaligned count. -/
@[simp] theorem beginFrame_alignment (f : FrameIn) (s : State) :
    (beginFrame f s).lif.unaligned = s.lif.unaligned ∧
    (beginFrame f s).lif.superframeAligned = s.lif.superframeAligned := by
  simp [beginFrame, latchFrame, advanceFrame]

/-- A frame boundary of a live station adds its frame to the alignment test and leaves the unaligned count (R9). -/
theorem frameBoundaryOp_alignment (f : FrameIn) (s : State) (hs : Live s) :
    (frameBoundaryOp f s).lif.unaligned = s.lif.unaligned ∧
    (frameBoundaryOp f s).lif.superframeAligned = (s.lif.superframeAligned && frameAligned s f) := by
  have expiry : frameAligned (takeExpiry s) f = frameAligned s f := by simp [frameAligned]
  simp [frameBoundaryOp, hs, expiry]

/-! ### The house sync mark (R8, R9) -/

/-- Acquiring the sync leaves the alignment test and the unaligned count. -/
@[simp] theorem acquire_alignment (s : State) :
    (acquire s).lif.unaligned = s.lif.unaligned ∧ (acquire s).lif.superframeAligned = s.lif.superframeAligned :=
  ⟨rfl, rfl⟩

/-- A superframe cut short fails the alignment test; the unaligned count waits for the switch point (R9). -/
@[simp] theorem cutShort_alignment (s : State) :
    (cutShort s).lif.unaligned = s.lif.unaligned ∧ (cutShort s).lif.superframeAligned = false :=
  ⟨rfl, rfl⟩

/-- In Searching, a mark inside a superframe cuts it short, past the windows that the reset closes (R8). -/
theorem hsyncOp_cutsShort (u : Option UnitReply) (d : Option DeskReply) (s : State) (hsync : s.lif.sync = .searching)
    (hframe : s.lif.frame ≠ 0) : hsyncOp u d s = acquire (cutShort (resetBooth d (resetPolling u s))) := by
  simp [hsyncOp, hsync, hframe]

/-! ### What a live station does with the three commands -/

/-- A live station takes a switch point. -/
theorem exec_switchPoint_of_live (s : State) (hs : Live s) : exec .switchPoint s = .next (switchPointOp s) := by
  simp [exec, execSwitchPoint, hs]

/-- A live station takes a house sync mark. -/
theorem exec_hsyncMark_of_live (u : Option UnitReply) (d : Option DeskReply) (s : State) (hs : Live s) :
    exec (.hsyncMark u d) s = .next (hsyncOp u d s) := by
  simp [exec, execHsyncMark, hs]

/-- Every station takes a frame boundary. -/
theorem exec_frameBoundary (f : FrameIn) (s : State) : exec (.frameBoundary f) s = .next (frameBoundaryOp f s) := rfl

/-! ### O14 -/

/-- Settles O14: a switch point evaluates the test (`switchPointOp_alignment`), a frame boundary adds its frame to it
(`frameBoundaryOp_alignment`), and a mark that resets the counter fails it (`hsyncOp_cutsShort`). -/
theorem unalignedCount : Obligations.UnalignedCount := by
  intro s hs
  refine ⟨⟨_, exec_switchPoint_of_live s hs, ?_, ?_, ?_⟩, fun f => ⟨_, exec_frameBoundary f s, ?_⟩,
    fun u d hsync hframe => ⟨_, exec_hsyncMark_of_live u d s hs, ?_⟩⟩
  · intro haligned
    simp [haligned]
  · intro hunaligned
    simp [hunaligned, Config.unalignedLimit]
  · simp
  · obtain ⟨hcount, htest⟩ := frameBoundaryOp_alignment f s hs
    exact ⟨hcount, by rw [htest, Bool.and_eq_true, frameAligned_iff]⟩
  · simp [hsyncOp_cutsShort u d s hsync hframe]

end Sys2Proof.Machine
end

section
/-! SUPPORT and PROOF for the rooms: what the membership of R27 holds, by its passes and by reachability, and how an
override of a wall acts (R24). First the reports and the passes with O34, then the override with O38. -/

namespace Sys2Proof.Machine

/-! ### Reports and candidates (R26, R27) -/

/-- The states reported about a pair come from the reports of either side that name the other. -/
theorem mem_pairReports (s : State) (a b : Nat) (x : WallState) : x ∈ pairReports s a b ↔
    (∃ w ∈ reportsOf s a, w.neighbour = b ∧ w.state = x) ∨
    ∃ w ∈ reportsOf s b, w.neighbour = a ∧ w.state = x := by
  simp [pairReports, and_assoc]

/-- The pair counts open: there is a report about it and every report says Open (R26). -/
theorem countsOpen_iff (s : State) (a b : Nat) : countsOpen s a b = true ↔ a ≠ b ∧
    ((∃ w ∈ reportsOf s a, w.neighbour = b) ∨ ∃ w ∈ reportsOf s b, w.neighbour = a) ∧
    (∀ w ∈ reportsOf s a, w.neighbour = b → w.state = .opened) ∧
    ∀ w ∈ reportsOf s b, w.neighbour = a → w.state = .opened := by
  have reported : (pairReports s a b).isEmpty = false ↔
      (∃ w ∈ reportsOf s a, w.neighbour = b) ∨ ∃ w ∈ reportsOf s b, w.neighbour = a := by
    rw [List.isEmpty_eq_false_iff_exists_mem]
    simp only [mem_pairReports]
    constructor
    · rintro ⟨x, ⟨w, hw, hb, -⟩ | ⟨w, hw, ha, -⟩⟩
      · exact .inl ⟨w, hw, hb⟩
      · exact .inr ⟨w, hw, ha⟩
    · rintro (⟨w, hw, hb⟩ | ⟨w, hw, ha⟩)
      · exact ⟨w.state, .inl ⟨w, hw, hb, rfl⟩⟩
      · exact ⟨w.state, .inr ⟨w, hw, ha, rfl⟩⟩
  have allOpen : (pairReports s a b).all (fun w => w == .opened) = true ↔
      (∀ w ∈ reportsOf s a, w.neighbour = b → w.state = .opened) ∧
      ∀ w ∈ reportsOf s b, w.neighbour = a → w.state = .opened := by
    simp [pairReports, ← imp_iff_not_or]
  simp [countsOpen, reported, allOpen, and_assoc]

/-- The Running peers are the stations of the hall but the own one whose entry says Running. -/
theorem mem_runningPeers (s : State) (t : Nat) (e : PeerEntry) : (t, e) ∈ runningPeers s ↔
    t < 16 ∧ t ≠ s.station.number ∧ peerAt s t = some e ∧ e.content.running = true := by
  simp only [runningPeers, List.mem_filterMap, List.mem_range, Config.stations]
  constructor
  · rintro ⟨k, hk, h⟩
    split_ifs at h with hown
    split at h
    · next e' he =>
      split_ifs at h with hrun
      obtain ⟨rfl, rfl⟩ := Prod.mk.inj (Option.some.inj h)
      exact ⟨hk, hown, he, hrun⟩
    · cases h
  · rintro ⟨ht, hown, he, hrun⟩
    exact ⟨t, ht, by simp [hown, he, hrun]⟩

/-- The candidates are the station itself and its Running peers (R27). -/
theorem mem_candidates (s : State) (hn : s.station.number < 16) (m : Nat) : m ∈ candidates s ↔
    m = s.station.number ∨ m < 16 ∧ ∃ e, peerAt s m = some e ∧ e.content.running = true := by
  have peer : (runningPeers s).any (fun p => p.1 == m) = true ↔ ∃ e, (m, e) ∈ runningPeers s := by simp
  simp only [candidates, List.mem_filter, List.mem_range, Config.stations, Bool.or_eq_true, beq_iff_eq, peer,
    mem_runningPeers]
  by_cases hm : m = s.station.number
  · simp [hm, hn]
  · simp [hm]

/-- Every candidate is a station of the hall. -/
theorem lt_of_mem_candidates {s : State} {m : Nat} (h : m ∈ candidates s) : m < 16 := by
  simpa [Config.stations] using List.mem_of_mem_filter h

/-- The candidates are in ascending order. -/
theorem candidates_ascending (s : State) : (candidates s).Pairwise (· < ·) := List.pairwise_lt_range.filter _

/-! ### The passes (R27) -/

/-- A pass keeps the members that are candidates and adds the candidates that count open with a member. -/
theorem mem_memberPass (s : State) (members : List Nat) (m : Nat) : m ∈ memberPass s members ↔
    m ∈ candidates s ∧ (m ∈ members ∨ ∃ a ∈ members, countsOpen s a m = true) := by
  simp [memberPass]

/-- A pass over more members gives more members. -/
theorem memberPass_mono (s : State) {xs ys : List Nat} (h : xs ⊆ ys) : memberPass s xs ⊆ memberPass s ys := by
  intro m hm
  obtain ⟨hc, hx | ⟨a, ha, hopen⟩⟩ := (mem_memberPass s xs m).mp hm
  · exact (mem_memberPass s ys m).mpr ⟨hc, .inl (h hx)⟩
  · exact (mem_memberPass s ys m).mpr ⟨hc, .inr ⟨a, h ha, hopen⟩⟩

/-- The members after every number of passes are in ascending order. -/
theorem memberPasses_ascending (s : State) : ∀ k, (memberPasses s k).Pairwise (· < ·)
  | 0 => List.pairwise_singleton _ _
  | _ + 1 => (candidates_ascending s).filter _

section
variable {s : State}

/-- The members after every number of passes are candidates. -/
theorem memberPasses_subset_candidates (hn : s.station.number < 16) (k : Nat) : memberPasses s k ⊆ candidates s := by
  cases k with
  | zero =>
    intro m hm
    exact (mem_candidates s hn m).mpr (.inl (List.mem_singleton.mp hm))
  | succ k => exact List.filter_subset_self _

/-- A further pass loses no member. -/
theorem memberPasses_subset_succ (hn : s.station.number < 16) (k : Nat) : memberPasses s k ⊆ memberPasses s (k + 1) :=
  fun m hm => (mem_memberPass s _ m).mpr ⟨memberPasses_subset_candidates hn k hm, .inl hm⟩

/-- The station itself is a member after every number of passes. -/
theorem self_mem_memberPasses (hn : s.station.number < 16) (k : Nat) : s.station.number ∈ memberPasses s k := by
  induction k with
  | zero => exact List.mem_singleton_self _
  | succ k ih => exact memberPasses_subset_succ hn k ih

/-- After k passes a further pass adds nothing, or there are more than k members: a pass that adds nothing is followed
by none that does. -/
theorem memberPasses_closed_or_card (hn : s.station.number < 16) (k : Nat) :
    memberPasses s (k + 1) ⊆ memberPasses s k ∨ k < (memberPasses s k).toFinset.card := by
  induction k with
  | zero => exact .inr (by simp [memberPasses])
  | succ k ih =>
    by_cases hclosed : memberPasses s (k + 1) ⊆ memberPasses s k
    · exact .inl (memberPass_mono s hclosed)
    · have grows : (memberPasses s k).toFinset ⊂ (memberPasses s (k + 1)).toFinset :=
        ⟨fun m hm => List.mem_toFinset.mpr (memberPasses_subset_succ hn k (List.mem_toFinset.mp hm)),
          fun h => hclosed fun m hm => List.mem_toFinset.mp (h (List.mem_toFinset.mpr hm))⟩
      have more := Finset.card_lt_card grows
      have many := ih.resolve_left hclosed
      exact .inr (by omega)

/-- 15 passes are enough (R27): more than 15 members are all stations of the hall. -/
theorem memberPasses_fifteen_closed (hn : s.station.number < 16) : memberPasses s 16 ⊆ memberPasses s 15 := by
  rcases memberPasses_closed_or_card hn 15 with hclosed | hcard
  · exact hclosed
  · have inHall : ∀ k, ∀ m ∈ memberPasses s k, m < 16 := fun k m hm =>
      lt_of_mem_candidates (memberPasses_subset_candidates hn k hm)
    have all : (memberPasses s 15).toFinset = Finset.range 16 :=
      Finset.eq_of_subset_of_card_le (fun m hm => Finset.mem_range.mpr (inHall 15 m (List.mem_toFinset.mp hm)))
        (by rw [Finset.card_range]; omega)
    intro m hm
    exact List.mem_toFinset.mp (all ▸ Finset.mem_range.mpr (inHall 16 m hm))

/-! ### Reachability -/

/-- One link of a chain: from station a to a candidate b whose pair with a counts open (R27). -/
def OpenLink (s : State) (a b : Nat) : Prop := b ∈ candidates s ∧ countsOpen s a b = true

/-- Every member after k passes is reached over counted-open pairs of candidates. -/
theorem reachable_of_mem_memberPasses (k : Nat) : ∀ m ∈ memberPasses s k,
    Relation.ReflTransGen (OpenLink s) s.station.number m := by
  induction k with
  | zero =>
    intro m hm
    rw [List.mem_singleton.mp hm]
  | succ k ih =>
    intro m hm
    obtain ⟨hc, hold | ⟨a, ha, hopen⟩⟩ := (mem_memberPass s _ m).mp hm
    · exact ih m hold
    · exact (ih a ha).tail ⟨hc, hopen⟩

/-- What is reached over counted-open pairs of candidates is a member after 15 passes. -/
theorem mem_memberPasses_of_reachable (hn : s.station.number < 16) {m : Nat}
    (h : Relation.ReflTransGen (OpenLink s) s.station.number m) : m ∈ memberPasses s 15 := by
  induction h with
  | refl => exact self_mem_memberPasses hn 15
  | tail _ step ih =>
    obtain ⟨hc, hopen⟩ := step
    exact memberPasses_fifteen_closed hn ((mem_memberPass s _ _).mpr ⟨hc, .inr ⟨_, ih, hopen⟩⟩)

/-- The membership of a Running station is the result of the 15 passes. -/
theorem membershipOf_of_running (hrun : s.station.state = .running) : membershipOf s = memberPasses s 15 := if_pos hrun

end

/-- The head is the lowest of the station itself and the members (R27). -/
theorem headOf_spec (s : State) (members : List Nat) : headOf s members ∈ s.station.number :: members ∧
    ∀ m ∈ s.station.number :: members, headOf s members ≤ m :=
  List.min?_eq_some_iff.mp List.min?_cons'

/-! ### O34 -/

/-- Settles O34: the passes reach no more than the chains do (`reachable_of_mem_memberPasses`) and, closed after 15 of
them, no less (`mem_memberPasses_of_reachable`). -/
theorem membershipIsReachability : Obligations.MembershipIsReachability := by
  intro s hrun hn
  rw [membershipOf_of_running hrun]
  obtain ⟨headMem, headLe⟩ := headOf_spec s (memberPasses s 15)
  refine ⟨fun m => ⟨reachable_of_mem_memberPasses 15 m, mem_memberPasses_of_reachable hn⟩, memberPasses_ascending s 15,
    ⟨?_, fun m hm => headLe m (List.mem_cons_of_mem _ hm)⟩, mem_candidates s hn, countsOpen_iff s⟩
  rcases List.mem_cons.mp headMem with hself | hmem
  · rw [hself]
    exact self_mem_memberPasses hn 15
  · exact hmem

/-! ### What the membership reads -/

/-- The membership is worked out from the station, its Peer Table and its walls alone. -/
theorem membershipOf_congr {s t : State} (hstation : t.station = s.station) (hpeers : t.peers = s.peers)
    (hwalls : t.walls = s.walls) : membershipOf t = membershipOf s := by
  have peer : peerAt t = peerAt s := by funext m; simp [peerAt, hpeers]
  have reports : reportsOf t = reportsOf s := by
    funext m
    simp [reportsOf, ownWalls, peer, hstation, hwalls]
  have cands : candidates t = candidates s := by simp [candidates, runningPeers, peer, hstation]
  have counts : countsOpen t = countsOpen s := by
    funext a b
    simp [countsOpen, pairReports, reports]
  have passes : ∀ k, memberPasses t k = memberPasses s k := by
    intro k
    induction k with
    | zero => simp [memberPasses, hstation]
    | succ k ih => simp [memberPasses, memberPass, ih, cands, counts]
  simp [membershipOf, passes, hstation]

/-! ### Flags in a recomputation -/

/-- A recomputation clears no flag (R30). -/
theorem recompute_flag_stays (s : State) (n : Nat) (h : s.port.flags.getLsbD n = true) :
    (recompute s).port.flags.getLsbD n = true := by
  simp only [recompute, presentContextChange_keeps]
  split
  · simpa using h
  · rw [presentMembership_raises]
    exact (raise_getLsbD _ _ n).mpr (.inl (by simpa using h))

/-! ### The override of a wall (R24, R179) -/

/-- The three codes of the overrides (Table 12-1). -/
theorem overrideOfCode_eq_some_iff (n : Nat) (o : WallOverride) : overrideOfCode n = some o ↔
    n = 0 ∧ o = .auto ∨ n = 1 ∧ o = .forceOpen ∨ n = 2 ∧ o = .forceClosed := by
  match n with
  | 0 | 1 | 2 | n + 3 => simp [overrideOfCode, eq_comm]

/-- Every code above 2 names no override. -/
theorem overrideOfCode_eq_none {n : Nat} (h : 2 < n) : overrideOfCode n = none := by
  match n, h with
  | n + 3, _ => rfl

/-- SetWallOverride with a bad input or override is answered BadArgument and changes nothing. -/
theorem setWallOverrideOp_refused (input setting : Byte) (s : State) (h : 3 < input.toNat ∨ 2 < setting.toNat) :
    setWallOverrideOp input setting s = answer 0x08 .badArgument s := by
  unfold setWallOverrideOp
  split
  · next o ho =>
    rcases h with h | h
    · rw [if_neg (by omega)]
    · simp [overrideOfCode_eq_none h] at ho
  · rfl

/-- SetWallOverride with a good input and override sets it and is answered Ok. -/
theorem setWallOverrideOp_taken (input setting : Byte) (o : WallOverride) (s : State) (hi : input.toNat ≤ 3)
    (ho : overrideOfCode setting.toNat = some o) :
    setWallOverrideOp input setting s = answer 0x08 .ok (overrideWall input.toNat o s) := by
  simp [setWallOverrideOp, ho, hi]

/-- A station that is not held in reset takes SetWallOverride. -/
theorem exec_setWallOverride_of_live (input setting : Byte) (s : State) (hs : Live s) :
    exec (.setWallOverride input setting) s = .next (setWallOverrideOp input setting s) := by
  simp [exec, execSetWallOverride, hs]

/-- An override sets that field of the one wall record. -/
theorem overrideWall_walls (x : Nat) (o : WallOverride) (s : State) :
    (overrideWall x o s).walls = s.walls.set x { wallOf s x with setting := o } := by
  simp [overrideWall, setWall]

/-- An override that leaves the effective state as it was, or of a wall not configured, only sets the record (R24). -/
theorem overrideWall_unchanged (x : Nat) (o : WallOverride) (s : State)
    (h : (wallOf s x).neighbour = none ∨ effective (wallOf s x) = effective { wallOf s x with setting := o }) :
    overrideWall x o s = setWall x { wallOf s x with setting := o } s := by
  rcases h with h | h <;> simp [overrideWall, handWallOn, raiseIf, h]

/-- An override that changes the effective state of a configured wall raises WallChanged and hands it on (R24). -/
theorem overrideWall_changed (x : Nat) (o : WallOverride) (s : State) (hn : (wallOf s x).neighbour ≠ none)
    (he : effective (wallOf s x) ≠ effective { wallOf s x with setting := o }) : overrideWall x o s =
      evalDemand (recompute (raise .wallChanged (setWall x { wallOf s x with setting := o } s))) := by
  have configured : (wallOf s x).neighbour.isSome = true := Option.isSome_iff_ne_none.mpr hn
  simp [overrideWall, handWallOn, raiseIf, configured, hn, he]

/-- An effective change of a configured wall by its override sets WallChanged (bit 1 of Table 12-3). -/
theorem overrideWall_changed_flag (x : Nat) (o : WallOverride) (s : State) (hn : (wallOf s x).neighbour ≠ none)
    (he : effective (wallOf s x) ≠ effective { wallOf s x with setting := o }) :
    (overrideWall x o s).port.flags.getLsbD 1 = true := by
  simp only [overrideWall_changed x o s hn he, evalDemand_keeps]
  exact recompute_flag_stays _ 1 ((raise_getLsbD _ _ 1).mpr (.inr rfl))

/-- An effective change of a configured wall by its override reaches the membership at once (R29). -/
theorem overrideWall_changed_members (x : Nat) (o : WallOverride) (s : State) (hn : (wallOf s x).neighbour ≠ none)
    (he : effective (wallOf s x) ≠ effective { wallOf s x with setting := o }) : (overrideWall x o s).room.members =
      membershipOf { s with walls := s.walls.set x { wallOf s x with setting := o } } := by
  rw [overrideWall_changed x o s hn he]
  simp only [evalDemand_keeps, recompute_room]
  exact membershipOf_congr rfl rfl rfl

/-! ### O38 -/

/-- Settles O38: a refused command is answered alone (`setWallOverrideOp_refused`); a taken one sets the record, and
what else it does turns on the effective state (`overrideWall_unchanged`, `overrideWall_changed`). -/
theorem wallOverrideActsAtOnce : Obligations.WallOverrideActsAtOnce := by
  intro s input setting hs _
  rw [exec_setWallOverride_of_live input setting s hs]
  refine ⟨fun hbad => by rw [setWallOverrideOp_refused input setting s hbad]; rfl, ?_⟩
  intro o hi ho w was is
  rw [setWallOverrideOp_taken input setting o s hi ((overrideOfCode_eq_some_iff _ o).mpr ho)]
  refine ⟨_, rfl, overrideWall_walls input.toNat o s, rfl, rfl, ?_, ?_, ?_⟩
  · simp [answer]
  · intro hsame
    rw [overrideWall_unchanged input.toNat o s hsame]
    rfl
  · intro hn hchanged
    simp only [answer_keeps, overrideWall_walls]
    exact ⟨overrideWall_changed_flag _ o s hn hchanged, overrideWall_changed_members _ o s hn hchanged⟩

end Sys2Proof.Machine
end

section
/-! SUPPORT and PROOF for the settlement of a lane intent: when it wins against the Running peers of the building, and
what the Lane Manager and the Claim Unit hold after its settlement (R48, R49), with O26. -/

namespace Sys2Proof.Machine

/-! ### Lane claims and holdings (R37, R145) -/

/-- Under the lane law two lane claims of one lane are one entry. -/
theorem LaneLaw.claim_unique {s : State} (law : LaneLaw s) {c x : LaneClaim} (hc : c ∈ s.claims.lanes)
    (hx : x ∈ s.claims.lanes) (hlane : x.lane = c.lane) : x = c := by
  obtain ⟨-, -, claimLanes, -, -⟩ := law
  exact List.inj_on_of_nodup_map claimLanes hx hc hlane

/-- Under the lane law every lane claim has a holding of its lane, with its language. -/
theorem LaneLaw.holding_of_claim {s : State} (law : LaneLaw s) {c : LaneClaim} (hc : c ∈ s.claims.lanes) :
    ∃ h ∈ s.lanes.holdings, h.lane = c.lane ∧ h.language = c.language := by
  have ⟨_, _, _, holdingHasClaim, claimHasHolding⟩ := law
  obtain ⟨h, hh, hlane⟩ := claimHasHolding c hc
  obtain ⟨-, -, -, x, hx, hxlane, hxlanguage, -⟩ := holdingHasClaim h hh
  obtain rfl := law.claim_unique hc hx (hxlane.trans hlane)
  exact ⟨h, hh, hlane, hxlanguage.symm⟩

/-! ### What a won and a lost lane leave -/

/-- The holdings after a lane is won: those of the lane are Held with hold age 0 (R49). -/
@[simp] theorem laneWon_holdings (n : Nat) (s : State) : (laneWon n s).lanes.holdings =
    s.lanes.holdings.map (fun h => if h.lane == n then { h with held := true, age := 0 } else h) := rfl

/-- The lane claims after an Intent is dropped: those of its lane that are Intents are gone (R49). -/
@[simp] theorem dropLaneIntent_lanes (c : LaneClaim) (s : State) : (dropLaneIntent c s).claims.lanes =
    s.claims.lanes.filter (fun x => !(x.lane == c.lane && isIntent x.stage)) := rfl

/-- The holdings after an Intent is dropped: those of its lane are gone (R49). -/
@[simp] theorem dropLaneIntent_holdings (c : LaneClaim) (s : State) :
    (dropLaneIntent c s).lanes.holdings = s.lanes.holdings.filter (fun h => h.lane != c.lane) := rfl

/-! ### The outcome (R48) -/

/-- A lane intent wins when every Running peer that announces the lane announces it as Intent and has no lower number. -/
theorem laneWins_iff (s : State) (c : LaneClaim) : laneWins s c = true ↔ ∀ t e, (t, e) ∈ runningPeers s →
    ∀ x ∈ e.content.lanes, x.lane = c.lane → x.held = false ∧ ¬ t < s.station.number := by
  simp [laneWins]

/-! ### The settlement (R49) -/

/-- The lane claims after a win: those of the lane are Holds. -/
theorem settleLane_lanes_of_win {s : State} {c : LaneClaim} (win : laneWins s c = true) :
    (settleLane s c).claims.lanes =
      s.claims.lanes.map (fun x => if x.lane == c.lane then { x with stage := .hold } else x) := by
  simp [settleLane, win]

/-- The holdings after a win: those of the lane are Held with hold age 0. -/
theorem settleLane_holdings_of_win {s : State} {c : LaneClaim} (win : laneWins s c = true) :
    (settleLane s c).lanes.holdings =
      s.lanes.holdings.map (fun h => if h.lane == c.lane then { h with held := true, age := 0 } else h) := by
  simp [settleLane, win]

/-- A loss drops the Intent. -/
theorem settleLane_of_loss {s : State} {c : LaneClaim} (loss : laneWins s c = false) :
    settleLane s c = dropLaneIntent c s := by
  simp [settleLane, loss]

/-- After a win the claim is a Hold. -/
theorem hold_mem_settleLane {s : State} {c : LaneClaim} (hc : c ∈ s.claims.lanes) (win : laneWins s c = true) :
    { c with stage := .hold } ∈ (settleLane s c).claims.lanes := by
  rw [settleLane_lanes_of_win win]
  exact List.mem_map.mpr ⟨c, hc, by simp⟩

/-- After a win the lane has a holding with the language of the claim, Held with hold age 0. -/
theorem held_mem_settleLane {s : State} {c : LaneClaim} (law : LaneLaw s) (hc : c ∈ s.claims.lanes)
    (win : laneWins s c = true) : ∃ h ∈ (settleLane s c).lanes.holdings,
      h.lane = c.lane ∧ h.language = c.language ∧ h.held = true ∧ h.age = 0 := by
  obtain ⟨h, hh, hlane, hlanguage⟩ := law.holding_of_claim hc
  rw [settleLane_holdings_of_win win]
  exact ⟨{ h with held := true, age := 0 }, List.mem_map.mpr ⟨h, hh, by simp [hlane]⟩, hlane, hlanguage, rfl, rfl⟩

/-- After a loss no claim names the lane: the only one was the Intent that lost. -/
theorem settleLane_lanes_of_loss {s : State} {c : LaneClaim} (law : LaneLaw s) (hc : c ∈ s.claims.lanes)
    (intent : isIntent c.stage = true) (loss : laneWins s c = false) :
    ∀ x ∈ (settleLane s c).claims.lanes, x.lane ≠ c.lane := by
  rw [settleLane_of_loss loss, dropLaneIntent_lanes]
  intro x hx hlane
  obtain ⟨hmem, kept⟩ := List.mem_filter.mp hx
  obtain rfl := law.claim_unique hc hmem hlane
  simp [intent] at kept

/-- After a loss no holding names the lane. -/
theorem settleLane_holdings_of_loss {s : State} {c : LaneClaim} (loss : laneWins s c = false) :
    ∀ h ∈ (settleLane s c).lanes.holdings, h.lane ≠ c.lane := by
  simp [settleLane_of_loss loss]

/-! ### O26 -/

/-- Settles O26: the outcome turns on the Running peers (`laneWins_iff`, `mem_runningPeers`); the lane law pairs the claim
with the one holding that a win makes Held (`held_mem_settleLane`) and lets no second claim of the lane outlive a loss
(`settleLane_lanes_of_loss`). -/
theorem laneSettlement : Obligations.LaneSettlement := by
  intro s c law hc intent
  refine ⟨?_, fun win => ⟨hold_mem_settleLane hc win, held_mem_settleLane law hc win⟩,
    fun loss => ⟨settleLane_lanes_of_loss law hc intent loss, settleLane_holdings_of_loss loss⟩⟩
  simp only [laneWins_iff, mem_runningPeers]
  exact ⟨fun h t ht hown e he hrun => h t e ⟨ht, hown, he, hrun⟩,
    fun h t e ⟨ht, hown, he, hrun⟩ => h t ht hown e he hrun⟩

end Sys2Proof.Machine
end

section
/-! SUPPORT and PROOF for the auto-relay of a desk: which mic gives the floor language (R137), who holds a language in the
room (section 8.4), and what Auto resolves to (R138), with O47. -/

namespace Sys2Proof.Machine

/-! ### The first of a sorted list -/

/-- A list that holds something has a first element in order, and no element comes before it. -/
theorem head?_sortBy {α : Type} (before : α → α → Bool)
    (anti : ∀ a b, before a b = true → before b a = false)
    (trans : ∀ a b c, before b a = false → before c b = false → before c a = false) {xs : List α} (hxs : xs ≠ []) :
    ∃ m ∈ xs, (sortBy before xs).head? = some m ∧ ∀ x ∈ xs, before x m = false := by
  have irrefl (a : α) : before a a = false := Bool.eq_false_iff.mpr fun h => Bool.false_ne_true ((anti a a h).symm.trans h)
  have ordered := sortBy_ordered before anti trans xs
  have same : ∀ x, x ∈ sortBy before xs ↔ x ∈ xs := mem_sortBy before xs
  cases hsorted : sortBy before xs with
  | nil => exact absurd (hsorted ▸ sortBy_perm before xs).nil_eq.symm hxs
  | cons m ms =>
    rw [hsorted] at ordered same
    refine ⟨m, (same m).mp List.mem_cons_self, rfl, fun x hx => ?_⟩
    rcases List.mem_cons.mp ((same x).mpr hx) with rfl | hx
    · exact irrefl x
    · exact List.rel_of_pairwise_cons ordered hx

/-! ### The floor language (R137) -/

/-- The ranking of the room's mics in R137: class descending, open age, station and seat ascending. -/
def speaksBefore (a b : RoomMic) : Bool :=
  a.cls > b.cls || (a.cls == b.cls && (a.age < b.age || (a.age == b.age &&
    (a.station < b.station || (a.station == b.station && a.seat < b.seat)))))

theorem floorLanguage_eq (s : State) :
    floorLanguage s = (((sortBy speaksBefore (roomMics s)).head?).map (·.tag)).getD 0 := rfl

theorem speaksBefore_iff (a b : RoomMic) : speaksBefore a b = true ↔ b.cls < a.cls ∨ a.cls = b.cls ∧ (a.age < b.age ∨
    a.age = b.age ∧ (a.station < b.station ∨ a.station = b.station ∧ a.seat < b.seat)) := by
  simp [speaksBefore]

theorem speaksBefore_eq_false_iff (a b : RoomMic) : speaksBefore a b = false ↔ a.cls < b.cls ∨ a.cls = b.cls ∧
    (b.age < a.age ∨ b.age = a.age ∧ (b.station < a.station ∨ b.station = a.station ∧ b.seat ≤ a.seat)) := by
  rw [Bool.eq_false_iff, Ne, speaksBefore_iff]
  omega

theorem speaksBefore_asymm (a b : RoomMic) (h : speaksBefore a b = true) : speaksBefore b a = false := by
  rw [speaksBefore_iff] at h
  rw [speaksBefore_eq_false_iff]
  omega

theorem speaksBefore_false_trans (a b c : RoomMic) (hba : speaksBefore b a = false) (hcb : speaksBefore c b = false) :
    speaksBefore c a = false := by
  rw [speaksBefore_eq_false_iff] at *
  omega

/-- Without a sounding mic in the room the floor language is 0. -/
theorem floorLanguage_of_silence {s : State} (h : roomMics s = []) : floorLanguage s = 0 := by
  rw [floorLanguage_eq, h]
  rfl

/-- With one, it is the tag of a mic that no other comes before in the ranking. -/
theorem floorLanguage_of_mics {s : State} (h : roomMics s ≠ []) :
    ∃ m ∈ roomMics s, floorLanguage s = m.tag ∧ ∀ x ∈ roomMics s, speaksBefore x m = false := by
  obtain ⟨m, hm, hhead, first⟩ := head?_sortBy speaksBefore speaksBefore_asymm speaksBefore_false_trans h
  exact ⟨m, hm, by rw [floorLanguage_eq, hhead]; rfl, first⟩

/-! ### The holders of a language (section 8.4) -/

/-- An own holder is an own desk OnAir with an output language. -/
theorem mem_ownHolders (s : State) (h : Holder) : h ∈ ownHolders s ↔
    ∃ e d l, s.booth.desks[e]? = some d ∧ d.state = .onAir ∧ d.output = some l ∧
      h = ⟨s.station.number, e, l, d.relay, d.onAirAge, d.selectionAge, 0, d.displaced⟩ := by
  simp only [ownHolders, List.mem_filterMap, Prod.exists, List.mem_zipIdx_iff_getElem?]
  constructor
  · rintro ⟨d, e, hd, hh⟩
    split at hh
    · next l hstate houtput => exact ⟨e, d, l, hd, hstate, houtput, (Option.some.inj hh).symm⟩
    · exact absurd hh (by simp)
  · rintro ⟨e, d, l, hd, hstate, houtput, rfl⟩
    exact ⟨d, e, hd, by simp [hstate, houtput]⟩

/-- A peer holder is a desk that a member peer announces OnAir. -/
theorem mem_peerHolders (s : State) (h : Holder) : h ∈ peerHolders s ↔
    ∃ p ∈ memberPeers s, ∃ d ∈ p.2.content.desks, d.state = .onAir ∧
      h = ⟨p.1, d.desk, d.output, d.relay, d.onAirAge, d.selectionAge, p.2.since, d.displaced⟩ := by
  simp only [peerHolders, List.mem_flatMap, List.mem_map, List.mem_filter, beq_iff_eq, and_assoc, eq_comm (b := h)]

theorem hasHolder_iff_holder (s : State) (l : Nat) : hasHolder s l = true ↔
    (∃ h ∈ ownHolders s, h.output = l) ∨ ∃ h ∈ peerHolders s, h.output = l := by
  simp only [hasHolder, holders, Bool.not_eq_true', List.isEmpty_eq_false_iff_exists_mem, List.mem_filter, List.mem_append,
    beq_iff_eq, or_and_right, exists_or]

/-- The room has a holder of a language where an own desk or a member's is OnAir for it. -/
theorem hasHolder_iff (s : State) (l : Nat) : hasHolder s l = true ↔
    (∃ x ∈ s.booth.desks, x.state = .onAir ∧ x.output = some l) ∨
      ∃ q ∈ memberPeers s, ∃ x ∈ q.2.content.desks, x.state = .onAir ∧ x.output = l := by
  rw [hasHolder_iff_holder]
  refine or_congr ⟨?_, ?_⟩ ⟨?_, ?_⟩
  · rintro ⟨h, hh, houtput⟩
    obtain ⟨e, d, k, hd, hstate, hk, rfl⟩ := (mem_ownHolders s h).mp hh
    exact ⟨d, List.mem_of_getElem? hd, hstate, houtput ▸ hk⟩
  · rintro ⟨d, hd, hstate, houtput⟩
    obtain ⟨e, he⟩ := List.mem_iff_getElem?.mp hd
    exact ⟨_, (mem_ownHolders s _).mpr ⟨e, d, l, he, hstate, houtput, rfl⟩, rfl⟩
  · rintro ⟨h, hh, houtput⟩
    obtain ⟨q, hq, x, hx, hstate, rfl⟩ := (mem_peerHolders s h).mp hh
    exact ⟨q, hq, x, hx, hstate, houtput⟩
  · rintro ⟨q, hq, x, hx, hstate, houtput⟩
    exact ⟨_, (mem_peerHolders s _).mpr ⟨q, hq, x, hx, hstate, rfl⟩, houtput⟩

/-! ### What Auto resolves to (R138) -/

/-- The last row of the table of R138, reached where no row above it applies. -/
def relaysPivot (s : State) (d : Desk) : Prop :=
  floorLanguage s ≠ 0 ∧ floorLanguage s ∉ d.understood ∧ (context s).pivot ≠ 0 ∧
    d.output ≠ some (context s).pivot ∧ hasHolder s (context s).pivot = true

theorem resolveAuto_of_relaysPivot {s : State} {d : Desk} (h : relaysPivot s d) :
    resolveAuto s d = .language (context s).pivot := by
  obtain ⟨hknown, hforeign, hpivot, hother, hheld⟩ := h
  simp [resolveAuto, hknown, hforeign, hpivot, hother, hheld]

theorem resolveAuto_of_not_relaysPivot {s : State} {d : Desk} (h : ¬ relaysPivot s d) : resolveAuto s d = .floor := by
  simp only [resolveAuto]
  split_ifs with hknown hforeign hpivot hother hheld
  · rfl
  · rfl
  · rfl
  · rfl
  · rfl
  · exact absurd ⟨hknown, by simpa using hforeign, hpivot, hother, by simpa using hheld⟩ h

theorem resolveAuto_eq_language_iff (s : State) (d : Desk) (l : Nat) :
    resolveAuto s d = .language l ↔ relaysPivot s d ∧ l = (context s).pivot := by
  by_cases h : relaysPivot s d
  · simp [resolveAuto_of_relaysPivot h, h, eq_comm]
  · simp [resolveAuto_of_not_relaysPivot h, h]

/-- Auto resolves to the floor or to the pivot. -/
theorem resolveAuto_floor_or_pivot (s : State) (d : Desk) :
    resolveAuto s d = .floor ∨ resolveAuto s d = .language (context s).pivot := by
  by_cases h : relaysPivot s d
  · exact .inr (resolveAuto_of_relaysPivot h)
  · exact .inl (resolveAuto_of_not_relaysPivot h)

/-- It never resolves to the desk's own language: the pivot is passed over where it is the desk's output. -/
theorem resolveAuto_ne_output {s : State} {d : Desk} {l : Nat} (hown : d.output = some l) :
    resolveAuto s d ≠ .language l := by
  intro h
  obtain ⟨⟨-, -, -, hother, -⟩, rfl⟩ := (resolveAuto_eq_language_iff s d l).mp h
  exact hother hown

/-! ### O47 -/

/-- Settles O47: the pivot is relayed in the last row of R138 alone (`resolveAuto_eq_language_iff`), which reads the output
and the understood languages of the desk and not its state; the floor language is that of the first mic in the ranking of
R137 (`floorLanguage_of_mics`). -/
theorem autoRelay : Obligations.AutoRelay := by
  intro s d
  refine ⟨(resolveAuto_eq_language_iff s d _).trans (and_iff_left rfl), resolveAuto_floor_or_pivot s d,
    hasHolder_iff s _, fun _ => rfl, fun _ => resolveAuto_ne_output, floorLanguage_of_silence, fun hmics => ?_⟩
  obtain ⟨m, hm, htag, first⟩ := floorLanguage_of_mics hmics
  refine ⟨m, hm, htag, fun x hx => ?_⟩
  have hfirst := (speaksBefore_eq_false_iff x m).mp (first x hx)
  omega

end Sys2Proof.Machine
end

section
/-! SUPPORT and PROOF for the event mask: the commands that set and keep it (R178), what it does to the attention line,
and what a read of the events returns (R177). Then O49. -/

namespace Sys2Proof.Machine

/-! ### The commands of the port (R175, R177, R178) -/

/-- Answering keeps the mask. -/
@[simp] theorem respond_mask (command : Byte) (code : ResponseCode) (data : ResponseData) (s : State) :
    (respond command code data s).port.mask = s.port.mask := rfl

/-- An answer without data keeps the mask. -/
@[simp] theorem answer_mask (command : Byte) (code : ResponseCode) (s : State) :
    (answer command code s).port.mask = s.port.mask := rfl

/-- A station that is not held in reset takes SetEventMask, whatever its state. -/
theorem exec_setEventMask_of_live (mask : BitVec 16) (s : State) (hs : Live s) :
    exec (.setEventMask mask) s = .next (setEventMaskOp mask s) := by
  simp [exec, execSetEventMask, hs]

/-- A station that is not held in reset takes ReadEvents, whatever its state. -/
theorem exec_readEvents_of_live (s : State) (hs : Live s) : exec .readEvents s = .next (readEventsOp s) := by
  simp [exec, execReadEvents, hs]

/-! ### The mask over Restart and Isolated (R171 to R173) -/

/-- Restart clears the flags (R173) and keeps the mask. -/
@[simp] theorem restartStation_mask (s : State) : (restartStation s).port.mask = s.port.mask := by
  simp [restartStation]

/-- The Restart command keeps the mask, refused or taken. -/
@[simp] theorem restartOp_mask (s : State) : (restartOp s).port.mask = s.port.mask := by
  unfold restartOp
  split <;> simp

/-- A command that the station in reset ignores keeps the mask when its operation does. -/
theorem next_of_reset_keeps_mask (op : State → State) (hop : ∀ s, (op s).port.mask = s.port.mask) (s : State) :
    ∃ t, (.next (if s.station.inReset then s else op s) : Host.Outcome State Fault Refusal) = .next t ∧
      t.port.mask = s.port.mask :=
  ⟨_, rfl, by simp [hop]⟩

/-- Restart and the commands that enter and leave Isolated keep the mask in every state. -/
theorem exec_keeps_mask (s : State) (i : Instr)
    (hi : i = .restart ∨ i = .linkFailure ∨ i = .linkRecovery ∨ i = .switchPoint) :
    ∃ t, exec i s = .next t ∧ t.port.mask = s.port.mask := by
  rcases hi with rfl | rfl | rfl | rfl
  · exact next_of_reset_keeps_mask restartOp (by simp) s
  · exact next_of_reset_keeps_mask takeLinkFailure (by simp) s
  · exact next_of_reset_keeps_mask takeLinkRecovery (by simp) s
  · exact next_of_reset_keeps_mask switchPointOp (by simp) s

/-! ### The attention line (R178) -/

/-- A word is not 0 when one of its bits is 1. -/
theorem bitVec_ne_zero_iff {w : Nat} (x : BitVec w) : x ≠ 0 ↔ ∃ n < w, x.getLsbD n = true := by
  have some_bit : x ≠ 0 ↔ ∃ n, x.getLsbD n = true := by simp [BitVec.zero_iff_eq_false]
  exact some_bit.trans (exists_congr fun n => ⟨fun hn => ⟨BitVec.lt_of_getLsbD hn, hn⟩, And.right⟩)

/-- ATTN is driven while one flag is both set and enabled. -/
theorem attention_iff (s : State) : attention s = true ↔
    ∃ n < 16, s.port.flags.getLsbD n = true ∧ s.port.mask.getLsbD n = true := by
  simp only [attention, bne_iff_ne, bitVec_ne_zero_iff, BitVec.getLsbD_and, Bool.and_eq_true]

/-! ### O49 -/

/-- Settles O49: SetEventMask writes the mask, reset has it off, and the other commands keep it (`exec_keeps_mask`); ATTN
is read off the bits of flags and mask (`attention_iff`); raising a flag (`raise_sets`) and reading the events leave the
mask aside. -/
theorem attentionFollowsFlagsAndMask : Obligations.AttentionFollowsFlagsAndMask :=
  ⟨fun s mask => exec_setEventMask_of_live mask s, rfl, fun _ => ⟨_, rfl, rfl⟩, exec_keeps_mask, attention_iff,
    fun s f => raise_sets f s, fun s hs => ⟨_, exec_readEvents_of_live s hs, rfl⟩⟩

end Sys2Proof.Machine
end

section
/-! SUPPORT. What a command does, apart from the outcome it is wrapped in: the effect on a live station, what a station in
reset takes, and how a law of one state is carried over every step. -/

namespace Sys2Proof.Machine

/-- The next state of a live station, by command. -/
def liveEffect (i : Instr) (s : State) : State :=
  match i with
  | .pinReset => resetStation s
  | .resetRelease _ _ => s
  | .configMemoryRead record => memoryReadOp record s
  | .frameBoundary f => beginFrame f (endFrame f (takeExpiry s))
  | .hlckTimeout => { s with lif := { s.lif with clock := .frameTimer } }
  | .hsyncMark u d => hsyncOp u d s
  | .switchPoint => switchPointOp s
  | .linkFailure => takeLinkFailure s
  | .linkRecovery => takeLinkRecovery s
  | .fadeInComplete seat => fadeInOp seat s
  | .fadeOutEnd seat => fadeOutOp seat s
  | .speakingTimeExpiry seat => speakingExpiryOp seat s
  | .ownSlot => ownSlotOp s
  | .slotClose t => slotCloseOp t s
  | .peerLoss t => peerLossOp t s
  | .wallSample closed opened => wallSampleOp closed opened s
  | .wallAdoption x => wallAdoptionOp x s
  | .pollWindowClose reply => pollWindowCloseOp reply s
  | .unitAbsent a => unitAbsentOp a s
  | .boothWindowClose reply => boothWindowCloseOp reply s
  | .deskAbsent e => deskAbsentOp e s
  | .joiningTimerExpiry => takeExpiry s
  | .loadConfig record => loadConfigOp record s
  | .restart => restartOp s
  | .readRecord kind index => readRecordOp kind index s
  | .readEvents => readEventsOp s
  | .clearEvents mask => clearEventsOp mask s
  | .setEventMask mask => setEventMaskOp mask s
  | .issueRoomCommand kind argument => issueRoomCommandOp kind argument s
  | .setWallOverride input setting => setWallOverrideOp input setting s
  | .closeSeat seat => closeSeatOp seat s
  | .cancelRequest seat => cancelRequestOp seat s
  | .emptyTransaction => emptyTransactionOp s
  | .badCommandFrame frame => badFrameOp frame s

/-- A frame that passes through a station in reset (R7, R165). -/
def bypassFrame (f : FrameIn) (s : State) : State :=
  { putOut f s with lif := { (putOut f s).lif with latch := FrameLatch.bypass } }

/-- A live station takes every command with its effect. -/
theorem exec_of_live (i : Instr) (s : State) (hs : Live s) : exec i s = .next (liveEffect i s) := by
  cases i
  case pinReset => rfl
  case resetRelease n c => simp [exec, execResetRelease, releaseReset, hs, liveEffect]
  case frameBoundary f => simp [exec, execFrameBoundary, frameBoundaryOp, hs, liveEffect]
  all_goals exact congrArg _ (if_neg (by simp [hs]))

/-- A station in reset takes a pin reset, a reset release and a frame, which passes; every other command leaves it. -/
theorem exec_of_inReset (i : Instr) (s : State) (hs : s.station.inReset = true) : exec i s = .next (match i with
    | .pinReset => resetStation s
    | .resetRelease n c => releaseReset n c s
    | .frameBoundary f => bypassFrame f s
    | _ => s) := by
  cases i
  case pinReset => rfl
  case resetRelease n c => rfl
  case frameBoundary f => simp [exec, execFrameBoundary, frameBoundaryOp, hs, bypassFrame]
  all_goals exact congrArg _ (if_pos hs)

/-- What every command keeps, given that each of the four ways of taking one keeps it. -/
theorem exec_preserves {P : State → Prop} (live : ∀ i s, Live s → P s → P (liveEffect i s))
    (reset : ∀ s, P s → P (resetStation s))
    (release : ∀ n c s, s.station.inReset = true → P s → P (releaseReset n c s))
    (bypass : ∀ f s, P s → P (bypassFrame f s)) {i : Instr} {s t : State} (hs : P s) (h : exec i s = .next t) : P t := by
  cases hr : s.station.inReset with
  | false =>
    rw [exec_of_live i s hr] at h
    cases h
    exact live i s hr hs
  | true =>
    rw [exec_of_inReset i s hr] at h
    cases h
    split
    · exact reset s hs
    · exact release _ _ s hr hs
    · exact bypass _ s hs
    · exact hs

/-- What every command keeps and the waiting commands do not touch, every step keeps. -/
theorem step_preserves {P : State → Prop} (pending : ∀ s l, P s → P { s with pending := l })
    (keeps : ∀ {i s t}, P s → exec i s = .next t → P t) {s t : State} (hs : P s) (h : step s = .next t) : P t := by
  unfold step at h
  split at h
  · cases h
    exact hs
  · exact keeps (pending s _ hs) h

end Sys2Proof.Machine
end

section
/-! SUPPORT and PROOF for the configuration record (R168): its tests byte by byte, what a record that passes them holds, and
O5. -/

namespace Sys2Proof.Machine

/-! ### Bytes and bit fields -/

theorem byteAt_lt (b : List Byte) (i : Nat) : byteAt b i < 256 := (b.getD i 0).isLt

theorem word16At_lt (b : List Byte) (i : Nat) : word16At b i < 65536 := by
  have hi := byteAt_lt b i
  have hj := byteAt_lt b (i + 1)
  unfold word16At
  omega

/-- The lowest two bits of a number. -/
theorem bitField_low_two (n : Nat) : bitField n 0 2 = n % 4 := by simp [bitField]

/-- Bit 7 of a byte. -/
theorem bitField_top_eq_one_iff {n : Nat} (h : n < 256) : bitField n 7 1 = 1 ↔ 128 ≤ n := by
  simp only [bitField]
  omega

/-! ### Lists without repeats -/

theorem noRepeats_iff (xs : List Nat) : noRepeats xs = true ↔ xs.Nodup := by
  induction xs with
  | nil => simp [noRepeats]
  | cons x xs ih => simp [noRepeats, ih]

/-- The values of a function below n are distinct where no value equals one before it. -/
theorem nodup_map_range_iff (f : Nat → Nat) (n : Nat) :
    ((List.range n).map f).Nodup ↔ ∀ i < n, ∀ j < i, f i ≠ f j := by
  rw [List.nodup_map_iff_inj_on List.nodup_range]
  simp only [List.mem_range]
  constructor
  · intro h i hi j hj he
    have := h i hi j (by omega) he
    omega
  · intro h i hi j hj he
    rcases Nat.lt_trichotomy i j with hij | hij | hij
    · exact absurd he.symm (h j hj i hij)
    · exact hij
    · exact absurd he (h i hi j hij)

/-! ### The fields of a record (Table 11-3) -/

theorem forall_mem_recordWalls (b : List Byte) (p : WallEntry → Prop) :
    (∀ w ∈ recordWalls b, p w) ↔ ∀ i < byteAt b 2, p ⟨byteAt b (3 + 2 * i), byteAt b (4 + 2 * i)⟩ := by
  simp [recordWalls, recordWall]

theorem forall_mem_recordDesks (b : List Byte) (p : DeskConfig → Prop) :
    (∀ d ∈ recordDesks b, p d) ↔ ∀ i < byteAt b 11, p (recordDesk b i) := by
  simp [recordDesks]

theorem forall_mem_recordSeats (b : List Byte) (p : SeatCorrection → Prop) :
    (∀ e ∈ recordSeats b, p e) ↔
      ∀ i < byteAt b 32, p ⟨byteAt b (33 + 4 * i), byteAt b (34 + 4 * i), word16At b (35 + 4 * i)⟩ := by
  simp [recordSeats, recordSeat]

/-- The languages of desk entry i. -/
theorem recordDesk_languages (b : List Byte) (i : Nat) : (recordDesk b i).languages =
    (List.range (byteAt b (13 + 5 * i) % 4)).map (fun k => byteAt b (14 + 5 * i + k)) := by
  simp [recordDesk, bitField_low_two]

theorem recordDesk_desk (b : List Byte) (i : Nat) : (recordDesk b i).desk = byteAt b (12 + 5 * i) := rfl

/-! ### The tests (R168) -/

/-- The OutOfRange test passes where every count, every field of a used entry and every context field lies within the
table. -/
theorem recordInRange_iff (n : Nat) (b : List Byte) : recordInRange n b = true ↔
    (1 ≤ byteAt b 1 ∧ byteAt b 1 ≤ 60) ∧
    (byteAt b 2 ≤ 4 ∧ ∀ i < byteAt b 2, byteAt b (3 + 2 * i) ≤ 3 ∧ byteAt b (4 + 2 * i) ≤ 15 ∧ byteAt b (4 + 2 * i) ≠ n) ∧
    (byteAt b 11 ≤ 4 ∧ ∀ i < byteAt b 11, byteAt b (12 + 5 * i) ≤ 3 ∧
      ∀ k < byteAt b (13 + 5 * i) % 4, 1 ≤ byteAt b (14 + 5 * i + k) ∧ byteAt b (14 + 5 * i + k) ≤ 31) ∧
    (byteAt b 32 ≤ 16 ∧ ∀ i < byteAt b 32, 1 ≤ byteAt b (33 + 4 * i) ∧ byteAt b (33 + 4 * i) ≤ byteAt b 1 ∧
      byteAt b (34 + 4 * i) ≤ 3) ∧
    (byteAt b 97 ≤ 2 ∧ 1 ≤ byteAt b 98 ∧ byteAt b 98 ≤ 6 ∧ byteAt b 99 ≤ 1 ∧ word16At b 100 ≤ 3600 ∧
      byteAt b 103 ≤ 1 ∧ byteAt b 104 ≤ 31 ∧ byteAt b 105 ≤ 1 ∧ word16At b 106 ≤ 32767) := by
  simp only [recordInRange, Bool.and_eq_true, List.all_eq_true, decide_eq_true_eq, forall_mem_recordWalls,
    forall_mem_recordDesks, forall_mem_recordSeats, recordDesk_languages, recordDesk_desk, bne_iff_ne, and_assoc]
  simp

/-- The Duplicate test passes where no input, desk, seat or language of a desk is named twice. -/
theorem recordDistinct_iff (b : List Byte) : recordDistinct b = true ↔
    (∀ i < byteAt b 2, ∀ j < i, byteAt b (3 + 2 * i) ≠ byteAt b (3 + 2 * j)) ∧
    (∀ i < byteAt b 11, ∀ j < i, byteAt b (12 + 5 * i) ≠ byteAt b (12 + 5 * j)) ∧
    (∀ i < byteAt b 32, ∀ j < i, byteAt b (33 + 4 * i) ≠ byteAt b (33 + 4 * j)) ∧
    (∀ i < byteAt b 11, ∀ k < byteAt b (13 + 5 * i) % 4, ∀ j < k,
      byteAt b (14 + 5 * i + k) ≠ byteAt b (14 + 5 * i + j)) := by
  have walls : (recordWalls b).map (·.input) = (List.range (byteAt b 2)).map (fun i => byteAt b (3 + 2 * i)) := by
    simp [recordWalls, recordWall, Function.comp_def]
  have desks : (recordDesks b).map (·.desk) = (List.range (byteAt b 11)).map (fun i => byteAt b (12 + 5 * i)) := by
    simp [recordDesks, recordDesk, Function.comp_def]
  have seats : (recordSeats b).map (·.seat) = (List.range (byteAt b 32)).map (fun i => byteAt b (33 + 4 * i)) := by
    simp [recordSeats, recordSeat, Function.comp_def]
  simp only [recordDistinct, Bool.and_eq_true, List.all_eq_true, noRepeats_iff, walls, desks, seats,
    forall_mem_recordDesks, recordDesk_languages, nodup_map_range_iff, and_assoc]

/-- The sum test, as an equation. -/
theorem recordSumOk_iff (b : List Byte) :
    recordSumOk b = true ↔ (((List.range 108).map (byteAt b)).sum + word16At b 108) % 65536 = 0 := by
  simp only [recordSumOk, beq_iff_eq]

/-- The first test that fails gives the reason. -/
theorem rejection_spec (n : Nat) (b : List Byte) :
    (rejection n b = some .badSum ↔ ¬ recordSumOk b = true) ∧
    (rejection n b = some .badFormat ↔ recordSumOk b = true ∧ ¬ byteAt b 0 = 1) ∧
    (rejection n b = some .outOfRange ↔ recordSumOk b = true ∧ byteAt b 0 = 1 ∧ ¬ recordInRange n b = true) ∧
    (rejection n b = some .duplicate ↔ recordSumOk b = true ∧ byteAt b 0 = 1 ∧ recordInRange n b = true ∧
      ¬ recordDistinct b = true) ∧
    (rejection n b = none ↔ recordSumOk b = true ∧ byteAt b 0 = 1 ∧ recordInRange n b = true ∧
      recordDistinct b = true) := by
  unfold rejection
  by_cases hsum : recordSumOk b = true
  · by_cases hformat : byteAt b 0 = 1
    · by_cases hrange : recordInRange n b = true
      · by_cases hdistinct : recordDistinct b = true <;> simp [hsum, hformat, hrange, hdistinct]
      · simp [hsum, hformat, hrange]
    · simp [hsum, hformat]
  · simp [hsum]

/-- A record is accepted where no test fails. -/
theorem rejection_eq_none_iff (n : Nat) (b : List Byte) : rejection n b = none ↔ recordSumOk b = true ∧ byteAt b 0 = 1 ∧
    recordInRange n b = true ∧ recordDistinct b = true := by
  obtain ⟨-, -, -, -, hnone⟩ := rejection_spec n b
  exact hnone

/-! ### What an accepted record holds -/

/-- A record that passes the tests holds a configuration within the table. -/
theorem configLaw_of_accepted {n : Nat} {b : List Byte} (h : rejection n b = none) : ConfigLaw n (recordConfig b) := by
  obtain ⟨-, -, hrange, hdistinct⟩ := (rejection_eq_none_iff n b).mp h
  obtain ⟨⟨hseats1, hseats60⟩, ⟨hwallCount, hwalls⟩, ⟨hdeskCount, hdesks⟩, ⟨hseatCount, hseats⟩, -, hlimit1, hlimit6, -,
    htime, -, hpivot, -, hunder⟩ := (recordInRange_iff n b).mp hrange
  have hrepeats := hdistinct
  simp only [recordDistinct, Bool.and_eq_true, noRepeats_iff] at hrepeats
  obtain ⟨⟨⟨winputs, ddesks⟩, sseats⟩, -⟩ := hrepeats
  obtain ⟨-, -, -, hlanguages⟩ := (recordDistinct_iff b).mp hdistinct
  refine ⟨hseats1, hseats60, by simpa [recordConfig, recordWalls] using hwallCount,
    (forall_mem_recordWalls b _).mpr hwalls, winputs, by simpa [recordConfig, recordDesks] using hdeskCount,
    (forall_mem_recordDesks b _).mpr fun i hi => ⟨(hdesks i hi).1, ?_, ?_, ?_⟩, ddesks,
    by simpa [recordConfig, recordSeats] using hseatCount, (forall_mem_recordSeats b _).mpr fun i hi => ?_, sseats,
    hlimit1, hlimit6, htime, ?_, hpivot, hunder, rfl⟩
  · rw [recordDesk_languages, List.length_map, List.length_range]
    omega
  · rw [recordDesk_languages, nodup_map_range_iff]
    exact hlanguages i hi
  · simpa [recordDesk_languages] using (hdesks i hi).2
  · obtain ⟨h1, h2, h3⟩ := hseats i hi
    exact ⟨h1, h2, h3, Nat.le_of_lt_succ (word16At_lt b _)⟩
  · exact Nat.le_of_lt_succ (byteAt_lt b 102)

/-- The mode by its code. -/
theorem modeOfCode_eq_iff {n : Nat} (h : n ≤ 2) :
    (modeOfCode n = .free ↔ n = 0) ∧ (modeOfCode n = .queue ↔ n = 1) ∧ (modeOfCode n = .override ↔ n = 2) := by
  match n with
  | 0 | 1 | 2 => simp [modeOfCode]

/-- The desk flag of the record is bit 7 of the second byte of its entry. -/
theorem recordDesks_present (b : List Byte) (i : Nat) (hi : i < byteAt b 11) :
    (((recordDesks b)[i]?).any (·.present) = true ↔ 128 ≤ byteAt b (13 + 5 * i)) := by
  simp [recordDesks, hi, recordDesk, bitField_top_eq_one_iff (byteAt_lt b _)]

/-! ### O5 -/

/-- Settles O5: the tests stand in the order of `rejection_spec`, and each says what its lemma says of the bytes
(`recordInRange_iff`, `recordDistinct_iff`); an accepted record meets the law by `configLaw_of_accepted`. -/
theorem configurationRecordTests : Obligations.ConfigurationRecordTests := by
  refine ⟨fun n b => ?_, fun n b h => ?_⟩
  · have spec := rejection_spec n b
    rw [recordSumOk_iff, recordInRange_iff, recordDistinct_iff] at spec
    exact spec
  · obtain ⟨-, -, hrange, -⟩ := (rejection_eq_none_iff n b).mp h
    obtain ⟨-, -, -, -, hmode, -⟩ := (recordInRange_iff n b).mp hrange
    obtain ⟨hfree, hqueue, hoverride⟩ := modeOfCode_eq_iff hmode
    refine ⟨configLaw_of_accepted h, rfl, rfl, ?_, recordDesks_present b, rfl, hfree, hqueue, hoverride, rfl, ?_, rfl, rfl,
      ?_, rfl, ?_, rfl, rfl⟩
    · simp [recordConfig, recordDesks, recordDesk_languages, recordDesk_desk, Function.comp_def]
    · simp [recordConfig, recordContext]
    · simp [recordConfig, recordContext]
    · simp [recordConfig, recordContext]

end Sys2Proof.Machine
end

section
/-! SUPPORT and PROOF for the station state machine and the link status: what each operation leaves in the station and in the
fields of the link status, and O53. -/

namespace Sys2Proof.Machine

/-! ### The station after each operation -/

/-- A change of state sets the state and the Joining timer. -/
@[simp] theorem changeState_station (st : StationState) (timer : Option Nat) (s : State) :
    (changeState st timer s).station = { s.station with state := st, joinTimer := timer } := by
  simp [changeState]

/-- Joining is entered with 384 frames on the timer (R170). -/
@[simp] theorem enterJoining_station (s : State) :
    (enterJoining s).station = { s.station with state := .joining, joinTimer := some 384 } := by
  simp [enterJoining, Config.joiningFrames]

/-- Running is entered with the timer stopped (R170). -/
@[simp] theorem enterRunning_station (s : State) :
    (enterRunning s).station = { s.station with state := .running, joinTimer := none } := by
  simp [enterRunning]

/-- The timer stands at 0 in Joining. -/
theorem timerExpired_iff (s : State) :
    timerExpired s = true ↔ s.station.state = .joining ∧ s.station.joinTimer = some 0 := by
  simp [timerExpired]

/-- Before the timer stands at 0 nothing expires. -/
theorem takeExpiry_of_waiting {s : State} (h : s.station.joinTimer ≠ some 0) : takeExpiry s = s := by
  simp [takeExpiry, timerExpired, h]

/-- An accepted record becomes the configuration, and the station enters Joining (R169). -/
@[simp] theorem acceptConfig_station (c : Configuration) (s : State) : (acceptConfig c s).station =
    { s.station with config := some c, accepted := true, state := .joining, joinTimer := some 384 } := by
  simp [acceptConfig]

/-- A rejected record leaves its reason. -/
@[simp] theorem rejectConfig_station (r : RejectReason) (s : State) :
    (rejectConfig r s).station = { s.station with lastReject := some r } := by
  simp [rejectConfig]

/-- Isolated is entered with the timer stopped (R171). -/
@[simp] theorem enterIsolated_station (s : State) :
    (enterIsolated s).station = { s.station with state := .isolated, joinTimer := none } := by
  simp [enterIsolated]

/-- Isolated is left for Joining (R172). -/
@[simp] theorem leaveIsolated_station (s : State) :
    (leaveIsolated s).station = { s.station with state := .joining, joinTimer := some 384 } := by
  simp [leaveIsolated]

/-- Restart enters Joining (R173). -/
@[simp] theorem restartStation_station (s : State) :
    (restartStation s).station = { s.station with state := .joining, joinTimer := some 384 } := by
  simp [restartStation]

/-- A frame that begins takes one frame off the Joining timer (R170). -/
@[simp] theorem beginFrame_station (f : FrameIn) (s : State) :
    (beginFrame f s).station = { s.station with joinTimer := s.station.joinTimer.map (fun n => n - 1) } := by
  simp [beginFrame, advanceTimer]

/-- The memory read that ends: the record it brought is rejected or accepted (R166). -/
theorem memoryReadOp_cases (record : List Byte) (s : State) :
    (s.station.memoryReading = false ∧ memoryReadOp record s = s) ∨
    (s.station.memoryReading = true ∧ ∃ r, rejection s.station.number (memoryRecord record) = some r ∧
      memoryReadOp record s = rejectConfig r { s with station := { s.station with memoryReading := false } }) ∨
    (s.station.memoryReading = true ∧ rejection s.station.number (memoryRecord record) = none ∧
      memoryReadOp record s = acceptConfig (recordConfig (memoryRecord record))
        { s with station := { s.station with memoryReading := false } }) := by
  unfold memoryReadOp
  cases hreading : s.station.memoryReading with
  | false => exact .inl ⟨rfl, rfl⟩
  | true =>
    cases hr : rejection s.station.number (memoryRecord record) with
    | some r => exact .inr (.inl ⟨rfl, r, rfl, by simp⟩)
    | none => exact .inr (.inr ⟨rfl, rfl, by simp⟩)

/-- LoadConfig: answered alone, or with the record rejected or accepted (R167). -/
theorem loadConfigOp_cases (record : List Byte) (s : State) :
    (∃ code, loadConfigOp record s = answer 0x01 code s) ∨
    (s.station.accepted = false ∧ s.station.memoryReading = false ∧ ∃ r, rejection s.station.number record = some r ∧
      loadConfigOp record s = answer 0x01 (.refused r) (rejectConfig r s)) ∨
    (s.station.accepted = false ∧ s.station.memoryReading = false ∧ rejection s.station.number record = none ∧
      loadConfigOp record s = answer 0x01 .ok (acceptConfig (recordConfig record) s)) := by
  unfold loadConfigOp
  split
  · exact .inl ⟨_, rfl⟩
  split
  · exact .inl ⟨_, rfl⟩
  next haccepted =>
  split
  · exact .inl ⟨_, rfl⟩
  next hreading =>
  simp only [Bool.not_eq_true] at haccepted hreading
  split
  · next r hr => exact .inr (.inl ⟨haccepted, hreading, r, hr, rfl⟩)
  · next hr => exact .inr (.inr ⟨haccepted, hreading, hr, rfl⟩)

/-! ### The station law -/

/-- The station state machine agrees with itself and its configuration is within the table. -/
def SoundStation (s : State) : Prop := StationLaw s ∧ ∀ c ∈ s.station.config, ConfigLaw s.station.number c

/-- It holds in reset. -/
theorem soundStation_reset : SoundStation State.reset := by
  refine ⟨by decide, ?_⟩
  simp [State.reset, Station.initial]

/-- The law reads the station alone. -/
theorem SoundStation.of_station_eq {s t : State} (law : SoundStation s) (h : t.station = s.station) : SoundStation t := by
  unfold SoundStation StationLaw at *
  rw [h]
  exact law

/-- A configured station may change between Joining, Running and Isolated, with a timer within its range in Joining alone. -/
theorem SoundStation.of_state {s t : State} (law : SoundStation s) (hs : Live s) (hstate : s.station.state ≠ .unconfigured)
    {st : StationState} {timer : Option Nat} (ht : t.station = { s.station with state := st, joinTimer := timer })
    (hst : st ≠ .unconfigured) (htimer : timer.isSome = true ↔ st = .joining) (hrange : ∀ n ∈ timer, n ≤ 384) :
    SoundStation t := by
  obtain ⟨⟨hnumber, -, haccepted, hunconfigured, hreading, -, -⟩, hconfig⟩ := law
  have configured : s.station.accepted ≠ false := fun h => hstate (hunconfigured.mp h)
  unfold SoundStation StationLaw
  rw [ht]
  exact ⟨⟨hnumber, fun h => absurd (hs.symm.trans h) Bool.false_ne_true, haccepted,
    ⟨fun h => absurd h configured, fun h => absurd h hst⟩, hreading, htimer, hrange⟩, hconfig⟩

/-- An expiry of the Joining timer keeps the law. -/
theorem SoundStation.takeExpiry {s : State} (law : SoundStation s) (hs : Live s) : SoundStation (takeExpiry s) := by
  unfold Machine.takeExpiry
  split
  · next h =>
    obtain ⟨hstate, -⟩ := (timerExpired_iff s).mp h
    exact law.of_state hs (by simp [hstate]) (enterRunning_station s) (by simp) (by simp) (by simp)
  · exact law

/-- A frame that begins keeps the law: its timer stays within its range. -/
theorem SoundStation.beginFrame {s : State} (law : SoundStation s) (f : FrameIn) : SoundStation (beginFrame f s) := by
  obtain ⟨⟨hnumber, hreset, haccepted, hunconfigured, hreading, htimer, hrange⟩, hconfig⟩ := law
  unfold SoundStation StationLaw
  rw [beginFrame_station]
  refine ⟨⟨hnumber, hreset, haccepted, hunconfigured, hreading, by simpa using htimer, ?_⟩, hconfig⟩
  intro n hn
  obtain ⟨m, hm, rfl⟩ := Option.map_eq_some_iff.mp hn
  have := hrange m hm
  omega

/-- A rejected record keeps the law, whether or not the memory read ends with it. -/
theorem SoundStation.reject {s t : State} (law : SoundStation s) {r : RejectReason} {reading : Bool}
    (h : t.station = { s.station with memoryReading := reading, lastReject := some r })
    (hreading : reading = true → s.station.memoryReading = true) : SoundStation t := by
  obtain ⟨⟨hnumber, hreset, haccepted, hunconfigured, hread, htimer, hrange⟩, hconfig⟩ := law
  unfold SoundStation StationLaw
  rw [h]
  have stopped : s.station.inReset = true → reading = false := fun hr => by
    obtain ⟨-, notReading⟩ := hreset hr
    exact Bool.eq_false_iff.mpr fun h => Bool.false_ne_true (notReading.symm.trans (hreading h))
  exact ⟨⟨hnumber, fun hr => ⟨(hreset hr).1, stopped hr⟩, haccepted, hunconfigured, fun hr => hread (hreading hr), htimer,
    hrange⟩, hconfig⟩

/-- Acceptance keeps the law: the record that passes the tests is within the table. -/
theorem SoundStation.accept {s t : State} (law : SoundStation s) (hs : Live s) {b : List Byte}
    (hb : rejection s.station.number b = none) (h : t.station = { s.station with
      memoryReading := false, config := some (recordConfig b), accepted := true, state := .joining, joinTimer := some 384 }) :
    SoundStation t := by
  obtain ⟨⟨hnumber, -⟩, -⟩ := law
  unfold SoundStation StationLaw
  rw [h]
  refine ⟨⟨hnumber, fun hr => absurd (hs.symm.trans hr) Bool.false_ne_true, rfl, by simp, by simp, by simp, by simp⟩, ?_⟩
  intro c hc
  cases hc
  exact configLaw_of_accepted hb

/-- A link failure keeps the law, taken or not. -/
theorem SoundStation.takeLinkFailure {s : State} (law : SoundStation s) (hs : Live s) :
    SoundStation (takeLinkFailure s) := by
  unfold Machine.takeLinkFailure
  split
  · next h =>
    refine law.of_state hs ?_ (st := .isolated) (timer := none) (by simp) (by simp) (by simp) (by simp)
    intro hstate
    simp [onLink, hstate] at h
  · exact law

/-- A link recovery keeps the law, taken or not. -/
theorem SoundStation.takeLinkRecovery {s : State} (law : SoundStation s) (hs : Live s) :
    SoundStation (takeLinkRecovery s) := by
  unfold Machine.takeLinkRecovery
  split
  · next h =>
    refine law.of_state hs ?_ (leaveIsolated_station s) (by simp) (by simp) (by simp)
    intro hstate
    simp [hstate] at h
  · exact law

/-- The end of a memory read keeps the law. -/
theorem SoundStation.memoryReadOp {s : State} (law : SoundStation s) (hs : Live s) (record : List Byte) :
    SoundStation (memoryReadOp record s) := by
  rcases memoryReadOp_cases record s with ⟨-, h⟩ | ⟨-, r, -, h⟩ | ⟨-, hr, h⟩ <;> rw [h]
  · exact law
  · exact law.reject (r := r) (reading := false) (by simp) (by simp)
  · exact law.accept hs hr (by simp)

/-- LoadConfig keeps the law. -/
theorem SoundStation.loadConfigOp {s : State} (law : SoundStation s) (hs : Live s) (record : List Byte) :
    SoundStation (loadConfigOp record s) := by
  rcases loadConfigOp_cases record s with ⟨code, h⟩ | ⟨-, -, r, -, h⟩ | ⟨-, hreading, hr, h⟩ <;> rw [h]
  · exact law.of_station_eq (by simp)
  · exact law.reject (r := r) (reading := s.station.memoryReading) (by simp) id
  · exact law.accept hs hr (by simp [← hreading])

/-- Restart keeps the law, refused or taken. -/
theorem SoundStation.restartOp {s : State} (law : SoundStation s) (hs : Live s) : SoundStation (restartOp s) := by
  unfold Machine.restartOp
  split
  · exact law.of_station_eq (by simp)
  · next hstate => exact law.of_state hs hstate (st := .joining) (timer := some 384) (by simp) (by simp) (by simp) (by simp)

/-- A live station keeps the law over every command. -/
theorem SoundStation.liveEffect {s : State} (law : SoundStation s) (hs : Live s) (i : Instr) :
    SoundStation (liveEffect i s) := by
  cases i
  case pinReset => exact soundStation_reset.of_station_eq rfl
  case configMemoryRead record => exact law.memoryReadOp hs record
  case frameBoundary f => exact ((law.takeExpiry hs).of_station_eq (by simp)).beginFrame f
  case switchPoint =>
    have work : SoundStation (switchPointWork s) := law.of_station_eq (by simp)
    have live : Live (switchPointWork s) := by simpa [Live] using hs
    refine (work.takeLinkFailure live).takeLinkRecovery ?_
    unfold Live Machine.takeLinkFailure
    split <;> simpa using hs
  case linkFailure => exact law.takeLinkFailure hs
  case linkRecovery => exact law.takeLinkRecovery hs
  case joiningTimerExpiry => exact law.takeExpiry hs
  case loadConfig record => exact law.loadConfigOp hs record
  case restart => exact law.restartOp hs
  all_goals exact law.of_station_eq (by simp [Machine.liveEffect])

/-- Every command keeps the law of the station. -/
theorem exec_keeps_soundStation {i : Instr} {s t : State} (law : SoundStation s) (h : exec i s = .next t) :
    SoundStation t := by
  refine exec_preserves (P := SoundStation) (fun i s hs law => law.liveEffect hs i) ?_ ?_ ?_ law h
  · intro s _
    exact soundStation_reset.of_station_eq rfl
  · rintro n c s hr ⟨⟨-, hreset, haccepted, hunconfigured, hreading, htimer, hrange⟩, -⟩
    obtain ⟨hstate, -⟩ := hreset hr
    have unaccepted := hunconfigured.mpr hstate
    have noConfig : s.station.config = none := by simpa [unaccepted] using haccepted
    simp only [SoundStation, StationLaw, releaseReset, hr, if_true, noConfig]
    exact ⟨⟨n.isLt, by simp, by simpa [noConfig] using haccepted, hunconfigured, fun _ => unaccepted, htimer, hrange⟩,
      by simp⟩
  · intro f s law
    exact law.of_station_eq rfl

/-! ### The link status -/

/-- The link status and the counters that share its law: what the law of the Link Interface reads. -/
def linkStatus (l : Lif) : Nat × Nat × SyncState × Nat × Nat × Nat :=
  (l.frame, l.markMissing, l.sync, l.unaligned, l.good, l.epoch)

/-- The law of the Link Interface is kept where the link status is. -/
theorem linkLaw_of_status_eq {s t : State} (law : LinkLaw s) (h : linkStatus t.lif = linkStatus s.lif) : LinkLaw t := by
  simp only [linkStatus, Prod.mk.injEq] at h
  obtain ⟨hframe, hmissing, hsync, hunaligned, hgood, hepoch⟩ := h
  simpa [LinkLaw, hframe, hmissing, hsync, hunaligned, hgood, hepoch] using law

/-- The law holds in reset. -/
theorem linkLaw_reset : LinkLaw State.reset := by decide

/-- The law is kept where only the epoch counts on, modulo 256. -/
theorem linkLaw_of_epoch {s t : State} (law : LinkLaw s)
    (h : linkStatus t.lif = linkStatus { s.lif with epoch := (s.lif.epoch + 1) % 256 }) : LinkLaw t := by
  obtain ⟨hframe, hmissing, hsync, hunaligned, hgood, -⟩ := law
  have counted : LinkLaw { s with lif := { s.lif with epoch := (s.lif.epoch + 1) % 256 } } :=
    ⟨hframe, hmissing, hsync, hunaligned, hgood, Nat.mod_lt _ (by decide)⟩
  exact linkLaw_of_status_eq counted h

/-- Entering Joining counts the epoch on (R12). -/
@[simp] theorem enterJoining_lif (s : State) : (enterJoining s).lif = { s.lif with epoch := (s.lif.epoch + 1) % 256 } := by
  simp [enterJoining]

/-- Acceptance counts the epoch on. -/
@[simp] theorem acceptConfig_lif (c : Configuration) (s : State) :
    (acceptConfig c s).lif = { s.lif with epoch := (s.lif.epoch + 1) % 256 } := by
  simp [acceptConfig]

/-- Restart counts the epoch on and empties the record in composition and the write set. -/
@[simp] theorem restartStation_lif (s : State) : (restartStation s).lif =
    { s.lif with epoch := (s.lif.epoch + 1) % 256, composing := [], writeSet := [] } := by
  simp [restartStation, restartTables]

/-- An expiry of the Joining timer changes nothing in the Link Interface. -/
theorem takeExpiry_lif (s : State) : (takeExpiry s).lif = s.lif := by simp

/-- Collecting the control field of a frame leaves the link status. -/
@[simp] theorem receiveControl_status (f : FrameIn) (s : State) :
    linkStatus (receiveControl f s).lif = linkStatus s.lif := by
  simp only [receiveControl]
  split_ifs <;> rfl

/-- The frame that ends leaves the link status. -/
@[simp] theorem endFrame_status (f : FrameIn) (s : State) : linkStatus (endFrame f s).lif = linkStatus s.lif := by
  have delivered : ∀ u : State, linkStatus (deliver f u).lif = linkStatus u.lif := fun _ => rfl
  simp only [endFrame, delivered, receiveControl_status]
  simp [takeAnnounced, computeFrame, silence, putOut, linkStatus]

/-- The frame that begins counts the frame on and leaves the rest of the link status. -/
theorem beginFrame_status (f : FrameIn) (s : State) : linkStatus (beginFrame f s).lif =
    ((s.lif.frame + 1) % 96, s.lif.markMissing, s.lif.sync, s.lif.unaligned, s.lif.good, s.lif.epoch) := by
  simp [beginFrame, linkStatus, latchFrame, advanceFrame, Config.framesPerSuperframe]

/-- The law is kept over a frame that begins. -/
theorem linkLaw_beginFrame {s : State} (law : LinkLaw s) (f : FrameIn) : LinkLaw (beginFrame f s) := by
  obtain ⟨-, hrest⟩ := law
  have counted : LinkLaw { s with lif := { s.lif with frame := (s.lif.frame + 1) % 96 } } :=
    ⟨Nat.mod_lt _ (by decide), hrest⟩
  exact linkLaw_of_status_eq counted (beginFrame_status f s)

/-- The sync evaluation: Searching keeps its count of 2, Locked leaves for Searching as the count reaches 2 (R8). -/
theorem evaluateSync_cases (l : Lif) :
    (l.sync = .searching ∧ evaluateSync l = l) ∨
    (l.sync = .locked ∧ l.markSeen = true ∧ evaluateSync l = { l with markMissing := 0 }) ∨
    (l.sync = .locked ∧ l.markSeen = false ∧ 1 ≤ l.markMissing ∧
      evaluateSync l = { l with markMissing := 2, sync := .searching }) ∨
    (l.sync = .locked ∧ l.markSeen = false ∧ l.markMissing = 0 ∧ evaluateSync l = { l with markMissing := 1 }) := by
  cases hsync : l.sync with
  | searching => exact .inl ⟨rfl, by simp [evaluateSync, hsync]⟩
  | locked =>
    cases hseen : l.markSeen with
    | true => exact .inr (.inl ⟨rfl, rfl, by simp [evaluateSync, hsync, hseen]⟩)
    | false =>
      rcases Nat.eq_zero_or_pos l.markMissing with hm | hm
      · exact .inr (.inr (.inr ⟨rfl, rfl, hm, by simp [evaluateSync, hsync, hseen, hm, Config.markLimit]⟩))
      · refine .inr (.inr (.inl ⟨rfl, rfl, hm, ?_⟩))
        have : Config.markLimit ≤ l.markMissing + 1 := by unfold Config.markLimit; omega
        simp [evaluateSync, hsync, hseen, this]
        rfl

/-- The counts after the evaluation of the link keep their ranges (R8 to R10). -/
theorem linkLaw_evaluateLink {s t : State} (law : LinkLaw s) (h : linkStatus t.lif = linkStatus (evaluateLink s.lif)) :
    LinkLaw t := by
  obtain ⟨hframe, hmissing, hsync, hunaligned, hgood, hepoch⟩ := law
  refine linkLaw_of_status_eq (s := { s with lif := evaluateLink s.lif }) ?_ h
  have unaligned : (evaluateLink s.lif).unaligned ≤ 3 := by
    rw [evaluateLink_unaligned]
    split <;> simp [Config.unalignedLimit]
  have good : (evaluateLink s.lif).good ≤ 4 := by
    simp only [evaluateLink, Config.goodLimit]
    split <;> omega
  have sync : (evaluateLink s.lif).markMissing ≤ 2 ∧
      ((evaluateLink s.lif).markMissing = 2 ↔ (evaluateLink s.lif).sync = .searching) := by
    simp only [evaluateLink, evaluateAlignment]
    rcases evaluateSync_cases s.lif with ⟨-, he⟩ | ⟨hlocked, -, he⟩ | ⟨-, -, -, he⟩ | ⟨hlocked, -, -, he⟩ <;> rw [he]
    · exact ⟨hmissing, hsync⟩
    · simp [hlocked]
    · simp
    · simp [hlocked]
  have kept : (evaluateLink s.lif).frame = s.lif.frame ∧ (evaluateLink s.lif).epoch = s.lif.epoch := by
    simp only [evaluateLink, evaluateAlignment]
    rcases evaluateSync_cases s.lif with ⟨-, he⟩ | ⟨-, -, he⟩ | ⟨-, -, -, he⟩ | ⟨-, -, -, he⟩ <;> rw [he] <;> trivial
  exact ⟨kept.1 ▸ hframe, sync.1, sync.2, unaligned, good, kept.2 ▸ hepoch⟩

/-- The work of a switch point leaves the link status as the evaluation gives it. -/
@[simp] theorem switchPointWork_status (s : State) :
    linkStatus (switchPointWork s).lif = linkStatus (evaluateLink s.lif) := by
  simp [switchPointWork, latchWriteSet, linkStatus]

/-- A link failure leaves the link status, taken or not. -/
@[simp] theorem takeLinkFailure_status (s : State) : linkStatus (takeLinkFailure s).lif = linkStatus s.lif := by
  unfold takeLinkFailure
  split <;> simp [linkStatus]

/-- A link recovery keeps the law, taken or not. -/
theorem linkLaw_takeLinkRecovery {s : State} (law : LinkLaw s) : LinkLaw (takeLinkRecovery s) := by
  unfold takeLinkRecovery
  split
  · exact linkLaw_of_epoch law (by simp)
  · exact law

/-- A mark keeps the law: it acquires the sync with no mark missing (R8). -/
theorem linkLaw_hsyncOp {s : State} (law : LinkLaw s) (u : Option UnitReply) (d : Option DeskReply) :
    LinkLaw (hsyncOp u d s) := by
  have acquired : ∀ v : State, LinkLaw v → LinkLaw (acquire v) := fun v ⟨hframe, _, _, hrest⟩ =>
    ⟨hframe, by simp [acquire], by simp [acquire], hrest⟩
  unfold hsyncOp
  split
  · split
    · exact acquired s law
    · refine acquired _ ?_
      have closed : LinkLaw (resetBooth d (resetPolling u s)) := linkLaw_of_status_eq law (by simp)
      obtain ⟨-, hrest⟩ := closed
      exact ⟨Nat.zero_lt_succ _, hrest⟩
  · split
    · exact law
    · exact law

/-- A composition leaves the link status (R5). -/
@[simp] theorem compose_status (s : State) : linkStatus (compose s).lif = linkStatus s.lif := by
  unfold compose
  split <;> rfl

/-- An own slot leaves the link status. -/
@[simp] theorem ownSlotOp_status (s : State) : linkStatus (ownSlotOp s).lif = linkStatus s.lif := by
  unfold ownSlotOp
  split <;> simp

/-- A slot close takes off at most the slot received whole. -/
theorem slotCloseOp_lif (t : Nat) (s : State) :
    (slotCloseOp t s).lif = { s.lif with closedSlot := (slotCloseOp t s).lif.closedSlot } := by
  unfold slotCloseOp
  repeat' split
  all_goals simp [takeSlot]

/-- So does PEER_LOSS. -/
theorem peerLossOp_lif (t : Nat) (s : State) :
    (peerLossOp t s).lif = { s.lif with closedSlot := (peerLossOp t s).lif.closedSlot } := by
  unfold peerLossOp
  repeat' split
  all_goals simp [takeSlot]

/-- A live station keeps the law of the link over every command. -/
theorem linkLaw_liveEffect {s : State} (law : LinkLaw s) (i : Instr) : LinkLaw (liveEffect i s) := by
  cases i
  case pinReset => exact linkLaw_of_status_eq linkLaw_reset rfl
  case configMemoryRead record =>
    rcases memoryReadOp_cases record s with ⟨-, h⟩ | ⟨-, r, -, h⟩ | ⟨-, -, h⟩ <;> simp only [liveEffect, h]
    · exact law
    · exact linkLaw_of_status_eq law (by simp)
    · exact linkLaw_of_epoch law (by simp)
  case frameBoundary f =>
    refine linkLaw_beginFrame (linkLaw_of_status_eq law ?_) f
    rw [endFrame_status, takeExpiry_lif]
  case hsyncMark u d => exact linkLaw_hsyncOp law u d
  case switchPoint =>
    have work : LinkLaw (takeLinkFailure (switchPointWork s)) := linkLaw_evaluateLink law (by simp)
    simpa only [liveEffect, switchPointOp] using linkLaw_takeLinkRecovery work
  case linkFailure => exact linkLaw_of_status_eq law (takeLinkFailure_status s)
  case linkRecovery => exact linkLaw_takeLinkRecovery law
  case loadConfig record =>
    rcases loadConfigOp_cases record s with ⟨code, h⟩ | ⟨-, -, r, -, h⟩ | ⟨-, -, -, h⟩ <;> simp only [liveEffect, h]
    · exact linkLaw_of_status_eq law (by simp)
    · exact linkLaw_of_status_eq law (by simp)
    · exact linkLaw_of_epoch law (by simp)
  case restart =>
    simp only [liveEffect, restartOp]
    split
    · exact linkLaw_of_status_eq law (by simp)
    · exact linkLaw_of_epoch law (by simp [linkStatus])
  case ownSlot => exact linkLaw_of_status_eq law (ownSlotOp_status s)
  case slotClose t => exact linkLaw_of_status_eq law ((congrArg linkStatus (slotCloseOp_lif t s)).trans rfl)
  case peerLoss t => exact linkLaw_of_status_eq law ((congrArg linkStatus (peerLossOp_lif t s)).trans rfl)
  all_goals exact linkLaw_of_status_eq law (by simp [liveEffect, linkStatus])

/-- Every command keeps the law of the link. -/
theorem exec_keeps_linkLaw {i : Instr} {s t : State} (law : LinkLaw s) (h : exec i s = .next t) : LinkLaw t := by
  refine exec_preserves (P := LinkLaw) (fun i s _ law => linkLaw_liveEffect law i) ?_ ?_ ?_ law h
  · intro s _
    exact linkLaw_of_status_eq linkLaw_reset rfl
  · intro n c s _ law
    exact linkLaw_of_status_eq law (by simp)
  · intro f s law
    exact linkLaw_of_status_eq law rfl

/-! ### O53 -/

/-- Settles O53: each command keeps the law of the station with its configuration (`exec_keeps_soundStation`) and the law of
the link (`exec_keeps_linkLaw`). -/
theorem stepKeepsStationAndLink : Obligations.StepKeepsStationAndLink := by
  intro s t hstation hlink hconfig h
  obtain ⟨station, config⟩ := step_preserves (P := SoundStation) (fun _ _ law => law)
    (fun law h => exec_keeps_soundStation law h) ⟨hstation, hconfig⟩ h
  exact ⟨station, step_preserves (P := LinkLaw) (fun _ _ law => law) (fun law h => exec_keeps_linkLaw law h) hlink h, config⟩

end Sys2Proof.Machine
end

section
/-! SUPPORT. The frame of each operation within the blocks that it writes: the fields of the claim table, the floor, the
delegate line, the booth, the lanes and the room that it leaves as they are. -/

namespace Sys2Proof.Machine

/-- What every operation of a fold keeps, the fold keeps. -/
theorem foldl_keeps {β γ : Type} (read : State → γ) {g : State → β → State} (h : ∀ s x, read (g s x) = read s) (l : List β)
    (s : State) : read (l.foldl g s) = read s := by
  induction l generalizing s with
  | nil => rfl
  | cons x l ih => rw [List.foldl_cons, ih, h]

@[simp] theorem foldl_claims_places {β : Type} (g : State → β → State) (h : ∀ s x, (g s x).claims.places = s.claims.places)
    (l : List β) (s : State) : (l.foldl g s).claims.places = s.claims.places := foldl_keeps (·.claims.places) h l s

@[simp] theorem foldl_claims_languages {β : Type} (g : State → β → State) (h : ∀ s x, (g s x).claims.languages = s.claims.languages)
    (l : List β) (s : State) : (l.foldl g s).claims.languages = s.claims.languages := foldl_keeps (·.claims.languages) h l s

@[simp] theorem foldl_claims_lanes {β : Type} (g : State → β → State) (h : ∀ s x, (g s x).claims.lanes = s.claims.lanes)
    (l : List β) (s : State) : (l.foldl g s).claims.lanes = s.claims.lanes := foldl_keeps (·.claims.lanes) h l s

@[simp] theorem foldl_claims_placeWants {β : Type} (g : State → β → State) (h : ∀ s x, (g s x).claims.placeWants = s.claims.placeWants)
    (l : List β) (s : State) : (l.foldl g s).claims.placeWants = s.claims.placeWants := foldl_keeps (·.claims.placeWants) h l s

@[simp] theorem foldl_claims_languageWants {β : Type} (g : State → β → State) (h : ∀ s x, (g s x).claims.languageWants = s.claims.languageWants)
    (l : List β) (s : State) : (l.foldl g s).claims.languageWants = s.claims.languageWants := foldl_keeps (·.claims.languageWants) h l s

@[simp] theorem foldl_floor_mics {β : Type} (g : State → β → State) (h : ∀ s x, (g s x).floor.mics = s.floor.mics)
    (l : List β) (s : State) : (l.foldl g s).floor.mics = s.floor.mics := foldl_keeps (·.floor.mics) h l s

@[simp] theorem foldl_floor_requests {β : Type} (g : State → β → State) (h : ∀ s x, (g s x).floor.requests = s.floor.requests)
    (l : List β) (s : State) : (l.foldl g s).floor.requests = s.floor.requests := foldl_keeps (·.floor.requests) h l s

@[simp] theorem foldl_floor_level {β : Type} (g : State → β → State) (h : ∀ s x, (g s x).floor.level = s.floor.level)
    (l : List β) (s : State) : (l.foldl g s).floor.level = s.floor.level := foldl_keeps (·.floor.level) h l s

@[simp] theorem foldl_dlc_units {β : Type} (g : State → β → State) (h : ∀ s x, (g s x).dlc.units = s.dlc.units)
    (l : List β) (s : State) : (l.foldl g s).dlc.units = s.dlc.units := foldl_keeps (·.dlc.units) h l s

@[simp] theorem foldl_dlc_uplinks {β : Type} (g : State → β → State) (h : ∀ s x, (g s x).dlc.uplinks = s.dlc.uplinks)
    (l : List β) (s : State) : (l.foldl g s).dlc.uplinks = s.dlc.uplinks := foldl_keeps (·.dlc.uplinks) h l s

@[simp] theorem foldl_dlc_pointer {β : Type} (g : State → β → State) (h : ∀ s x, (g s x).dlc.pointer = s.dlc.pointer)
    (l : List β) (s : State) : (l.foldl g s).dlc.pointer = s.dlc.pointer := foldl_keeps (·.dlc.pointer) h l s

@[simp] theorem foldl_dlc_window {β : Type} (g : State → β → State) (h : ∀ s x, (g s x).dlc.window = s.dlc.window)
    (l : List β) (s : State) : (l.foldl g s).dlc.window = s.dlc.window := foldl_keeps (·.dlc.window) h l s

@[simp] theorem foldl_dlc_dueWindow {β : Type} (g : State → β → State) (h : ∀ s x, (g s x).dlc.dueWindow = s.dlc.dueWindow)
    (l : List β) (s : State) : (l.foldl g s).dlc.dueWindow = s.dlc.dueWindow := foldl_keeps (·.dlc.dueWindow) h l s

@[simp] theorem foldl_dlc_pollOut {β : Type} (g : State → β → State) (h : ∀ s x, (g s x).dlc.pollOut = s.dlc.pollOut)
    (l : List β) (s : State) : (l.foldl g s).dlc.pollOut = s.dlc.pollOut := foldl_keeps (·.dlc.pollOut) h l s

@[simp] theorem foldl_dlc_uplinkIn {β : Type} (g : State → β → State) (h : ∀ s x, (g s x).dlc.uplinkIn = s.dlc.uplinkIn)
    (l : List β) (s : State) : (l.foldl g s).dlc.uplinkIn = s.dlc.uplinkIn := foldl_keeps (·.dlc.uplinkIn) h l s

@[simp] theorem foldl_booth_window {β : Type} (g : State → β → State) (h : ∀ s x, (g s x).booth.window = s.booth.window)
    (l : List β) (s : State) : (l.foldl g s).booth.window = s.booth.window := foldl_keeps (·.booth.window) h l s

@[simp] theorem foldl_booth_dueWindow {β : Type} (g : State → β → State) (h : ∀ s x, (g s x).booth.dueWindow = s.booth.dueWindow)
    (l : List β) (s : State) : (l.foldl g s).booth.dueWindow = s.booth.dueWindow := foldl_keeps (·.booth.dueWindow) h l s

@[simp] theorem foldl_booth_pollOut {β : Type} (g : State → β → State) (h : ∀ s x, (g s x).booth.pollOut = s.booth.pollOut)
    (l : List β) (s : State) : (l.foldl g s).booth.pollOut = s.booth.pollOut := foldl_keeps (·.booth.pollOut) h l s

@[simp] theorem foldl_booth_before {β : Type} (g : State → β → State) (h : ∀ s x, (g s x).booth.before = s.booth.before)
    (l : List β) (s : State) : (l.foldl g s).booth.before = s.booth.before := foldl_keeps (·.booth.before) h l s

@[simp] theorem foldl_booth_micIn {β : Type} (g : State → β → State) (h : ∀ s x, (g s x).booth.micIn = s.booth.micIn)
    (l : List β) (s : State) : (l.foldl g s).booth.micIn = s.booth.micIn := foldl_keeps (·.booth.micIn) h l s

@[simp] theorem foldl_booth_left {β : Type} (g : State → β → State) (h : ∀ s x, (g s x).booth.left = s.booth.left)
    (l : List β) (s : State) : (l.foldl g s).booth.left = s.booth.left := foldl_keeps (·.booth.left) h l s

@[simp] theorem foldl_lanes_holdings {β : Type} (g : State → β → State) (h : ∀ s x, (g s x).lanes.holdings = s.lanes.holdings)
    (l : List β) (s : State) : (l.foldl g s).lanes.holdings = s.lanes.holdings := foldl_keeps (·.lanes.holdings) h l s

@[simp] theorem foldl_lanes_shortage {β : Type} (g : State → β → State) (h : ∀ s x, (g s x).lanes.shortage = s.lanes.shortage)
    (l : List β) (s : State) : (l.foldl g s).lanes.shortage = s.lanes.shortage := foldl_keeps (·.lanes.shortage) h l s

/-- The fields of a chosen Claims are those of the chosen one. -/
@[simp] theorem ite_claims_fields (c : Prop) [Decidable c] (a b : Claims) :
    (if c then a else b).places = (if c then a.places else b.places) ∧
    (if c then a else b).languages = (if c then a.languages else b.languages) ∧
    (if c then a else b).lanes = (if c then a.lanes else b.lanes) ∧
    (if c then a else b).placeWants = (if c then a.placeWants else b.placeWants) ∧
    (if c then a else b).languageWants = (if c then a.languageWants else b.languageWants) := by
  split <;> simp

/-- The fields of a chosen Floor are those of the chosen one. -/
@[simp] theorem ite_floor_fields (c : Prop) [Decidable c] (a b : Floor) :
    (if c then a else b).mics = (if c then a.mics else b.mics) ∧
    (if c then a else b).requests = (if c then a.requests else b.requests) ∧
    (if c then a else b).level = (if c then a.level else b.level) := by
  split <;> simp

/-- The fields of a chosen Dlc are those of the chosen one. -/
@[simp] theorem ite_dlc_fields (c : Prop) [Decidable c] (a b : Dlc) :
    (if c then a else b).units = (if c then a.units else b.units) ∧
    (if c then a else b).uplinks = (if c then a.uplinks else b.uplinks) ∧
    (if c then a else b).pointer = (if c then a.pointer else b.pointer) ∧
    (if c then a else b).window = (if c then a.window else b.window) ∧
    (if c then a else b).dueWindow = (if c then a.dueWindow else b.dueWindow) ∧
    (if c then a else b).pollOut = (if c then a.pollOut else b.pollOut) ∧
    (if c then a else b).uplinkIn = (if c then a.uplinkIn else b.uplinkIn) := by
  split <;> simp

/-- The fields of a chosen Booth are those of the chosen one. -/
@[simp] theorem ite_booth_fields (c : Prop) [Decidable c] (a b : Booth) :
    (if c then a else b).desks = (if c then a.desks else b.desks) ∧
    (if c then a else b).window = (if c then a.window else b.window) ∧
    (if c then a else b).dueWindow = (if c then a.dueWindow else b.dueWindow) ∧
    (if c then a else b).pollOut = (if c then a.pollOut else b.pollOut) ∧
    (if c then a else b).before = (if c then a.before else b.before) ∧
    (if c then a else b).micIn = (if c then a.micIn else b.micIn) ∧
    (if c then a else b).left = (if c then a.left else b.left) := by
  split <;> simp

/-- The fields of a chosen Room are those of the chosen one. -/
@[simp] theorem ite_room_fields (c : Prop) [Decidable c] (a b : Room) :
    (if c then a else b).members = (if c then a.members else b.members) ∧
    (if c then a else b).head = (if c then a.head else b.head) ∧
    (if c then a else b).adopted = (if c then a.adopted else b.adopted) ∧
    (if c then a else b).marks = (if c then a.marks else b.marks) ∧
    (if c then a else b).queue = (if c then a.queue else b.queue) ∧
    (if c then a else b).current = (if c then a.current else b.current) ∧
    (if c then a else b).counter = (if c then a.counter else b.counter) ∧
    (if c then a else b).lastSeen = (if c then a.lastSeen else b.lastSeen) := by
  split <;> simp

/-- The fields of a chosen Lanes are those of the chosen one. -/
@[simp] theorem ite_lanes_fields (c : Prop) [Decidable c] (a b : Lanes) :
    (if c then a else b).holdings = (if c then a.holdings else b.holdings) ∧
    (if c then a else b).shortage = (if c then a.shortage else b.shortage) := by
  split <;> simp

/-- modifyUnit keeps these fields of the blocks that it writes. -/
@[simp] theorem modifyUnit_fields (a : Nat) (f : UnitEntry → UnitEntry) (s : State) :
    (modifyUnit a f s).dlc.uplinks = s.dlc.uplinks ∧
    (modifyUnit a f s).dlc.pointer = s.dlc.pointer ∧
    (modifyUnit a f s).dlc.window = s.dlc.window ∧
    (modifyUnit a f s).dlc.dueWindow = s.dlc.dueWindow ∧
    (modifyUnit a f s).dlc.pollOut = s.dlc.pollOut ∧
    (modifyUnit a f s).dlc.uplinkIn = s.dlc.uplinkIn := by
  simp [modifyUnit]

/-- showFull keeps these fields of the blocks that it writes. -/
@[simp] theorem showFull_fields (seat : Nat) (s : State) :
    (showFull seat s).dlc.uplinks = s.dlc.uplinks ∧
    (showFull seat s).dlc.pointer = s.dlc.pointer ∧
    (showFull seat s).dlc.window = s.dlc.window ∧
    (showFull seat s).dlc.dueWindow = s.dlc.dueWindow ∧
    (showFull seat s).dlc.pollOut = s.dlc.pollOut ∧
    (showFull seat s).dlc.uplinkIn = s.dlc.uplinkIn := by
  simp [showFull]

/-- clearFull keeps these fields of the blocks that it writes. -/
@[simp] theorem clearFull_fields (seat : Nat) (s : State) :
    (clearFull seat s).dlc.uplinks = s.dlc.uplinks ∧
    (clearFull seat s).dlc.pointer = s.dlc.pointer ∧
    (clearFull seat s).dlc.window = s.dlc.window ∧
    (clearFull seat s).dlc.dueWindow = s.dlc.dueWindow ∧
    (clearFull seat s).dlc.pollOut = s.dlc.pollOut ∧
    (clearFull seat s).dlc.uplinkIn = s.dlc.uplinkIn := by
  simp [clearFull]

/-- refusePress keeps these fields of the blocks that it writes. -/
@[simp] theorem refusePress_fields (seat : Nat) (s : State) :
    (refusePress seat s).dlc.uplinks = s.dlc.uplinks ∧
    (refusePress seat s).dlc.pointer = s.dlc.pointer ∧
    (refusePress seat s).dlc.window = s.dlc.window ∧
    (refusePress seat s).dlc.dueWindow = s.dlc.dueWindow ∧
    (refusePress seat s).dlc.pollOut = s.dlc.pollOut ∧
    (refusePress seat s).dlc.uplinkIn = s.dlc.uplinkIn := by
  simp [refusePress]

/-- setUplink keeps these fields of the blocks that it writes. -/
@[simp] theorem setUplink_fields (channel : Nat) (seat : Option Nat) (s : State) :
    (setUplink channel seat s).dlc.units = s.dlc.units ∧
    (setUplink channel seat s).dlc.pointer = s.dlc.pointer ∧
    (setUplink channel seat s).dlc.window = s.dlc.window ∧
    (setUplink channel seat s).dlc.dueWindow = s.dlc.dueWindow ∧
    (setUplink channel seat s).dlc.pollOut = s.dlc.pollOut ∧
    (setUplink channel seat s).dlc.uplinkIn = s.dlc.uplinkIn := by
  simp [setUplink]

/-- withdrawSeat keeps these fields of the blocks that it writes. -/
@[simp] theorem withdrawSeat_fields (every : Bool) (seat : Nat) (s : State) :
    (withdrawSeat every seat s).claims.languages = s.claims.languages ∧
    (withdrawSeat every seat s).claims.lanes = s.claims.lanes ∧
    (withdrawSeat every seat s).claims.languageWants = s.claims.languageWants := by
  simp [withdrawSeat]

/-- withdrawDesk keeps these fields of the blocks that it writes. -/
@[simp] theorem withdrawDesk_fields (desk : Nat) (s : State) :
    (withdrawDesk desk s).claims.places = s.claims.places ∧
    (withdrawDesk desk s).claims.lanes = s.claims.lanes ∧
    (withdrawDesk desk s).claims.placeWants = s.claims.placeWants := by
  simp [withdrawDesk]

/-- filePlaceWant keeps these fields of the blocks that it writes. -/
@[simp] theorem filePlaceWant_fields (w : PlaceWant) (s : State) :
    (filePlaceWant w s).claims.places = s.claims.places ∧
    (filePlaceWant w s).claims.languages = s.claims.languages ∧
    (filePlaceWant w s).claims.lanes = s.claims.lanes ∧
    (filePlaceWant w s).claims.languageWants = s.claims.languageWants ∧
    (filePlaceWant w s).dlc.uplinks = s.dlc.uplinks ∧
    (filePlaceWant w s).dlc.pointer = s.dlc.pointer ∧
    (filePlaceWant w s).dlc.window = s.dlc.window ∧
    (filePlaceWant w s).dlc.dueWindow = s.dlc.dueWindow ∧
    (filePlaceWant w s).dlc.pollOut = s.dlc.pollOut ∧
    (filePlaceWant w s).dlc.uplinkIn = s.dlc.uplinkIn := by
  simp [filePlaceWant]

/-- modifyDesk keeps these fields of the blocks that it writes. -/
@[simp] theorem modifyDesk_fields (e : Nat) (f : Desk → Desk) (s : State) :
    (modifyDesk e f s).booth.window = s.booth.window ∧
    (modifyDesk e f s).booth.dueWindow = s.booth.dueWindow ∧
    (modifyDesk e f s).booth.pollOut = s.booth.pollOut ∧
    (modifyDesk e f s).booth.before = s.booth.before ∧
    (modifyDesk e f s).booth.micIn = s.booth.micIn ∧
    (modifyDesk e f s).booth.left = s.booth.left := by
  simp [modifyDesk]

/-- engageDesk keeps these fields of the blocks that it writes. -/
@[simp] theorem engageDesk_fields (e : Nat) (s : State) :
    (engageDesk e s).booth.window = s.booth.window ∧
    (engageDesk e s).booth.dueWindow = s.booth.dueWindow ∧
    (engageDesk e s).booth.pollOut = s.booth.pollOut ∧
    (engageDesk e s).booth.before = s.booth.before ∧
    (engageDesk e s).booth.micIn = s.booth.micIn ∧
    (engageDesk e s).booth.left = s.booth.left := by
  simp [engageDesk]

/-- setDeskOff keeps these fields of the blocks that it writes. -/
@[simp] theorem setDeskOff_fields (e : Nat) (s : State) :
    (setDeskOff e s).booth.window = s.booth.window ∧
    (setDeskOff e s).booth.dueWindow = s.booth.dueWindow ∧
    (setDeskOff e s).booth.pollOut = s.booth.pollOut ∧
    (setDeskOff e s).booth.before = s.booth.before ∧
    (setDeskOff e s).booth.micIn = s.booth.micIn ∧
    (setDeskOff e s).booth.left = s.booth.left := by
  simp [setDeskOff]

/-- endDeskHold keeps these fields of the blocks that it writes. -/
@[simp] theorem endDeskHold_fields (e : Nat) (s : State) :
    (endDeskHold e s).claims.places = s.claims.places ∧
    (endDeskHold e s).claims.lanes = s.claims.lanes ∧
    (endDeskHold e s).claims.placeWants = s.claims.placeWants ∧
    (endDeskHold e s).claims.languageWants = s.claims.languageWants := by
  simp [endDeskHold]

/-- takeDeskOffAir keeps these fields of the blocks that it writes. -/
@[simp] theorem takeDeskOffAir_fields (e : Nat) (s : State) :
    (takeDeskOffAir e s).claims.places = s.claims.places ∧
    (takeDeskOffAir e s).claims.lanes = s.claims.lanes ∧
    (takeDeskOffAir e s).claims.placeWants = s.claims.placeWants ∧
    (takeDeskOffAir e s).claims.languageWants = s.claims.languageWants ∧
    (takeDeskOffAir e s).booth.window = s.booth.window ∧
    (takeDeskOffAir e s).booth.dueWindow = s.booth.dueWindow ∧
    (takeDeskOffAir e s).booth.pollOut = s.booth.pollOut ∧
    (takeDeskOffAir e s).booth.before = s.booth.before ∧
    (takeDeskOffAir e s).booth.micIn = s.booth.micIn ∧
    (takeDeskOffAir e s).booth.left = s.booth.left := by
  simp [takeDeskOffAir]

/-- fileLanguageWant keeps these fields of the blocks that it writes. -/
@[simp] theorem fileLanguageWant_fields (w : LanguageWant) (s : State) :
    (fileLanguageWant w s).claims.places = s.claims.places ∧
    (fileLanguageWant w s).claims.languages = s.claims.languages ∧
    (fileLanguageWant w s).claims.lanes = s.claims.lanes ∧
    (fileLanguageWant w s).claims.placeWants = s.claims.placeWants ∧
    (fileLanguageWant w s).booth.window = s.booth.window ∧
    (fileLanguageWant w s).booth.dueWindow = s.booth.dueWindow ∧
    (fileLanguageWant w s).booth.pollOut = s.booth.pollOut ∧
    (fileLanguageWant w s).booth.before = s.booth.before ∧
    (fileLanguageWant w s).booth.micIn = s.booth.micIn ∧
    (fileLanguageWant w s).booth.left = s.booth.left := by
  simp [fileLanguageWant]

/-- closeMics keeps these fields of the blocks that it writes. -/
@[simp] theorem closeMics_fields (pick : Mic → Bool) (s : State) :
    (closeMics pick s).floor.requests = s.floor.requests ∧
    (closeMics pick s).floor.level = s.floor.level := by
  simp [closeMics]

/-- closeSeatMic keeps these fields of the blocks that it writes. -/
@[simp] theorem closeSeatMic_fields (seat : Nat) (s : State) :
    (closeSeatMic seat s).floor.requests = s.floor.requests ∧
    (closeSeatMic seat s).floor.level = s.floor.level := by
  simp [closeSeatMic]

/-- createRequest keeps these fields of the blocks that it writes. -/
@[simp] theorem createRequest_fields (seat : Nat) (s : State) :
    (createRequest seat s).floor.mics = s.floor.mics ∧
    (createRequest seat s).floor.level = s.floor.level ∧
    (createRequest seat s).dlc.uplinks = s.dlc.uplinks ∧
    (createRequest seat s).dlc.pointer = s.dlc.pointer ∧
    (createRequest seat s).dlc.window = s.dlc.window ∧
    (createRequest seat s).dlc.dueWindow = s.dlc.dueWindow ∧
    (createRequest seat s).dlc.pollOut = s.dlc.pollOut ∧
    (createRequest seat s).dlc.uplinkIn = s.dlc.uplinkIn := by
  simp [createRequest]

/-- dropRequest keeps these fields of the blocks that it writes. -/
@[simp] theorem dropRequest_fields (seat : Nat) (s : State) :
    (dropRequest seat s).floor.mics = s.floor.mics ∧
    (dropRequest seat s).floor.level = s.floor.level := by
  simp [dropRequest]

/-- removeRequest keeps these fields of the blocks that it writes. -/
@[simp] theorem removeRequest_fields (seat : Nat) (s : State) :
    (removeRequest seat s).claims.languages = s.claims.languages ∧
    (removeRequest seat s).claims.lanes = s.claims.lanes ∧
    (removeRequest seat s).claims.languageWants = s.claims.languageWants ∧
    (removeRequest seat s).floor.mics = s.floor.mics ∧
    (removeRequest seat s).floor.level = s.floor.level := by
  simp [removeRequest]

/-- clearRequests keeps these fields of the blocks that it writes. -/
@[simp] theorem clearRequests_fields (s : State) :
    (clearRequests s).claims.languages = s.claims.languages ∧
    (clearRequests s).claims.lanes = s.claims.lanes ∧
    (clearRequests s).claims.languageWants = s.claims.languageWants ∧
    (clearRequests s).floor.mics = s.floor.mics ∧
    (clearRequests s).floor.level = s.floor.level := by
  simp [clearRequests, -withdrawSeat_languages, -withdrawSeat_lanes, -withdrawSeat_languageWants]

/-- endPlaceHold keeps these fields of the blocks that it writes. -/
@[simp] theorem endPlaceHold_fields (seat : Nat) (s : State) :
    (endPlaceHold seat s).claims.languages = s.claims.languages ∧
    (endPlaceHold seat s).claims.lanes = s.claims.lanes ∧
    (endPlaceHold seat s).claims.placeWants = s.claims.placeWants ∧
    (endPlaceHold seat s).claims.languageWants = s.claims.languageWants ∧
    (endPlaceHold seat s).dlc.units = s.dlc.units ∧
    (endPlaceHold seat s).dlc.pointer = s.dlc.pointer ∧
    (endPlaceHold seat s).dlc.window = s.dlc.window ∧
    (endPlaceHold seat s).dlc.dueWindow = s.dlc.dueWindow ∧
    (endPlaceHold seat s).dlc.pollOut = s.dlc.pollOut ∧
    (endPlaceHold seat s).dlc.uplinkIn = s.dlc.uplinkIn := by
  simp [endPlaceHold, -setUplink_units]

/-- workOutSources keeps these fields of the blocks that it writes. -/
@[simp] theorem workOutSources_fields (s : State) :
    (workOutSources s).booth.window = s.booth.window ∧
    (workOutSources s).booth.dueWindow = s.booth.dueWindow ∧
    (workOutSources s).booth.pollOut = s.booth.pollOut ∧
    (workOutSources s).booth.before = s.booth.before ∧
    (workOutSources s).booth.micIn = s.booth.micIn ∧
    (workOutSources s).booth.left = s.booth.left := by
  simp [workOutSources]

/-- applySources keeps these fields of the blocks that it writes. -/
@[simp] theorem applySources_fields (s : State) :
    (applySources s).booth.window = s.booth.window ∧
    (applySources s).booth.dueWindow = s.booth.dueWindow ∧
    (applySources s).booth.pollOut = s.booth.pollOut ∧
    (applySources s).booth.before = s.booth.before ∧
    (applySources s).booth.micIn = s.booth.micIn ∧
    (applySources s).booth.left = s.booth.left := by
  simp [applySources]

/-- forceRelay keeps these fields of the blocks that it writes. -/
@[simp] theorem forceRelay_fields (e : Nat) (s : State) :
    (forceRelay e s).booth.window = s.booth.window ∧
    (forceRelay e s).booth.dueWindow = s.booth.dueWindow ∧
    (forceRelay e s).booth.pollOut = s.booth.pollOut ∧
    (forceRelay e s).booth.before = s.booth.before ∧
    (forceRelay e s).booth.micIn = s.booth.micIn ∧
    (forceRelay e s).booth.left = s.booth.left := by
  simp [forceRelay]

/-- loopCheck keeps these fields of the blocks that it writes. -/
@[simp] theorem loopCheck_fields (s : State) :
    (loopCheck s).booth.window = s.booth.window ∧
    (loopCheck s).booth.dueWindow = s.booth.dueWindow ∧
    (loopCheck s).booth.pollOut = s.booth.pollOut ∧
    (loopCheck s).booth.before = s.booth.before ∧
    (loopCheck s).booth.micIn = s.booth.micIn ∧
    (loopCheck s).booth.left = s.booth.left := by
  simp [loopCheck]

/-- dimEngaged keeps these fields of the blocks that it writes. -/
@[simp] theorem dimEngaged_fields (s : State) :
    (dimEngaged s).booth.window = s.booth.window ∧
    (dimEngaged s).booth.dueWindow = s.booth.dueWindow ∧
    (dimEngaged s).booth.pollOut = s.booth.pollOut ∧
    (dimEngaged s).booth.before = s.booth.before ∧
    (dimEngaged s).booth.micIn = s.booth.micIn ∧
    (dimEngaged s).booth.left = s.booth.left := by
  simp [dimEngaged]

/-- sourceStep keeps these fields of the blocks that it writes. -/
@[simp] theorem sourceStep_fields (s : State) :
    (sourceStep s).booth.window = s.booth.window ∧
    (sourceStep s).booth.dueWindow = s.booth.dueWindow ∧
    (sourceStep s).booth.pollOut = s.booth.pollOut ∧
    (sourceStep s).booth.before = s.booth.before ∧
    (sourceStep s).booth.micIn = s.booth.micIn ∧
    (sourceStep s).booth.left = s.booth.left := by
  simp [sourceStep]

/-- standAside keeps these fields of the blocks that it writes. -/
@[simp] theorem standAside_fields (e : Nat) (s : State) :
    (standAside e s).claims.places = s.claims.places ∧
    (standAside e s).claims.lanes = s.claims.lanes ∧
    (standAside e s).claims.placeWants = s.claims.placeWants ∧
    (standAside e s).claims.languageWants = s.claims.languageWants ∧
    (standAside e s).booth.window = s.booth.window ∧
    (standAside e s).booth.dueWindow = s.booth.dueWindow ∧
    (standAside e s).booth.pollOut = s.booth.pollOut ∧
    (standAside e s).booth.before = s.booth.before ∧
    (standAside e s).booth.micIn = s.booth.micIn ∧
    (standAside e s).booth.left = s.booth.left := by
  simp [standAside]

/-- deskConflictStep keeps these fields of the blocks that it writes. -/
@[simp] theorem deskConflictStep_fields (s : State) :
    (deskConflictStep s).claims.places = s.claims.places ∧
    (deskConflictStep s).claims.lanes = s.claims.lanes ∧
    (deskConflictStep s).claims.placeWants = s.claims.placeWants ∧
    (deskConflictStep s).claims.languageWants = s.claims.languageWants ∧
    (deskConflictStep s).booth.window = s.booth.window ∧
    (deskConflictStep s).booth.dueWindow = s.booth.dueWindow ∧
    (deskConflictStep s).booth.pollOut = s.booth.pollOut ∧
    (deskConflictStep s).booth.before = s.booth.before ∧
    (deskConflictStep s).booth.micIn = s.booth.micIn ∧
    (deskConflictStep s).booth.left = s.booth.left := by
  simp [deskConflictStep]

/-- deskRaised keeps these fields of the blocks that it writes. -/
@[simp] theorem deskRaised_fields (e : Nat) (s : State) :
    (deskRaised e s).booth.window = s.booth.window ∧
    (deskRaised e s).booth.dueWindow = s.booth.dueWindow ∧
    (deskRaised e s).booth.pollOut = s.booth.pollOut ∧
    (deskRaised e s).booth.before = s.booth.before ∧
    (deskRaised e s).booth.micIn = s.booth.micIn ∧
    (deskRaised e s).booth.left = s.booth.left := by
  simp [deskRaised]

/-- deskWithdrawn keeps these fields of the blocks that it writes. -/
@[simp] theorem deskWithdrawn_fields (e : Nat) (s : State) :
    (deskWithdrawn e s).booth.window = s.booth.window ∧
    (deskWithdrawn e s).booth.dueWindow = s.booth.dueWindow ∧
    (deskWithdrawn e s).booth.pollOut = s.booth.pollOut ∧
    (deskWithdrawn e s).booth.before = s.booth.before ∧
    (deskWithdrawn e s).booth.micIn = s.booth.micIn ∧
    (deskWithdrawn e s).booth.left = s.booth.left := by
  simp [deskWithdrawn]

/-- deskLost keeps these fields of the blocks that it writes. -/
@[simp] theorem deskLost_fields (e : Nat) (s : State) :
    (deskLost e s).booth.window = s.booth.window ∧
    (deskLost e s).booth.dueWindow = s.booth.dueWindow ∧
    (deskLost e s).booth.pollOut = s.booth.pollOut ∧
    (deskLost e s).booth.before = s.booth.before ∧
    (deskLost e s).booth.micIn = s.booth.micIn ∧
    (deskLost e s).booth.left = s.booth.left := by
  simp [deskLost]

/-- deskWon keeps these fields of the blocks that it writes. -/
@[simp] theorem deskWon_fields (e l : Nat) (displaced : Option Named) (s : State) :
    (deskWon e l displaced s).claims.places = s.claims.places ∧
    (deskWon e l displaced s).claims.lanes = s.claims.lanes ∧
    (deskWon e l displaced s).claims.placeWants = s.claims.placeWants ∧
    (deskWon e l displaced s).claims.languageWants = s.claims.languageWants ∧
    (deskWon e l displaced s).booth.window = s.booth.window ∧
    (deskWon e l displaced s).booth.dueWindow = s.booth.dueWindow ∧
    (deskWon e l displaced s).booth.pollOut = s.booth.pollOut ∧
    (deskWon e l displaced s).booth.before = s.booth.before ∧
    (deskWon e l displaced s).booth.micIn = s.booth.micIn ∧
    (deskWon e l displaced s).booth.left = s.booth.left := by
  unfold deskWon
  split <;> simp

/-- applyTakeovers keeps these fields of the blocks that it writes. -/
@[simp] theorem applyTakeovers_fields (a : Announcement) (s : State) :
    (applyTakeovers a s).claims.places = s.claims.places ∧
    (applyTakeovers a s).claims.lanes = s.claims.lanes ∧
    (applyTakeovers a s).claims.placeWants = s.claims.placeWants ∧
    (applyTakeovers a s).claims.languageWants = s.claims.languageWants ∧
    (applyTakeovers a s).booth.window = s.booth.window ∧
    (applyTakeovers a s).booth.dueWindow = s.booth.dueWindow ∧
    (applyTakeovers a s).booth.pollOut = s.booth.pollOut ∧
    (applyTakeovers a s).booth.before = s.booth.before ∧
    (applyTakeovers a s).booth.micIn = s.booth.micIn ∧
    (applyTakeovers a s).booth.left = s.booth.left := by
  simp [applyTakeovers]

/-- advanceDesks keeps these fields of the blocks that it writes. -/
@[simp] theorem advanceDesks_fields (s : State) :
    (advanceDesks s).booth.window = s.booth.window ∧
    (advanceDesks s).booth.dueWindow = s.booth.dueWindow ∧
    (advanceDesks s).booth.pollOut = s.booth.pollOut ∧
    (advanceDesks s).booth.before = s.booth.before ∧
    (advanceDesks s).booth.micIn = s.booth.micIn ∧
    (advanceDesks s).booth.left = s.booth.left := by
  simp [advanceDesks]

/-- setHoldings keeps these fields of the blocks that it writes. -/
@[simp] theorem setHoldings_fields (hs : List Holding) (s : State) :
    (setHoldings hs s).lanes.shortage = s.lanes.shortage := by
  simp [setHoldings]

/-- endLaneHold keeps these fields of the blocks that it writes. -/
@[simp] theorem endLaneHold_fields (lane : Nat) (s : State) :
    (endLaneHold lane s).claims.places = s.claims.places ∧
    (endLaneHold lane s).claims.languages = s.claims.languages ∧
    (endLaneHold lane s).claims.placeWants = s.claims.placeWants ∧
    (endLaneHold lane s).claims.languageWants = s.claims.languageWants := by
  simp [endLaneHold]

/-- dropHolding keeps these fields of the blocks that it writes. -/
@[simp] theorem dropHolding_fields (lane : Nat) (s : State) :
    (dropHolding lane s).lanes.shortage = s.lanes.shortage := by
  simp [dropHolding]

/-- releaseLanes keeps these fields of the blocks that it writes. -/
@[simp] theorem releaseLanes_fields (marked : List Nat) (s : State) :
    (releaseLanes marked s).claims.places = s.claims.places ∧
    (releaseLanes marked s).claims.languages = s.claims.languages ∧
    (releaseLanes marked s).claims.placeWants = s.claims.placeWants ∧
    (releaseLanes marked s).claims.languageWants = s.claims.languageWants ∧
    (releaseLanes marked s).lanes.shortage = s.lanes.shortage := by
  simp [releaseLanes]

/-- laneWon keeps these fields of the blocks that it writes. -/
@[simp] theorem laneWon_fields (lane : Nat) (s : State) :
    (laneWon lane s).lanes.shortage = s.lanes.shortage := by
  simp [laneWon]

/-- laneShort keeps these fields of the blocks that it writes. -/
@[simp] theorem laneShort_fields (language : Nat) (s : State) :
    (laneShort language s).lanes.holdings = s.lanes.holdings := by
  simp [laneShort]

/-- advanceLanes keeps these fields of the blocks that it writes. -/
@[simp] theorem advanceLanes_fields (s : State) :
    (advanceLanes s).lanes.shortage = s.lanes.shortage := by
  simp [advanceLanes]

/-- releaseAllLanes keeps these fields of the blocks that it writes. -/
@[simp] theorem releaseAllLanes_fields (s : State) :
    (releaseAllLanes s).claims.places = s.claims.places ∧
    (releaseAllLanes s).claims.languages = s.claims.languages ∧
    (releaseAllLanes s).claims.placeWants = s.claims.placeWants ∧
    (releaseAllLanes s).claims.languageWants = s.claims.languageWants := by
  simp [releaseAllLanes]

/-- claimsAtMembership keeps these fields of the blocks that it writes. -/
@[simp] theorem claimsAtMembership_fields (s : State) :
    (claimsAtMembership s).claims.places = s.claims.places ∧
    (claimsAtMembership s).claims.languages = s.claims.languages ∧
    (claimsAtMembership s).claims.placeWants = s.claims.placeWants ∧
    (claimsAtMembership s).claims.languageWants = s.claims.languageWants := by
  simp [claimsAtMembership]

/-- markNewcomers keeps these fields of the blocks that it writes. -/
@[simp] theorem markNewcomers_fields (before : List Nat) (s : State) :
    (markNewcomers before s).room.members = s.room.members ∧
    (markNewcomers before s).room.head = s.room.head ∧
    (markNewcomers before s).room.adopted = s.room.adopted ∧
    (markNewcomers before s).room.marks = s.room.marks ∧
    (markNewcomers before s).room.queue = s.room.queue ∧
    (markNewcomers before s).room.current = s.room.current ∧
    (markNewcomers before s).room.counter = s.room.counter := by
  simp [markNewcomers]

/-- presentMembership keeps these fields of the blocks that it writes. -/
@[simp] theorem presentMembership_fields (before : List Nat) (s : State) :
    (presentMembership before s).claims.places = s.claims.places ∧
    (presentMembership before s).claims.languages = s.claims.languages ∧
    (presentMembership before s).claims.placeWants = s.claims.placeWants ∧
    (presentMembership before s).claims.languageWants = s.claims.languageWants ∧
    (presentMembership before s).room.marks = s.room.marks ∧
    (presentMembership before s).room.queue = s.room.queue ∧
    (presentMembership before s).room.current = s.room.current ∧
    (presentMembership before s).room.counter = s.room.counter := by
  simp [presentMembership]

/-- claimsAtContext keeps these fields of the blocks that it writes. -/
@[simp] theorem claimsAtContext_fields (before after : Context) (s : State) :
    (claimsAtContext before after s).claims.lanes = s.claims.lanes := by
  simp [claimsAtContext]

/-- floorAtContext keeps these fields of the blocks that it writes. -/
@[simp] theorem floorAtContext_fields (before after : Context) (s : State) :
    (floorAtContext before after s).claims.languages = s.claims.languages ∧
    (floorAtContext before after s).claims.lanes = s.claims.lanes ∧
    (floorAtContext before after s).claims.languageWants = s.claims.languageWants ∧
    (floorAtContext before after s).floor.level = s.floor.level := by
  simp only [floorAtContext]
  repeat' split
  all_goals simp [-withdrawSeat_languages, -withdrawSeat_lanes, -withdrawSeat_languageWants]

/-- presentContext keeps these fields of the blocks that it writes. -/
@[simp] theorem presentContext_fields (before after : Context) (s : State) :
    (presentContext before after s).claims.lanes = s.claims.lanes ∧
    (presentContext before after s).floor.level = s.floor.level ∧
    (presentContext before after s).booth.window = s.booth.window ∧
    (presentContext before after s).booth.dueWindow = s.booth.dueWindow ∧
    (presentContext before after s).booth.pollOut = s.booth.pollOut ∧
    (presentContext before after s).booth.before = s.booth.before ∧
    (presentContext before after s).booth.micIn = s.booth.micIn ∧
    (presentContext before after s).booth.left = s.booth.left := by
  simp [presentContext]

/-- presentContextChange keeps these fields of the blocks that it writes. -/
@[simp] theorem presentContextChange_fields (before after : Option Context) (s : State) :
    (presentContextChange before after s).claims.lanes = s.claims.lanes ∧
    (presentContextChange before after s).floor.level = s.floor.level ∧
    (presentContextChange before after s).booth.window = s.booth.window ∧
    (presentContextChange before after s).booth.dueWindow = s.booth.dueWindow ∧
    (presentContextChange before after s).booth.pollOut = s.booth.pollOut ∧
    (presentContextChange before after s).booth.before = s.booth.before ∧
    (presentContextChange before after s).booth.micIn = s.booth.micIn ∧
    (presentContextChange before after s).booth.left = s.booth.left := by
  unfold presentContextChange
  split <;> simp

/-- recomposed keeps these fields of the blocks that it writes. -/
@[simp] theorem recomposed_fields (s : State) :
    (recomposed s).floor.mics = s.floor.mics ∧
    (recomposed s).floor.requests = s.floor.requests ∧
    (recomposed s).room.marks = s.room.marks ∧
    (recomposed s).room.queue = s.room.queue ∧
    (recomposed s).room.current = s.room.current ∧
    (recomposed s).room.counter = s.room.counter ∧
    (recomposed s).room.lastSeen = s.room.lastSeen := by
  simp [recomposed]

/-- recompute keeps these fields of the blocks that it writes. -/
@[simp] theorem recompute_fields (s : State) :
    (recompute s).room.marks = s.room.marks ∧
    (recompute s).room.queue = s.room.queue ∧
    (recompute s).room.current = s.room.current ∧
    (recompute s).room.counter = s.room.counter ∧
    (recompute s).booth.window = s.booth.window ∧
    (recompute s).booth.dueWindow = s.booth.dueWindow ∧
    (recompute s).booth.pollOut = s.booth.pollOut ∧
    (recompute s).booth.before = s.booth.before ∧
    (recompute s).booth.micIn = s.booth.micIn ∧
    (recompute s).booth.left = s.booth.left := by
  simp [recompute]

/-- pressIdleFree keeps these fields of the blocks that it writes. -/
@[simp] theorem pressIdleFree_fields (seat : Nat) (s : State) :
    (pressIdleFree seat s).claims.places = s.claims.places ∧
    (pressIdleFree seat s).claims.languages = s.claims.languages ∧
    (pressIdleFree seat s).claims.lanes = s.claims.lanes ∧
    (pressIdleFree seat s).claims.languageWants = s.claims.languageWants ∧
    (pressIdleFree seat s).dlc.uplinks = s.dlc.uplinks ∧
    (pressIdleFree seat s).dlc.pointer = s.dlc.pointer ∧
    (pressIdleFree seat s).dlc.window = s.dlc.window ∧
    (pressIdleFree seat s).dlc.dueWindow = s.dlc.dueWindow ∧
    (pressIdleFree seat s).dlc.pollOut = s.dlc.pollOut ∧
    (pressIdleFree seat s).dlc.uplinkIn = s.dlc.uplinkIn := by
  simp [pressIdleFree]

/-- pressIdleQueue keeps these fields of the blocks that it writes. -/
@[simp] theorem pressIdleQueue_fields (seat : Nat) (s : State) :
    (pressIdleQueue seat s).claims.places = s.claims.places ∧
    (pressIdleQueue seat s).claims.languages = s.claims.languages ∧
    (pressIdleQueue seat s).claims.lanes = s.claims.lanes ∧
    (pressIdleQueue seat s).claims.languageWants = s.claims.languageWants ∧
    (pressIdleQueue seat s).floor.mics = s.floor.mics ∧
    (pressIdleQueue seat s).floor.level = s.floor.level ∧
    (pressIdleQueue seat s).dlc.uplinks = s.dlc.uplinks ∧
    (pressIdleQueue seat s).dlc.pointer = s.dlc.pointer ∧
    (pressIdleQueue seat s).dlc.window = s.dlc.window ∧
    (pressIdleQueue seat s).dlc.dueWindow = s.dlc.dueWindow ∧
    (pressIdleQueue seat s).dlc.pollOut = s.dlc.pollOut ∧
    (pressIdleQueue seat s).dlc.uplinkIn = s.dlc.uplinkIn := by
  simp [pressIdleQueue]

/-- pressIdleOverride keeps these fields of the blocks that it writes. -/
@[simp] theorem pressIdleOverride_fields (seat : Nat) (s : State) :
    (pressIdleOverride seat s).claims.places = s.claims.places ∧
    (pressIdleOverride seat s).claims.languages = s.claims.languages ∧
    (pressIdleOverride seat s).claims.lanes = s.claims.lanes ∧
    (pressIdleOverride seat s).claims.languageWants = s.claims.languageWants ∧
    (pressIdleOverride seat s).dlc.uplinks = s.dlc.uplinks ∧
    (pressIdleOverride seat s).dlc.pointer = s.dlc.pointer ∧
    (pressIdleOverride seat s).dlc.window = s.dlc.window ∧
    (pressIdleOverride seat s).dlc.dueWindow = s.dlc.dueWindow ∧
    (pressIdleOverride seat s).dlc.pollOut = s.dlc.pollOut ∧
    (pressIdleOverride seat s).dlc.uplinkIn = s.dlc.uplinkIn := by
  simp only [pressIdleOverride]
  repeat' split
  all_goals simp

/-- pressIdle keeps these fields of the blocks that it writes. -/
@[simp] theorem pressIdle_fields (seat : Nat) (s : State) :
    (pressIdle seat s).claims.places = s.claims.places ∧
    (pressIdle seat s).claims.languages = s.claims.languages ∧
    (pressIdle seat s).claims.lanes = s.claims.lanes ∧
    (pressIdle seat s).claims.languageWants = s.claims.languageWants ∧
    (pressIdle seat s).floor.mics = s.floor.mics ∧
    (pressIdle seat s).floor.level = s.floor.level ∧
    (pressIdle seat s).dlc.uplinks = s.dlc.uplinks ∧
    (pressIdle seat s).dlc.pointer = s.dlc.pointer ∧
    (pressIdle seat s).dlc.window = s.dlc.window ∧
    (pressIdle seat s).dlc.dueWindow = s.dlc.dueWindow ∧
    (pressIdle seat s).dlc.pollOut = s.dlc.pollOut ∧
    (pressIdle seat s).dlc.uplinkIn = s.dlc.uplinkIn := by
  unfold pressIdle
  split <;> simp

/-- micPress keeps these fields of the blocks that it writes. -/
@[simp] theorem micPress_fields (seat : Nat) (s : State) :
    (micPress seat s).claims.languages = s.claims.languages ∧
    (micPress seat s).claims.lanes = s.claims.lanes ∧
    (micPress seat s).claims.languageWants = s.claims.languageWants ∧
    (micPress seat s).floor.level = s.floor.level ∧
    (micPress seat s).dlc.uplinks = s.dlc.uplinks ∧
    (micPress seat s).dlc.pointer = s.dlc.pointer ∧
    (micPress seat s).dlc.window = s.dlc.window ∧
    (micPress seat s).dlc.dueWindow = s.dlc.dueWindow ∧
    (micPress seat s).dlc.pollOut = s.dlc.pollOut ∧
    (micPress seat s).dlc.uplinkIn = s.dlc.uplinkIn := by
  unfold micPress
  split <;> simp

/-- cancelSeat keeps these fields of the blocks that it writes. -/
@[simp] theorem cancelSeat_fields (seat : Nat) (s : State) :
    (cancelSeat seat s).claims.languages = s.claims.languages ∧
    (cancelSeat seat s).claims.lanes = s.claims.lanes ∧
    (cancelSeat seat s).claims.languageWants = s.claims.languageWants ∧
    (cancelSeat seat s).floor.mics = s.floor.mics ∧
    (cancelSeat seat s).floor.level = s.floor.level := by
  simp [cancelSeat]

/-- closeSeatCommand keeps these fields of the blocks that it writes. -/
@[simp] theorem closeSeatCommand_fields (seat : Nat) (s : State) :
    (closeSeatCommand seat s).claims.languages = s.claims.languages ∧
    (closeSeatCommand seat s).claims.lanes = s.claims.lanes ∧
    (closeSeatCommand seat s).claims.languageWants = s.claims.languageWants ∧
    (closeSeatCommand seat s).floor.requests = s.floor.requests ∧
    (closeSeatCommand seat s).floor.level = s.floor.level := by
  simp [closeSeatCommand]

/-- placeRefused keeps these fields of the blocks that it writes. -/
@[simp] theorem placeRefused_fields (origin : Origin) (seat : Nat) (s : State) :
    (placeRefused origin seat s).dlc.uplinks = s.dlc.uplinks ∧
    (placeRefused origin seat s).dlc.pointer = s.dlc.pointer ∧
    (placeRefused origin seat s).dlc.window = s.dlc.window ∧
    (placeRefused origin seat s).dlc.dueWindow = s.dlc.dueWindow ∧
    (placeRefused origin seat s).dlc.pollOut = s.dlc.pollOut ∧
    (placeRefused origin seat s).dlc.uplinkIn = s.dlc.uplinkIn := by
  simp [placeRefused]

/-- placeWon keeps these fields of the blocks that it writes. -/
@[simp] theorem placeWon_fields (c : PlaceClaim) (s : State) :
    (placeWon c s).floor.level = s.floor.level ∧
    (placeWon c s).dlc.uplinks = s.dlc.uplinks ∧
    (placeWon c s).dlc.pointer = s.dlc.pointer ∧
    (placeWon c s).dlc.window = s.dlc.window ∧
    (placeWon c s).dlc.dueWindow = s.dlc.dueWindow ∧
    (placeWon c s).dlc.pollOut = s.dlc.pollOut ∧
    (placeWon c s).dlc.uplinkIn = s.dlc.uplinkIn := by
  unfold placeWon
  split <;> simp

/-- tagChanged keeps these fields of the blocks that it writes. -/
@[simp] theorem tagChanged_fields (seat tag : Nat) (s : State) :
    (tagChanged seat tag s).floor.requests = s.floor.requests ∧
    (tagChanged seat tag s).floor.level = s.floor.level := by
  simp [tagChanged]

/-- applyOverrides keeps these fields of the blocks that it writes. -/
@[simp] theorem applyOverrides_fields (a : Announcement) (s : State) :
    (applyOverrides a s).floor.requests = s.floor.requests ∧
    (applyOverrides a s).floor.level = s.floor.level := by
  simp [applyOverrides]

/-- removeFaded keeps these fields of the blocks that it writes. -/
@[simp] theorem removeFaded_fields (s : State) :
    (removeFaded s).claims.languages = s.claims.languages ∧
    (removeFaded s).claims.lanes = s.claims.lanes ∧
    (removeFaded s).claims.placeWants = s.claims.placeWants ∧
    (removeFaded s).claims.languageWants = s.claims.languageWants ∧
    (removeFaded s).floor.requests = s.floor.requests ∧
    (removeFaded s).floor.level = s.floor.level ∧
    (removeFaded s).dlc.units = s.dlc.units ∧
    (removeFaded s).dlc.pointer = s.dlc.pointer ∧
    (removeFaded s).dlc.window = s.dlc.window ∧
    (removeFaded s).dlc.dueWindow = s.dlc.dueWindow ∧
    (removeFaded s).dlc.pollOut = s.dlc.pollOut ∧
    (removeFaded s).dlc.uplinkIn = s.dlc.uplinkIn := by
  simp [removeFaded]

/-- expireSpeaking keeps these fields of the blocks that it writes. -/
@[simp] theorem expireSpeaking_fields (s : State) :
    (expireSpeaking s).floor.requests = s.floor.requests ∧
    (expireSpeaking s).floor.level = s.floor.level := by
  simp [expireSpeaking]

/-- advanceRequests keeps these fields of the blocks that it writes. -/
@[simp] theorem advanceRequests_fields (s : State) :
    (advanceRequests s).floor.mics = s.floor.mics ∧
    (advanceRequests s).floor.level = s.floor.level := by
  simp [advanceRequests]

/-- floorSwitchPoint keeps these fields of the blocks that it writes. -/
@[simp] theorem floorSwitchPoint_fields (s : State) :
    (floorSwitchPoint s).claims.languages = s.claims.languages ∧
    (floorSwitchPoint s).claims.lanes = s.claims.lanes ∧
    (floorSwitchPoint s).claims.placeWants = s.claims.placeWants ∧
    (floorSwitchPoint s).claims.languageWants = s.claims.languageWants ∧
    (floorSwitchPoint s).floor.level = s.floor.level ∧
    (floorSwitchPoint s).dlc.units = s.dlc.units ∧
    (floorSwitchPoint s).dlc.pointer = s.dlc.pointer ∧
    (floorSwitchPoint s).dlc.window = s.dlc.window ∧
    (floorSwitchPoint s).dlc.dueWindow = s.dlc.dueWindow ∧
    (floorSwitchPoint s).dlc.pollOut = s.dlc.pollOut ∧
    (floorSwitchPoint s).dlc.uplinkIn = s.dlc.uplinkIn := by
  simp [floorSwitchPoint]

/-- actPriorityMute keeps these fields of the blocks that it writes. -/
@[simp] theorem actPriorityMute_fields (s : State) :
    (actPriorityMute s).claims.languages = s.claims.languages ∧
    (actPriorityMute s).claims.lanes = s.claims.lanes ∧
    (actPriorityMute s).claims.languageWants = s.claims.languageWants ∧
    (actPriorityMute s).floor.level = s.floor.level := by
  simp only [actPriorityMute]
  split <;> simp [-withdrawSeat_languages, -withdrawSeat_lanes, -withdrawSeat_languageWants]

/-- wantRanked keeps these fields of the blocks that it writes. -/
@[simp] theorem wantRanked_fields (n : Nat) (origin : Origin) (s : State) :
    (wantRanked n origin s).claims.places = s.claims.places ∧
    (wantRanked n origin s).claims.languages = s.claims.languages ∧
    (wantRanked n origin s).claims.lanes = s.claims.lanes ∧
    (wantRanked n origin s).claims.languageWants = s.claims.languageWants ∧
    (wantRanked n origin s).dlc.uplinks = s.dlc.uplinks ∧
    (wantRanked n origin s).dlc.pointer = s.dlc.pointer ∧
    (wantRanked n origin s).dlc.window = s.dlc.window ∧
    (wantRanked n origin s).dlc.dueWindow = s.dlc.dueWindow ∧
    (wantRanked n origin s).dlc.pollOut = s.dlc.pollOut ∧
    (wantRanked n origin s).dlc.uplinkIn = s.dlc.uplinkIn := by
  simp [wantRanked]

/-- actGrantNext keeps these fields of the blocks that it writes. -/
@[simp] theorem actGrantNext_fields (c : Nat) (s : State) :
    (actGrantNext c s).claims.places = s.claims.places ∧
    (actGrantNext c s).claims.languages = s.claims.languages ∧
    (actGrantNext c s).claims.lanes = s.claims.lanes ∧
    (actGrantNext c s).claims.languageWants = s.claims.languageWants ∧
    (actGrantNext c s).dlc.uplinks = s.dlc.uplinks ∧
    (actGrantNext c s).dlc.pointer = s.dlc.pointer ∧
    (actGrantNext c s).dlc.window = s.dlc.window ∧
    (actGrantNext c s).dlc.dueWindow = s.dlc.dueWindow ∧
    (actGrantNext c s).dlc.pollOut = s.dlc.pollOut ∧
    (actGrantNext c s).dlc.uplinkIn = s.dlc.uplinkIn := by
  simp [actGrantNext]

/-- actCancelAll keeps these fields of the blocks that it writes. -/
@[simp] theorem actCancelAll_fields (s : State) :
    (actCancelAll s).claims.languages = s.claims.languages ∧
    (actCancelAll s).claims.lanes = s.claims.lanes ∧
    (actCancelAll s).claims.languageWants = s.claims.languageWants ∧
    (actCancelAll s).floor.mics = s.floor.mics ∧
    (actCancelAll s).floor.level = s.floor.level := by
  simp [actCancelAll]

/-- actSetFloorLevel keeps these fields of the blocks that it writes. -/
@[simp] theorem actSetFloorLevel_fields (v : Nat) (s : State) :
    (actSetFloorLevel v s).room.marks = s.room.marks ∧
    (actSetFloorLevel v s).room.queue = s.room.queue ∧
    (actSetFloorLevel v s).room.current = s.room.current ∧
    (actSetFloorLevel v s).room.counter = s.room.counter ∧
    (actSetFloorLevel v s).booth.window = s.booth.window ∧
    (actSetFloorLevel v s).booth.dueWindow = s.booth.dueWindow ∧
    (actSetFloorLevel v s).booth.pollOut = s.booth.pollOut ∧
    (actSetFloorLevel v s).booth.before = s.booth.before ∧
    (actSetFloorLevel v s).booth.micIn = s.booth.micIn ∧
    (actSetFloorLevel v s).booth.left = s.booth.left := by
  simp [actSetFloorLevel]

/-- actOn keeps these fields of the blocks that it writes. -/
@[simp] theorem actOn_fields (c : RoomCommand) (s : State) :
    (actOn c s).room.marks = s.room.marks ∧
    (actOn c s).room.queue = s.room.queue ∧
    (actOn c s).room.current = s.room.current ∧
    (actOn c s).room.counter = s.room.counter ∧
    (actOn c s).booth.window = s.booth.window ∧
    (actOn c s).booth.dueWindow = s.booth.dueWindow ∧
    (actOn c s).booth.pollOut = s.booth.pollOut ∧
    (actOn c s).booth.before = s.booth.before ∧
    (actOn c s).booth.micIn = s.booth.micIn ∧
    (actOn c s).booth.left = s.booth.left ∧
    (actOn c s).dlc.uplinks = s.dlc.uplinks ∧
    (actOn c s).dlc.pointer = s.dlc.pointer ∧
    (actOn c s).dlc.window = s.dlc.window ∧
    (actOn c s).dlc.dueWindow = s.dlc.dueWindow ∧
    (actOn c s).dlc.pollOut = s.dlc.pollOut ∧
    (actOn c s).dlc.uplinkIn = s.dlc.uplinkIn := by
  unfold actOn
  split <;> simp

/-- enqueue keeps these fields of the blocks that it writes. -/
@[simp] theorem enqueue_fields (c : RoomCommand) (s : State) :
    (enqueue c s).room.members = s.room.members ∧
    (enqueue c s).room.head = s.room.head ∧
    (enqueue c s).room.adopted = s.room.adopted ∧
    (enqueue c s).room.marks = s.room.marks ∧
    (enqueue c s).room.lastSeen = s.room.lastSeen := by
  simp [enqueue]

/-- chairRequest keeps these fields of the blocks that it writes. -/
@[simp] theorem chairRequest_fields (c : RoomCommand) (s : State) :
    (chairRequest c s).room.members = s.room.members ∧
    (chairRequest c s).room.head = s.room.head ∧
    (chairRequest c s).room.adopted = s.room.adopted ∧
    (chairRequest c s).room.marks = s.room.marks ∧
    (chairRequest c s).room.lastSeen = s.room.lastSeen := by
  simp [chairRequest]

/-- makeCurrent keeps these fields of the blocks that it writes. -/
@[simp] theorem makeCurrent_fields (c : RoomCommand) (s : State) :
    (makeCurrent c s).room.marks = s.room.marks ∧
    (makeCurrent c s).booth.window = s.booth.window ∧
    (makeCurrent c s).booth.dueWindow = s.booth.dueWindow ∧
    (makeCurrent c s).booth.pollOut = s.booth.pollOut ∧
    (makeCurrent c s).booth.before = s.booth.before ∧
    (makeCurrent c s).booth.micIn = s.booth.micIn ∧
    (makeCurrent c s).booth.left = s.booth.left ∧
    (makeCurrent c s).dlc.uplinks = s.dlc.uplinks ∧
    (makeCurrent c s).dlc.pointer = s.dlc.pointer ∧
    (makeCurrent c s).dlc.window = s.dlc.window ∧
    (makeCurrent c s).dlc.dueWindow = s.dlc.dueWindow ∧
    (makeCurrent c s).dlc.pollOut = s.dlc.pollOut ∧
    (makeCurrent c s).dlc.uplinkIn = s.dlc.uplinkIn := by
  simp [makeCurrent]

/-- roomCommandWork keeps these fields of the blocks that it writes. -/
@[simp] theorem roomCommandWork_fields (s : State) :
    (roomCommandWork s).room.marks = s.room.marks ∧
    (roomCommandWork s).booth.window = s.booth.window ∧
    (roomCommandWork s).booth.dueWindow = s.booth.dueWindow ∧
    (roomCommandWork s).booth.pollOut = s.booth.pollOut ∧
    (roomCommandWork s).booth.before = s.booth.before ∧
    (roomCommandWork s).booth.micIn = s.booth.micIn ∧
    (roomCommandWork s).booth.left = s.booth.left ∧
    (roomCommandWork s).dlc.uplinks = s.dlc.uplinks ∧
    (roomCommandWork s).dlc.pointer = s.dlc.pointer ∧
    (roomCommandWork s).dlc.window = s.dlc.window ∧
    (roomCommandWork s).dlc.dueWindow = s.dlc.dueWindow ∧
    (roomCommandWork s).dlc.pollOut = s.dlc.pollOut ∧
    (roomCommandWork s).dlc.uplinkIn = s.dlc.uplinkIn := by
  simp only [roomCommandWork]
  repeat' split
  all_goals simp

/-- removeCurrent keeps these fields of the blocks that it writes. -/
@[simp] theorem removeCurrent_fields (s : State) :
    (removeCurrent s).room.members = s.room.members ∧
    (removeCurrent s).room.head = s.room.head ∧
    (removeCurrent s).room.adopted = s.room.adopted ∧
    (removeCurrent s).room.marks = s.room.marks ∧
    (removeCurrent s).room.lastSeen = s.room.lastSeen := by
  unfold removeCurrent
  split <;> simp

/-- retireCommand keeps these fields of the blocks that it writes. -/
@[simp] theorem retireCommand_fields (s : State) :
    (retireCommand s).room.members = s.room.members ∧
    (retireCommand s).room.head = s.room.head ∧
    (retireCommand s).room.adopted = s.room.adopted ∧
    (retireCommand s).room.marks = s.room.marks ∧
    (retireCommand s).room.lastSeen = s.room.lastSeen := by
  unfold retireCommand
  split <;> simp

/-- commandTest keeps these fields of the blocks that it writes. -/
@[simp] theorem commandTest_fields (t : Nat) (a : Announcement) (s : State) :
    (commandTest t a s).room.marks = s.room.marks ∧
    (commandTest t a s).room.queue = s.room.queue ∧
    (commandTest t a s).room.current = s.room.current ∧
    (commandTest t a s).room.counter = s.room.counter ∧
    (commandTest t a s).booth.window = s.booth.window ∧
    (commandTest t a s).booth.dueWindow = s.booth.dueWindow ∧
    (commandTest t a s).booth.pollOut = s.booth.pollOut ∧
    (commandTest t a s).booth.before = s.booth.before ∧
    (commandTest t a s).booth.micIn = s.booth.micIn ∧
    (commandTest t a s).booth.left = s.booth.left ∧
    (commandTest t a s).dlc.uplinks = s.dlc.uplinks ∧
    (commandTest t a s).dlc.pointer = s.dlc.pointer ∧
    (commandTest t a s).dlc.window = s.dlc.window ∧
    (commandTest t a s).dlc.dueWindow = s.dlc.dueWindow ∧
    (commandTest t a s).dlc.pollOut = s.dlc.pollOut ∧
    (commandTest t a s).dlc.uplinkIn = s.dlc.uplinkIn := by
  unfold commandTest
  split <;> simp

/-- dropPlaceIntent keeps these fields of the blocks that it writes. -/
@[simp] theorem dropPlaceIntent_fields (c : PlaceClaim) (s : State) :
    (dropPlaceIntent c s).claims.languages = s.claims.languages ∧
    (dropPlaceIntent c s).claims.lanes = s.claims.lanes ∧
    (dropPlaceIntent c s).claims.placeWants = s.claims.placeWants ∧
    (dropPlaceIntent c s).claims.languageWants = s.claims.languageWants ∧
    (dropPlaceIntent c s).dlc.units = s.dlc.units ∧
    (dropPlaceIntent c s).dlc.pointer = s.dlc.pointer ∧
    (dropPlaceIntent c s).dlc.window = s.dlc.window ∧
    (dropPlaceIntent c s).dlc.dueWindow = s.dlc.dueWindow ∧
    (dropPlaceIntent c s).dlc.pollOut = s.dlc.pollOut ∧
    (dropPlaceIntent c s).dlc.uplinkIn = s.dlc.uplinkIn := by
  simp [dropPlaceIntent]

/-- dropLanguageIntent keeps these fields of the blocks that it writes. -/
@[simp] theorem dropLanguageIntent_fields (c : LanguageClaim) (s : State) :
    (dropLanguageIntent c s).claims.places = s.claims.places ∧
    (dropLanguageIntent c s).claims.lanes = s.claims.lanes ∧
    (dropLanguageIntent c s).claims.placeWants = s.claims.placeWants ∧
    (dropLanguageIntent c s).claims.languageWants = s.claims.languageWants := by
  simp [dropLanguageIntent]

/-- dropLaneIntent keeps these fields of the blocks that it writes. -/
@[simp] theorem dropLaneIntent_fields (c : LaneClaim) (s : State) :
    (dropLaneIntent c s).claims.places = s.claims.places ∧
    (dropLaneIntent c s).claims.languages = s.claims.languages ∧
    (dropLaneIntent c s).claims.placeWants = s.claims.placeWants ∧
    (dropLaneIntent c s).claims.languageWants = s.claims.languageWants ∧
    (dropLaneIntent c s).lanes.shortage = s.lanes.shortage := by
  simp [dropLaneIntent]

/-- withdrawLanguage keeps these fields of the blocks that it writes. -/
@[simp] theorem withdrawLanguage_fields (c : LanguageClaim) (s : State) :
    (withdrawLanguage c s).claims.places = s.claims.places ∧
    (withdrawLanguage c s).claims.lanes = s.claims.lanes ∧
    (withdrawLanguage c s).claims.placeWants = s.claims.placeWants ∧
    (withdrawLanguage c s).claims.languageWants = s.claims.languageWants ∧
    (withdrawLanguage c s).booth.window = s.booth.window ∧
    (withdrawLanguage c s).booth.dueWindow = s.booth.dueWindow ∧
    (withdrawLanguage c s).booth.pollOut = s.booth.pollOut ∧
    (withdrawLanguage c s).booth.before = s.booth.before ∧
    (withdrawLanguage c s).booth.micIn = s.booth.micIn ∧
    (withdrawLanguage c s).booth.left = s.booth.left := by
  simp [withdrawLanguage]

/-- withdrawStep keeps these fields of the blocks that it writes. -/
@[simp] theorem withdrawStep_fields (marked : List Nat) (s : State) :
    (withdrawStep marked s).claims.placeWants = s.claims.placeWants ∧
    (withdrawStep marked s).claims.languageWants = s.claims.languageWants ∧
    (withdrawStep marked s).dlc.units = s.dlc.units ∧
    (withdrawStep marked s).dlc.pointer = s.dlc.pointer ∧
    (withdrawStep marked s).dlc.window = s.dlc.window ∧
    (withdrawStep marked s).dlc.dueWindow = s.dlc.dueWindow ∧
    (withdrawStep marked s).dlc.pollOut = s.dlc.pollOut ∧
    (withdrawStep marked s).dlc.uplinkIn = s.dlc.uplinkIn ∧
    (withdrawStep marked s).booth.window = s.booth.window ∧
    (withdrawStep marked s).booth.dueWindow = s.booth.dueWindow ∧
    (withdrawStep marked s).booth.pollOut = s.booth.pollOut ∧
    (withdrawStep marked s).booth.before = s.booth.before ∧
    (withdrawStep marked s).booth.micIn = s.booth.micIn ∧
    (withdrawStep marked s).booth.left = s.booth.left ∧
    (withdrawStep marked s).lanes.shortage = s.lanes.shortage := by
  simp [withdrawStep]

/-- settlePlace keeps these fields of the blocks that it writes. -/
@[simp] theorem settlePlace_fields (s : State) (c : PlaceClaim) :
    (settlePlace s c).claims.languages = s.claims.languages ∧
    (settlePlace s c).claims.lanes = s.claims.lanes ∧
    (settlePlace s c).claims.placeWants = s.claims.placeWants ∧
    (settlePlace s c).claims.languageWants = s.claims.languageWants ∧
    (settlePlace s c).floor.level = s.floor.level ∧
    (settlePlace s c).dlc.pointer = s.dlc.pointer ∧
    (settlePlace s c).dlc.window = s.dlc.window ∧
    (settlePlace s c).dlc.dueWindow = s.dlc.dueWindow ∧
    (settlePlace s c).dlc.pollOut = s.dlc.pollOut ∧
    (settlePlace s c).dlc.uplinkIn = s.dlc.uplinkIn := by
  simp [settlePlace]

/-- settleLanguage keeps these fields of the blocks that it writes. -/
@[simp] theorem settleLanguage_fields (s : State) (c : LanguageClaim) :
    (settleLanguage s c).claims.places = s.claims.places ∧
    (settleLanguage s c).claims.lanes = s.claims.lanes ∧
    (settleLanguage s c).claims.placeWants = s.claims.placeWants ∧
    (settleLanguage s c).claims.languageWants = s.claims.languageWants ∧
    (settleLanguage s c).booth.window = s.booth.window ∧
    (settleLanguage s c).booth.dueWindow = s.booth.dueWindow ∧
    (settleLanguage s c).booth.pollOut = s.booth.pollOut ∧
    (settleLanguage s c).booth.before = s.booth.before ∧
    (settleLanguage s c).booth.micIn = s.booth.micIn ∧
    (settleLanguage s c).booth.left = s.booth.left := by
  simp [settleLanguage]

/-- settleLane keeps these fields of the blocks that it writes. -/
@[simp] theorem settleLane_fields (s : State) (c : LaneClaim) :
    (settleLane s c).claims.places = s.claims.places ∧
    (settleLane s c).claims.languages = s.claims.languages ∧
    (settleLane s c).claims.placeWants = s.claims.placeWants ∧
    (settleLane s c).claims.languageWants = s.claims.languageWants ∧
    (settleLane s c).lanes.shortage = s.lanes.shortage := by
  simp [settleLane]

/-- settleStep keeps these fields of the blocks that it writes. -/
@[simp] theorem settleStep_fields (s : State) :
    (settleStep s).claims.placeWants = s.claims.placeWants ∧
    (settleStep s).claims.languageWants = s.claims.languageWants ∧
    (settleStep s).floor.level = s.floor.level ∧
    (settleStep s).dlc.pointer = s.dlc.pointer ∧
    (settleStep s).dlc.window = s.dlc.window ∧
    (settleStep s).dlc.dueWindow = s.dlc.dueWindow ∧
    (settleStep s).dlc.pollOut = s.dlc.pollOut ∧
    (settleStep s).dlc.uplinkIn = s.dlc.uplinkIn ∧
    (settleStep s).booth.window = s.booth.window ∧
    (settleStep s).booth.dueWindow = s.booth.dueWindow ∧
    (settleStep s).booth.pollOut = s.booth.pollOut ∧
    (settleStep s).booth.before = s.booth.before ∧
    (settleStep s).booth.micIn = s.booth.micIn ∧
    (settleStep s).booth.left = s.booth.left ∧
    (settleStep s).lanes.shortage = s.lanes.shortage := by
  simp [settleStep]

/-- loseLane keeps these fields of the blocks that it writes. -/
@[simp] theorem loseLane_fields (n : Nat) (s : State) :
    (loseLane n s).claims.places = s.claims.places ∧
    (loseLane n s).claims.languages = s.claims.languages ∧
    (loseLane n s).claims.placeWants = s.claims.placeWants ∧
    (loseLane n s).claims.languageWants = s.claims.languageWants ∧
    (loseLane n s).lanes.shortage = s.lanes.shortage := by
  simp [loseLane]

/-- laneConflictStep keeps these fields of the blocks that it writes. -/
@[simp] theorem laneConflictStep_fields (s : State) :
    (laneConflictStep s).claims.places = s.claims.places ∧
    (laneConflictStep s).claims.languages = s.claims.languages ∧
    (laneConflictStep s).claims.placeWants = s.claims.placeWants ∧
    (laneConflictStep s).claims.languageWants = s.claims.languageWants ∧
    (laneConflictStep s).lanes.shortage = s.lanes.shortage := by
  simp [laneConflictStep]

/-- deriveAutoAdvance keeps these fields of the blocks that it writes. -/
@[simp] theorem deriveAutoAdvance_fields (s : State) :
    (deriveAutoAdvance s).claims.places = s.claims.places ∧
    (deriveAutoAdvance s).claims.languages = s.claims.languages ∧
    (deriveAutoAdvance s).claims.lanes = s.claims.lanes ∧
    (deriveAutoAdvance s).claims.languageWants = s.claims.languageWants ∧
    (deriveAutoAdvance s).dlc.uplinks = s.dlc.uplinks ∧
    (deriveAutoAdvance s).dlc.pointer = s.dlc.pointer ∧
    (deriveAutoAdvance s).dlc.window = s.dlc.window ∧
    (deriveAutoAdvance s).dlc.dueWindow = s.dlc.dueWindow ∧
    (deriveAutoAdvance s).dlc.pollOut = s.dlc.pollOut ∧
    (deriveAutoAdvance s).dlc.uplinkIn = s.dlc.uplinkIn := by
  simp [deriveAutoAdvance]

/-- raisePlaceOn keeps these fields of the blocks that it writes. -/
@[simp] theorem raisePlaceOn_fields (ch : Nat) (w : PlaceWant) (s : State) :
    (raisePlaceOn ch w s).claims.languages = s.claims.languages ∧
    (raisePlaceOn ch w s).claims.lanes = s.claims.lanes ∧
    (raisePlaceOn ch w s).claims.placeWants = s.claims.placeWants ∧
    (raisePlaceOn ch w s).claims.languageWants = s.claims.languageWants ∧
    (raisePlaceOn ch w s).dlc.units = s.dlc.units ∧
    (raisePlaceOn ch w s).dlc.pointer = s.dlc.pointer ∧
    (raisePlaceOn ch w s).dlc.window = s.dlc.window ∧
    (raisePlaceOn ch w s).dlc.dueWindow = s.dlc.dueWindow ∧
    (raisePlaceOn ch w s).dlc.pollOut = s.dlc.pollOut ∧
    (raisePlaceOn ch w s).dlc.uplinkIn = s.dlc.uplinkIn := by
  simp [raisePlaceOn]

/-- raisePlace keeps these fields of the blocks that it writes. -/
@[simp] theorem raisePlace_fields (s : State) (w : PlaceWant) :
    (raisePlace s w).claims.languages = s.claims.languages ∧
    (raisePlace s w).claims.lanes = s.claims.lanes ∧
    (raisePlace s w).claims.placeWants = s.claims.placeWants ∧
    (raisePlace s w).claims.languageWants = s.claims.languageWants ∧
    (raisePlace s w).dlc.pointer = s.dlc.pointer ∧
    (raisePlace s w).dlc.window = s.dlc.window ∧
    (raisePlace s w).dlc.dueWindow = s.dlc.dueWindow ∧
    (raisePlace s w).dlc.pollOut = s.dlc.pollOut ∧
    (raisePlace s w).dlc.uplinkIn = s.dlc.uplinkIn := by
  simp only [raisePlace]
  repeat' split
  all_goals simp

/-- raiseLanguage keeps these fields of the blocks that it writes. -/
@[simp] theorem raiseLanguage_fields (s : State) (w : LanguageWant) :
    (raiseLanguage s w).claims.places = s.claims.places ∧
    (raiseLanguage s w).claims.lanes = s.claims.lanes ∧
    (raiseLanguage s w).claims.placeWants = s.claims.placeWants ∧
    (raiseLanguage s w).claims.languageWants = s.claims.languageWants ∧
    (raiseLanguage s w).booth.window = s.booth.window ∧
    (raiseLanguage s w).booth.dueWindow = s.booth.dueWindow ∧
    (raiseLanguage s w).booth.pollOut = s.booth.pollOut ∧
    (raiseLanguage s w).booth.before = s.booth.before ∧
    (raiseLanguage s w).booth.micIn = s.booth.micIn ∧
    (raiseLanguage s w).booth.left = s.booth.left := by
  simp [raiseLanguage]

/-- raiseLane keeps these fields of the blocks that it writes. -/
@[simp] theorem raiseLane_fields (s : State) (l : Nat) :
    (raiseLane s l).claims.places = s.claims.places ∧
    (raiseLane s l).claims.languages = s.claims.languages ∧
    (raiseLane s l).claims.placeWants = s.claims.placeWants ∧
    (raiseLane s l).claims.languageWants = s.claims.languageWants := by
  unfold raiseLane
  split <;> simp

/-- raisePlaces keeps these fields of the blocks that it writes. -/
@[simp] theorem raisePlaces_fields (s : State) :
    (raisePlaces s).claims.languages = s.claims.languages ∧
    (raisePlaces s).claims.lanes = s.claims.lanes ∧
    (raisePlaces s).claims.languageWants = s.claims.languageWants ∧
    (raisePlaces s).dlc.pointer = s.dlc.pointer ∧
    (raisePlaces s).dlc.window = s.dlc.window ∧
    (raisePlaces s).dlc.dueWindow = s.dlc.dueWindow ∧
    (raisePlaces s).dlc.pollOut = s.dlc.pollOut ∧
    (raisePlaces s).dlc.uplinkIn = s.dlc.uplinkIn := by
  simp [raisePlaces]

/-- raiseLanguages keeps these fields of the blocks that it writes. -/
@[simp] theorem raiseLanguages_fields (s : State) :
    (raiseLanguages s).claims.places = s.claims.places ∧
    (raiseLanguages s).claims.lanes = s.claims.lanes ∧
    (raiseLanguages s).claims.placeWants = s.claims.placeWants ∧
    (raiseLanguages s).booth.window = s.booth.window ∧
    (raiseLanguages s).booth.dueWindow = s.booth.dueWindow ∧
    (raiseLanguages s).booth.pollOut = s.booth.pollOut ∧
    (raiseLanguages s).booth.before = s.booth.before ∧
    (raiseLanguages s).booth.micIn = s.booth.micIn ∧
    (raiseLanguages s).booth.left = s.booth.left := by
  simp [raiseLanguages]

/-- raiseStep keeps these fields of the blocks that it writes. -/
@[simp] theorem raiseStep_fields (s : State) :
    (raiseStep s).dlc.pointer = s.dlc.pointer ∧
    (raiseStep s).dlc.window = s.dlc.window ∧
    (raiseStep s).dlc.dueWindow = s.dlc.dueWindow ∧
    (raiseStep s).dlc.pollOut = s.dlc.pollOut ∧
    (raiseStep s).dlc.uplinkIn = s.dlc.uplinkIn ∧
    (raiseStep s).booth.window = s.booth.window ∧
    (raiseStep s).booth.dueWindow = s.booth.dueWindow ∧
    (raiseStep s).booth.pollOut = s.booth.pollOut ∧
    (raiseStep s).booth.before = s.booth.before ∧
    (raiseStep s).booth.micIn = s.booth.micIn ∧
    (raiseStep s).booth.left = s.booth.left := by
  simp [raiseStep]

/-- dropWants keeps these fields of the blocks that it writes. -/
@[simp] theorem dropWants_fields (s : State) :
    (dropWants s).claims.places = s.claims.places ∧
    (dropWants s).claims.languages = s.claims.languages ∧
    (dropWants s).claims.lanes = s.claims.lanes ∧
    (dropWants s).dlc.uplinks = s.dlc.uplinks ∧
    (dropWants s).dlc.pointer = s.dlc.pointer ∧
    (dropWants s).dlc.window = s.dlc.window ∧
    (dropWants s).dlc.dueWindow = s.dlc.dueWindow ∧
    (dropWants s).dlc.pollOut = s.dlc.pollOut ∧
    (dropWants s).dlc.uplinkIn = s.dlc.uplinkIn ∧
    (dropWants s).booth.window = s.booth.window ∧
    (dropWants s).booth.dueWindow = s.booth.dueWindow ∧
    (dropWants s).booth.pollOut = s.booth.pollOut ∧
    (dropWants s).booth.before = s.booth.before ∧
    (dropWants s).booth.micIn = s.booth.micIn ∧
    (dropWants s).booth.left = s.booth.left := by
  simp [dropWants]

/-- claimWork keeps these fields of the blocks that it writes. -/
@[simp] theorem claimWork_fields (marked : List Nat) (s : State) :
    (claimWork marked s).dlc.pointer = s.dlc.pointer ∧
    (claimWork marked s).dlc.window = s.dlc.window ∧
    (claimWork marked s).dlc.dueWindow = s.dlc.dueWindow ∧
    (claimWork marked s).dlc.pollOut = s.dlc.pollOut ∧
    (claimWork marked s).dlc.uplinkIn = s.dlc.uplinkIn ∧
    (claimWork marked s).booth.window = s.booth.window ∧
    (claimWork marked s).booth.dueWindow = s.booth.dueWindow ∧
    (claimWork marked s).booth.pollOut = s.booth.pollOut ∧
    (claimWork marked s).booth.before = s.booth.before ∧
    (claimWork marked s).booth.micIn = s.booth.micIn ∧
    (claimWork marked s).booth.left = s.booth.left ∧
    (claimWork marked s).floor.level = s.floor.level := by
  unfold claimWork
  split <;> simp

/-- dispatchKeys keeps these fields of the blocks that it writes. -/
@[simp] theorem dispatchKeys_fields (a : Nat) (k : Keys) (s : State) :
    (dispatchKeys a k s).claims.languages = s.claims.languages ∧
    (dispatchKeys a k s).claims.lanes = s.claims.lanes ∧
    (dispatchKeys a k s).claims.languageWants = s.claims.languageWants ∧
    (dispatchKeys a k s).floor.level = s.floor.level ∧
    (dispatchKeys a k s).dlc.uplinks = s.dlc.uplinks ∧
    (dispatchKeys a k s).dlc.pointer = s.dlc.pointer ∧
    (dispatchKeys a k s).dlc.window = s.dlc.window ∧
    (dispatchKeys a k s).dlc.dueWindow = s.dlc.dueWindow ∧
    (dispatchKeys a k s).dlc.pollOut = s.dlc.pollOut ∧
    (dispatchKeys a k s).dlc.uplinkIn = s.dlc.uplinkIn ∧
    (dispatchKeys a k s).room.members = s.room.members ∧
    (dispatchKeys a k s).room.head = s.room.head ∧
    (dispatchKeys a k s).room.adopted = s.room.adopted ∧
    (dispatchKeys a k s).room.marks = s.room.marks ∧
    (dispatchKeys a k s).room.lastSeen = s.room.lastSeen := by
  simp [dispatchKeys]

/-- takeTag keeps these fields of the blocks that it writes. -/
@[simp] theorem takeTag_fields (a tag : Nat) (s : State) :
    (takeTag a tag s).floor.requests = s.floor.requests ∧
    (takeTag a tag s).floor.level = s.floor.level ∧
    (takeTag a tag s).dlc.uplinks = s.dlc.uplinks ∧
    (takeTag a tag s).dlc.pointer = s.dlc.pointer ∧
    (takeTag a tag s).dlc.window = s.dlc.window ∧
    (takeTag a tag s).dlc.dueWindow = s.dlc.dueWindow ∧
    (takeTag a tag s).dlc.pollOut = s.dlc.pollOut ∧
    (takeTag a tag s).dlc.uplinkIn = s.dlc.uplinkIn := by
  simp [takeTag]

/-- takeSelection keeps these fields of the blocks that it writes. -/
@[simp] theorem takeSelection_fields (a sel : Nat) (fresh : Bool) (s : State) :
    (takeSelection a sel fresh s).dlc.uplinks = s.dlc.uplinks ∧
    (takeSelection a sel fresh s).dlc.pointer = s.dlc.pointer ∧
    (takeSelection a sel fresh s).dlc.window = s.dlc.window ∧
    (takeSelection a sel fresh s).dlc.dueWindow = s.dlc.dueWindow ∧
    (takeSelection a sel fresh s).dlc.pollOut = s.dlc.pollOut ∧
    (takeSelection a sel fresh s).dlc.uplinkIn = s.dlc.uplinkIn := by
  simp [takeSelection]

/-- goodReply keeps these fields of the blocks that it writes. -/
@[simp] theorem goodReply_fields (a : Nat) (c : ReplyClass) (r : UnitContent) (s : State) :
    (goodReply a c r s).claims.languages = s.claims.languages ∧
    (goodReply a c r s).claims.lanes = s.claims.lanes ∧
    (goodReply a c r s).claims.languageWants = s.claims.languageWants ∧
    (goodReply a c r s).floor.level = s.floor.level ∧
    (goodReply a c r s).dlc.uplinks = s.dlc.uplinks ∧
    (goodReply a c r s).dlc.pointer = s.dlc.pointer ∧
    (goodReply a c r s).dlc.window = s.dlc.window ∧
    (goodReply a c r s).dlc.dueWindow = s.dlc.dueWindow ∧
    (goodReply a c r s).dlc.pollOut = s.dlc.pollOut ∧
    (goodReply a c r s).dlc.uplinkIn = s.dlc.uplinkIn ∧
    (goodReply a c r s).room.members = s.room.members ∧
    (goodReply a c r s).room.head = s.room.head ∧
    (goodReply a c r s).room.adopted = s.room.adopted ∧
    (goodReply a c r s).room.marks = s.room.marks ∧
    (goodReply a c r s).room.lastSeen = s.room.lastSeen := by
  simp [goodReply]

/-- loseUnit keeps these fields of the blocks that it writes. -/
@[simp] theorem loseUnit_fields (a : Nat) (s : State) :
    (loseUnit a s).claims.languages = s.claims.languages ∧
    (loseUnit a s).claims.lanes = s.claims.lanes ∧
    (loseUnit a s).claims.languageWants = s.claims.languageWants ∧
    (loseUnit a s).floor.level = s.floor.level ∧
    (loseUnit a s).dlc.uplinks = s.dlc.uplinks ∧
    (loseUnit a s).dlc.pointer = s.dlc.pointer ∧
    (loseUnit a s).dlc.window = s.dlc.window ∧
    (loseUnit a s).dlc.dueWindow = s.dlc.dueWindow ∧
    (loseUnit a s).dlc.pollOut = s.dlc.pollOut ∧
    (loseUnit a s).dlc.uplinkIn = s.dlc.uplinkIn := by
  simp [loseUnit]

/-- badReply keeps these fields of the blocks that it writes. -/
@[simp] theorem badReply_fields (a : Nat) (s : State) :
    (badReply a s).claims.languages = s.claims.languages ∧
    (badReply a s).claims.lanes = s.claims.lanes ∧
    (badReply a s).claims.languageWants = s.claims.languageWants ∧
    (badReply a s).floor.level = s.floor.level ∧
    (badReply a s).dlc.uplinks = s.dlc.uplinks ∧
    (badReply a s).dlc.pointer = s.dlc.pointer ∧
    (badReply a s).dlc.window = s.dlc.window ∧
    (badReply a s).dlc.dueWindow = s.dlc.dueWindow ∧
    (badReply a s).dlc.pollOut = s.dlc.pollOut ∧
    (badReply a s).dlc.uplinkIn = s.dlc.uplinkIn := by
  simp [badReply]

/-- closeWindow keeps these fields of the blocks that it writes. -/
@[simp] theorem closeWindow_fields (a : Nat) (reply : Option UnitReply) (s : State) :
    (closeWindow a reply s).claims.languages = s.claims.languages ∧
    (closeWindow a reply s).claims.lanes = s.claims.lanes ∧
    (closeWindow a reply s).claims.languageWants = s.claims.languageWants ∧
    (closeWindow a reply s).floor.level = s.floor.level ∧
    (closeWindow a reply s).dlc.uplinks = s.dlc.uplinks ∧
    (closeWindow a reply s).dlc.pointer = s.dlc.pointer ∧
    (closeWindow a reply s).dlc.window = s.dlc.window ∧
    (closeWindow a reply s).dlc.dueWindow = s.dlc.dueWindow ∧
    (closeWindow a reply s).dlc.pollOut = s.dlc.pollOut ∧
    (closeWindow a reply s).dlc.uplinkIn = s.dlc.uplinkIn ∧
    (closeWindow a reply s).room.members = s.room.members ∧
    (closeWindow a reply s).room.head = s.room.head ∧
    (closeWindow a reply s).room.adopted = s.room.adopted ∧
    (closeWindow a reply s).room.marks = s.room.marks ∧
    (closeWindow a reply s).room.lastSeen = s.room.lastSeen := by
  unfold closeWindow
  split <;> simp

/-- standDown keeps these fields of the blocks that it writes. -/
@[simp] theorem standDown_fields (e : Nat) (s : State) :
    (standDown e s).claims.places = s.claims.places ∧
    (standDown e s).claims.lanes = s.claims.lanes ∧
    (standDown e s).claims.placeWants = s.claims.placeWants ∧
    (standDown e s).booth.window = s.booth.window ∧
    (standDown e s).booth.dueWindow = s.booth.dueWindow ∧
    (standDown e s).booth.pollOut = s.booth.pollOut ∧
    (standDown e s).booth.before = s.booth.before ∧
    (standDown e s).booth.micIn = s.booth.micIn ∧
    (standDown e s).booth.left = s.booth.left := by
  unfold standDown
  split <;> simp

/-- refreshSource keeps these fields of the blocks that it writes. -/
@[simp] theorem refreshSource_fields (e l : Nat) (s : State) :
    (refreshSource e l s).booth.window = s.booth.window ∧
    (refreshSource e l s).booth.dueWindow = s.booth.dueWindow ∧
    (refreshSource e l s).booth.pollOut = s.booth.pollOut ∧
    (refreshSource e l s).booth.before = s.booth.before ∧
    (refreshSource e l s).booth.micIn = s.booth.micIn ∧
    (refreshSource e l s).booth.left = s.booth.left := by
  simp [refreshSource]

/-- changeLanguage keeps these fields of the blocks that it writes. -/
@[simp] theorem changeLanguage_fields (e l : Nat) (s : State) :
    (changeLanguage e l s).claims.places = s.claims.places ∧
    (changeLanguage e l s).claims.lanes = s.claims.lanes ∧
    (changeLanguage e l s).claims.placeWants = s.claims.placeWants ∧
    (changeLanguage e l s).booth.window = s.booth.window ∧
    (changeLanguage e l s).booth.dueWindow = s.booth.dueWindow ∧
    (changeLanguage e l s).booth.pollOut = s.booth.pollOut ∧
    (changeLanguage e l s).booth.before = s.booth.before ∧
    (changeLanguage e l s).booth.micIn = s.booth.micIn ∧
    (changeLanguage e l s).booth.left = s.booth.left := by
  simp [changeLanguage]

/-- pressOffDesk keeps these fields of the blocks that it writes. -/
@[simp] theorem pressOffDesk_fields (e l : Nat) (s : State) :
    (pressOffDesk e l s).claims.places = s.claims.places ∧
    (pressOffDesk e l s).claims.lanes = s.claims.lanes ∧
    (pressOffDesk e l s).claims.placeWants = s.claims.placeWants ∧
    (pressOffDesk e l s).booth.window = s.booth.window ∧
    (pressOffDesk e l s).booth.dueWindow = s.booth.dueWindow ∧
    (pressOffDesk e l s).booth.pollOut = s.booth.pollOut ∧
    (pressOffDesk e l s).booth.before = s.booth.before ∧
    (pressOffDesk e l s).booth.micIn = s.booth.micIn ∧
    (pressOffDesk e l s).booth.left = s.booth.left := by
  unfold pressOffDesk
  split <;> simp

/-- deskPress keeps these fields of the blocks that it writes. -/
@[simp] theorem deskPress_fields (e : Nat) (s : State) :
    (deskPress e s).claims.places = s.claims.places ∧
    (deskPress e s).claims.lanes = s.claims.lanes ∧
    (deskPress e s).claims.placeWants = s.claims.placeWants ∧
    (deskPress e s).booth.window = s.booth.window ∧
    (deskPress e s).booth.dueWindow = s.booth.dueWindow ∧
    (deskPress e s).booth.pollOut = s.booth.pollOut ∧
    (deskPress e s).booth.before = s.booth.before ∧
    (deskPress e s).booth.micIn = s.booth.micIn ∧
    (deskPress e s).booth.left = s.booth.left := by
  simp only [deskPress]
  repeat' split
  all_goals simp

/-- goodDeskReply keeps these fields of the blocks that it writes. -/
@[simp] theorem goodDeskReply_fields (e : Nat) (c : ReplyClass) (r : DeskContent) (s : State) :
    (goodDeskReply e c r s).claims.places = s.claims.places ∧
    (goodDeskReply e c r s).claims.lanes = s.claims.lanes ∧
    (goodDeskReply e c r s).claims.placeWants = s.claims.placeWants ∧
    (goodDeskReply e c r s).booth.window = s.booth.window ∧
    (goodDeskReply e c r s).booth.dueWindow = s.booth.dueWindow ∧
    (goodDeskReply e c r s).booth.pollOut = s.booth.pollOut ∧
    (goodDeskReply e c r s).booth.before = s.booth.before ∧
    (goodDeskReply e c r s).booth.micIn = s.booth.micIn ∧
    (goodDeskReply e c r s).booth.left = s.booth.left := by
  simp [goodDeskReply]

/-- loseDesk keeps these fields of the blocks that it writes. -/
@[simp] theorem loseDesk_fields (e : Nat) (s : State) :
    (loseDesk e s).claims.places = s.claims.places ∧
    (loseDesk e s).claims.lanes = s.claims.lanes ∧
    (loseDesk e s).claims.placeWants = s.claims.placeWants ∧
    (loseDesk e s).booth.window = s.booth.window ∧
    (loseDesk e s).booth.dueWindow = s.booth.dueWindow ∧
    (loseDesk e s).booth.pollOut = s.booth.pollOut ∧
    (loseDesk e s).booth.before = s.booth.before ∧
    (loseDesk e s).booth.micIn = s.booth.micIn ∧
    (loseDesk e s).booth.left = s.booth.left := by
  simp [loseDesk]

/-- badDeskReply keeps these fields of the blocks that it writes. -/
@[simp] theorem badDeskReply_fields (e : Nat) (s : State) :
    (badDeskReply e s).claims.places = s.claims.places ∧
    (badDeskReply e s).claims.lanes = s.claims.lanes ∧
    (badDeskReply e s).claims.placeWants = s.claims.placeWants ∧
    (badDeskReply e s).booth.window = s.booth.window ∧
    (badDeskReply e s).booth.dueWindow = s.booth.dueWindow ∧
    (badDeskReply e s).booth.pollOut = s.booth.pollOut ∧
    (badDeskReply e s).booth.before = s.booth.before ∧
    (badDeskReply e s).booth.micIn = s.booth.micIn ∧
    (badDeskReply e s).booth.left = s.booth.left := by
  simp [badDeskReply]

/-- closeBoothWindow keeps these fields of the blocks that it writes. -/
@[simp] theorem closeBoothWindow_fields (e : Nat) (reply : Option DeskReply) (s : State) :
    (closeBoothWindow e reply s).claims.places = s.claims.places ∧
    (closeBoothWindow e reply s).claims.lanes = s.claims.lanes ∧
    (closeBoothWindow e reply s).claims.placeWants = s.claims.placeWants ∧
    (closeBoothWindow e reply s).booth.window = s.booth.window ∧
    (closeBoothWindow e reply s).booth.dueWindow = s.booth.dueWindow ∧
    (closeBoothWindow e reply s).booth.pollOut = s.booth.pollOut ∧
    (closeBoothWindow e reply s).booth.before = s.booth.before ∧
    (closeBoothWindow e reply s).booth.micIn = s.booth.micIn ∧
    (closeBoothWindow e reply s).booth.left = s.booth.left := by
  unfold closeBoothWindow
  split <;> simp

/-- isolateClaims keeps these fields of the blocks that it writes. -/
@[simp] theorem isolateClaims_fields (s : State) :
    (isolateClaims s).claims.places = s.claims.places ∧
    (isolateClaims s).claims.placeWants = s.claims.placeWants ∧
    (isolateClaims s).claims.languageWants = s.claims.languageWants ∧
    (isolateClaims s).booth.window = s.booth.window ∧
    (isolateClaims s).booth.dueWindow = s.booth.dueWindow ∧
    (isolateClaims s).booth.pollOut = s.booth.pollOut ∧
    (isolateClaims s).booth.before = s.booth.before ∧
    (isolateClaims s).booth.micIn = s.booth.micIn ∧
    (isolateClaims s).booth.left = s.booth.left ∧
    (isolateClaims s).lanes.shortage = s.lanes.shortage := by
  simp [isolateClaims]

/-- withdrawAllIntents keeps these fields of the blocks that it writes. -/
@[simp] theorem withdrawAllIntents_fields (s : State) :
    (withdrawAllIntents s).claims.placeWants = s.claims.placeWants ∧
    (withdrawAllIntents s).claims.languageWants = s.claims.languageWants ∧
    (withdrawAllIntents s).dlc.units = s.dlc.units ∧
    (withdrawAllIntents s).dlc.pointer = s.dlc.pointer ∧
    (withdrawAllIntents s).dlc.window = s.dlc.window ∧
    (withdrawAllIntents s).dlc.dueWindow = s.dlc.dueWindow ∧
    (withdrawAllIntents s).dlc.pollOut = s.dlc.pollOut ∧
    (withdrawAllIntents s).dlc.uplinkIn = s.dlc.uplinkIn ∧
    (withdrawAllIntents s).booth.window = s.booth.window ∧
    (withdrawAllIntents s).booth.dueWindow = s.booth.dueWindow ∧
    (withdrawAllIntents s).booth.pollOut = s.booth.pollOut ∧
    (withdrawAllIntents s).booth.before = s.booth.before ∧
    (withdrawAllIntents s).booth.micIn = s.booth.micIn ∧
    (withdrawAllIntents s).booth.left = s.booth.left ∧
    (withdrawAllIntents s).lanes.shortage = s.lanes.shortage := by
  simp [withdrawAllIntents]

end Sys2Proof.Machine
end

section
/-! SUPPORT. The operations that leave the laws of the tables alone. Most operations mark, close, age, tag or refuse, and take
no entry in or out: they are soft. A soft change keeps which claims, mics, holdings, desks and channels there are, and every
law of these tables with them. -/

namespace Sys2Proof.Machine

/-! ### Soft changes -/

/-- An open-mic entry within Table 5-4. -/
def MicOk (m : Mic) : Prop := m.step ≤ 8 ∧ (m.phase = .opened → m.step = 8) ∧ (m.phase = .opening → m.step < 8) ∧
  m.age ≤ 65535 ∧ m.used ≤ 1800000

/-- A desk that does not relay its own output language (R134). -/
def RelayOk (d : Desk) : Prop :=
  ∀ l ∈ d.output, d.relay ≠ .language l ∧ d.pendingSource ≠ .language l ∧ d.source ≠ .language l

/-- A place claim of the same seat and channel, a Hold where it was one. -/
def SoftPlace (c c' : PlaceClaim) : Prop :=
  c'.seat = c.seat ∧ c'.uplink = c.uplink ∧ (c'.stage = .hold ↔ c.stage = .hold)

/-- A language claim of the same desk and language, a Hold where it was one, and live only where it was. -/
def SoftLanguage (c c' : LanguageClaim) : Prop :=
  c'.desk = c.desk ∧ c'.language = c.language ∧ (c'.stage = .hold ↔ c.stage = .hold) ∧
    (isLiveIntent c'.stage = true → isLiveIntent c.stage = true)

/-- A lane claim of the same lane and language, a Hold where it was one. -/
def SoftLane (c c' : LaneClaim) : Prop :=
  c'.lane = c.lane ∧ c'.language = c.language ∧ (c'.stage = .hold ↔ c.stage = .hold)

/-- A mic of the same seat and channel, within its table where it was. -/
def SoftMic (m m' : Mic) : Prop := m'.seat = m.seat ∧ m'.uplink = m.uplink ∧ (MicOk m → MicOk m')

/-- A holding of the same lane and language, Held where it was, with its age in range where it was. -/
def SoftHolding (h h' : Holding) : Prop :=
  h'.lane = h.lane ∧ h'.language = h.language ∧ h'.held = h.held ∧ (h.age ≤ 65535 → h'.age ≤ 65535)

/-- A desk with the same interlock state and output language, that relays its own language only where it did. -/
def SoftDesk (d d' : Desk) : Prop := d'.state = d.state ∧ d'.output = d.output ∧ (RelayOk d → RelayOk d')

@[simp] theorem softPlace_refl (c : PlaceClaim) : SoftPlace c c := ⟨rfl, rfl, Iff.rfl⟩
@[simp] theorem softLanguage_refl (c : LanguageClaim) : SoftLanguage c c := ⟨rfl, rfl, Iff.rfl, id⟩
@[simp] theorem softLane_refl (c : LaneClaim) : SoftLane c c := ⟨rfl, rfl, Iff.rfl⟩
@[simp] theorem softMic_refl (m : Mic) : SoftMic m m := ⟨rfl, rfl, id⟩
@[simp] theorem softHolding_refl (h : Holding) : SoftHolding h h := ⟨rfl, rfl, rfl, id⟩
@[simp] theorem softDesk_refl (d : Desk) : SoftDesk d d := ⟨rfl, rfl, id⟩

/-- Two lists pair up in a relation that every element has to itself. -/
@[simp] theorem forall₂_self {α : Type} {r : α → α → Prop} (h : ∀ a, r a a) (l : List α) : List.Forall₂ r l l :=
  List.forall₂_same.mpr fun a _ => h a

/-- A list pairs up with its image under a function that changes each element as the relation says. -/
theorem forall₂_map_self {α β : Type} {r : α → β → Prop} {f : α → β} (h : ∀ a, r a (f a)) (l : List α) :
    List.Forall₂ r l (l.map f) := List.forall₂_map_right_iff.mpr (List.forall₂_same.mpr fun a _ => h a)

/-- A list pairs up with itself after a change of one element as the relation says. -/
theorem forall₂_modify_self {α : Type} {r : α → α → Prop} (hr : ∀ a, r a a) {f : α → α} (h : ∀ a, r a (f a)) (l : List α)
    (i : Nat) : List.Forall₂ r l (l.modify i f) := by
  refine List.forall₂_iff_get.mpr ⟨by simp, fun k h1 h2 => ?_⟩
  simp only [List.get_eq_getElem, List.getElem_modify]
  split
  · exact h _
  · exact hr _

/-- Where each element of the left list stands in the relation to what the transitive relation chains it to. -/
theorem forall₂_trans {α : Type} {r : α → α → Prop} (h : ∀ a b c, r a b → r b c → r a c) {l m n : List α}
    (hlm : List.Forall₂ r l m) (hmn : List.Forall₂ r m n) : List.Forall₂ r l n := by
  rw [List.forall₂_iff_get] at *
  obtain ⟨hl, hget⟩ := hlm
  obtain ⟨hm, hget'⟩ := hmn
  exact ⟨hl.trans hm, fun i h1 h2 => h _ _ _ (hget i h1 (hl ▸ h1)) (hget' i (hl ▸ h1) h2)⟩

/-- A change from s to t that takes no place claim, mic or uplink channel in or out. -/
structure SoftPlaces (s t : State) : Prop where
  places : List.Forall₂ SoftPlace s.claims.places t.claims.places
  mics : List.Forall₂ SoftMic s.floor.mics t.floor.mics
  uplinks : t.dlc.uplinks = s.dlc.uplinks

/-- A change from s to t that takes no language claim in or out, files no language want, and moves no desk. -/
structure SoftDesks (s t : State) : Prop where
  languages : List.Forall₂ SoftLanguage s.claims.languages t.claims.languages
  languageWants : ∀ w ∈ t.claims.languageWants, w ∈ s.claims.languageWants
  desks : List.Forall₂ SoftDesk s.booth.desks t.booth.desks

/-- A change from s to t that takes no lane claim or holding in or out. -/
structure SoftLanes (s t : State) : Prop where
  lanes : List.Forall₂ SoftLane s.claims.lanes t.claims.lanes
  holdings : List.Forall₂ SoftHolding s.lanes.holdings t.lanes.holdings

/-- A change from s to t that keeps the tables at their sizes and clears no flag. -/
structure SoftSizes (s t : State) : Prop where
  units : s.dlc.units.length = 60 → t.dlc.units.length = 60
  peers : s.peers.length = 16 → t.peers.length = 16
  marks : s.room.marks.length = 16 → t.room.marks.length = 16
  lastSeen : s.room.lastSeen.length = 16 → t.room.lastSeen.length = 16
  walls : s.walls.length = 4 → t.walls.length = 4
  flags : ∀ n, s.port.flags.getLsbD n = true → t.port.flags.getLsbD n = true

/-- A soft change from s to t. -/
structure Soft (s t : State) : Prop extends SoftPlaces s t, SoftDesks s t, SoftLanes s t, SoftSizes s t

/-- Place claims, mics and uplink channels as they were. -/
@[simp] def SamePlaces (s t : State) : Prop :=
  t.claims.places = s.claims.places ∧ t.floor.mics = s.floor.mics ∧ t.dlc.uplinks = s.dlc.uplinks

/-- Language claims and desks as they were, and no new want. -/
@[simp] def SameDesks (s t : State) : Prop :=
  t.claims.languages = s.claims.languages ∧
  (t.claims.languageWants = s.claims.languageWants ∨ t.claims.languageWants = []) ∧ t.booth.desks = s.booth.desks

/-- Lane claims and holdings as they were. -/
@[simp] def SameLanes (s t : State) : Prop :=
  t.claims.lanes = s.claims.lanes ∧ t.lanes.holdings = s.lanes.holdings

/-- The other tables of the size they had, and the flags as they were. -/
@[simp] def SameSizes (s t : State) : Prop :=
  t.dlc.units.length = s.dlc.units.length ∧ t.peers.length = s.peers.length ∧
  t.room.marks.length = s.room.marks.length ∧ t.room.lastSeen.length = s.room.lastSeen.length ∧
  t.walls.length = s.walls.length ∧ t.port.flags = s.port.flags

theorem SoftPlaces.same {s t : State} (h : SamePlaces s t) : SoftPlaces s t := by
  obtain ⟨hplaces, hmics, huplinks⟩ := h
  exact ⟨by simp [hplaces], by simp [hmics], huplinks⟩

theorem SoftDesks.same {s t : State} (h : SameDesks s t) : SoftDesks s t := by
  obtain ⟨hlanguages, hwants, hdesks⟩ := h
  refine ⟨by simp [hlanguages], ?_, by simp [hdesks]⟩
  rcases hwants with hwants | hwants <;> simp [hwants]

theorem SoftLanes.same {s t : State} (h : SameLanes s t) : SoftLanes s t := by
  obtain ⟨hlanes, hholdings⟩ := h
  exact ⟨by simp [hlanes], by simp [hholdings]⟩

theorem SoftSizes.same {s t : State} (h : SameSizes s t) : SoftSizes s t := by
  obtain ⟨hunits, hpeers, hmarks, hseen, hwalls, hflags⟩ := h
  exact ⟨by simp [hunits], by simp [hpeers], by simp [hmarks], by simp [hseen], by simp [hwalls], by simp [hflags]⟩

/-- A change from s to t that keeps what the laws of the tables read. -/
theorem Soft.same {s t : State} (h : SamePlaces s t ∧ SameDesks s t ∧ SameLanes s t ∧ SameSizes s t) : Soft s t :=
  ⟨.same h.1, .same h.2.1, .same h.2.2.1, .same h.2.2.2⟩

theorem Soft.of_places {s t : State} (h : SoftPlaces s t) (k : SameDesks s t ∧ SameLanes s t ∧ SameSizes s t) : Soft s t :=
  ⟨h, .same k.1, .same k.2.1, .same k.2.2⟩

theorem Soft.of_desks {s t : State} (h : SoftDesks s t) (k : SamePlaces s t ∧ SameLanes s t ∧ SameSizes s t) : Soft s t :=
  ⟨.same k.1, h, .same k.2.1, .same k.2.2⟩

theorem Soft.of_lanes {s t : State} (h : SoftLanes s t) (k : SamePlaces s t ∧ SameDesks s t ∧ SameSizes s t) : Soft s t :=
  ⟨.same k.1, .same k.2.1, h, .same k.2.2⟩

theorem Soft.of_sizes {s t : State} (h : SoftSizes s t) (k : SamePlaces s t ∧ SameDesks s t ∧ SameLanes s t) : Soft s t :=
  ⟨.same k.1, .same k.2.1, .same k.2.2, h⟩

theorem Soft.refl (s : State) : Soft s s := .same (by simp)

theorem SoftPlaces.trans {s t u : State} (h : SoftPlaces s t) (k : SoftPlaces t u) : SoftPlaces s u where
  places := forall₂_trans (fun _ _ _ ⟨h1, h2, h3⟩ ⟨k1, k2, k3⟩ => ⟨k1.trans h1, k2.trans h2, k3.trans h3⟩) h.places k.places
  mics := forall₂_trans (fun _ _ _ ⟨h1, h2, h3⟩ ⟨k1, k2, k3⟩ => ⟨k1.trans h1, k2.trans h2, k3 ∘ h3⟩) h.mics k.mics
  uplinks := k.uplinks.trans h.uplinks

theorem SoftDesks.trans {s t u : State} (h : SoftDesks s t) (k : SoftDesks t u) : SoftDesks s u where
  languages := forall₂_trans (fun _ _ _ ⟨h1, h2, h3, h4⟩ ⟨k1, k2, k3, k4⟩ =>
    ⟨k1.trans h1, k2.trans h2, k3.trans h3, h4 ∘ k4⟩) h.languages k.languages
  languageWants w hw := h.languageWants w (k.languageWants w hw)
  desks := forall₂_trans (fun _ _ _ ⟨h1, h2, h3⟩ ⟨k1, k2, k3⟩ => ⟨k1.trans h1, k2.trans h2, k3 ∘ h3⟩) h.desks k.desks

theorem SoftLanes.trans {s t u : State} (h : SoftLanes s t) (k : SoftLanes t u) : SoftLanes s u where
  lanes := forall₂_trans (fun _ _ _ ⟨h1, h2, h3⟩ ⟨k1, k2, k3⟩ => ⟨k1.trans h1, k2.trans h2, k3.trans h3⟩) h.lanes k.lanes
  holdings := forall₂_trans (fun _ _ _ ⟨h1, h2, h3, h4⟩ ⟨k1, k2, k3, k4⟩ =>
    ⟨k1.trans h1, k2.trans h2, k3.trans h3, k4 ∘ h4⟩) h.holdings k.holdings

theorem SoftSizes.trans {s t u : State} (h : SoftSizes s t) (k : SoftSizes t u) : SoftSizes s u where
  units := k.units ∘ h.units
  peers := k.peers ∘ h.peers
  marks := k.marks ∘ h.marks
  lastSeen := k.lastSeen ∘ h.lastSeen
  walls := k.walls ∘ h.walls
  flags n hn := k.flags n (h.flags n hn)

theorem Soft.trans {s t u : State} (h : Soft s t) (k : Soft t u) : Soft s u where
  toSoftPlaces := h.toSoftPlaces.trans k.toSoftPlaces
  toSoftDesks := h.toSoftDesks.trans k.toSoftDesks
  toSoftLanes := h.toSoftLanes.trans k.toSoftLanes
  toSoftSizes := h.toSoftSizes.trans k.toSoftSizes

/-- A soft change or none. -/
theorem Soft.ite {s t u : State} (c : Prop) [Decidable c] (h : Soft s t) (k : Soft s u) : Soft s (if c then t else u) := by
  split
  · exact h
  · exact k

/-- A fold of soft changes is soft. -/
theorem Soft.foldl {β : Type} {g : State → β → State} (h : ∀ s x, Soft s (g s x)) (l : List β) (s : State) :
    Soft s (l.foldl g s) := by
  induction l generalizing s with
  | nil => exact .refl s
  | cons x l ih => exact (h s x).trans (ih (g s x))

/-! ### What is soft in one entry -/

/-- A withdrawal mark. -/
theorem markStage_live (x : Stage) (h : isLiveIntent (markStage x) = true) : isLiveIntent x = true := by
  simp at h

theorem softPlace_mark (p : Prop) [Decidable p] (c : PlaceClaim) :
    SoftPlace c (if p then { c with stage := markStage c.stage } else c) := by
  split <;> simp [SoftPlace]

theorem softLanguage_mark (p : Prop) [Decidable p] (c : LanguageClaim) :
    SoftLanguage c (if p then { c with stage := markStage c.stage } else c) := by
  split <;> simp [SoftLanguage]

theorem softLane_mark (c : LaneClaim) : SoftLane c { c with stage := markStage c.stage } := by simp [SoftLane]

/-- A close. -/
theorem softMic_closed (m : Mic) : SoftMic m (closed m) := by
  rw [closed_eq]
  exact ⟨rfl, rfl, fun ⟨hstep, _, _, hage, hused⟩ => ⟨hstep, by simp, by simp, hage, hused⟩⟩

/-- One mic after a switch point, field by field (R89, R91). -/
theorem advanceMic_eq (m : Mic) : advanceMic m = { m with
    age := min (m.age + 1) 65535
    phase := if m.phase = .opening ∧ 7 ≤ m.step then .opened else m.phase
    step := if m.phase = .opening then min (m.step + 1) 8 else if m.phase = .opened then 8 else m.step - 1
    used := if m.cls ≤ 1 ∧ m.phase ≠ .closing then min (m.used + 1) 1800000 else m.used } := by
  obtain ⟨seat, cls, uplink, phase, step, age, used, tag, displaced⟩ := m
  have counts : ∀ p : MicPhase, (counted cls && sounding p) = decide (cls ≤ 1 ∧ p ≠ .closing) := by
    intro p
    cases p <;> simp [counted, sounding]
  cases phase with
  | opening =>
    by_cases h : 7 ≤ step
    · have h1 : 8 ≤ step + 1 := by omega
      by_cases hc : cls ≤ 1 <;>
        simp [advanceMic, fade, countSpeaking, counts, Config.fadeSteps, satInc, Config.ageLimit, Config.speakLimit, h, h1, hc]
    · have h1 : ¬ 8 ≤ step + 1 := by omega
      have h2 : step < 8 := by omega
      by_cases hc : cls ≤ 1 <;>
        simp [advanceMic, fade, countSpeaking, counts, Config.fadeSteps, satInc, Config.ageLimit, Config.speakLimit, h, h1, h2, hc]
  | opened =>
    by_cases hc : cls ≤ 1 <;>
      simp [advanceMic, fade, countSpeaking, counts, Config.fadeSteps, satInc, Config.ageLimit, Config.speakLimit, hc]
  | closing => simp [advanceMic, fade, countSpeaking, counts, satInc, Config.ageLimit]

/-- A switch point of one mic: the step goes to 8 in Open and towards 0 in Closing. -/
theorem micOk_advanceMic {m : Mic} (h : MicOk m) : MicOk (advanceMic m) := by
  obtain ⟨hstep, hopened, hopening, -, hused⟩ := h
  rw [advanceMic_eq]
  have husedNow : (if m.cls ≤ 1 ∧ m.phase ≠ .closing then min (m.used + 1) 1800000 else m.used) ≤ 1800000 := by
    split <;> omega
  unfold MicOk
  cases hphase : m.phase with
  | opening =>
    have := hopening hphase
    by_cases h : 7 ≤ m.step
    · simpa [hphase, h] using husedNow
    · have h1 : m.step < 7 := by omega
      exact ⟨by simp, by simp [h], by simp, by simp, by simpa [hphase] using husedNow⟩
  | opened => simpa [hphase] using husedNow
  | closing => exact ⟨by simp; omega, by simp, by simp, by simp, by simpa [hphase] using husedNow⟩

/-- A switch point keeps seat and channel of a mic. -/
theorem advanceMic_seat_uplink (m : Mic) : (advanceMic m).seat = m.seat ∧ (advanceMic m).uplink = m.uplink := by
  rw [advanceMic_eq]
  exact ⟨rfl, rfl⟩

theorem softMic_advanceMic (m : Mic) : SoftMic m (advanceMic m) :=
  ⟨(advanceMic_seat_uplink m).1, (advanceMic_seat_uplink m).2, micOk_advanceMic⟩

/-- A desk whose relay and sources stay. -/
theorem softDesk_of_eq {d d' : Desk} (h : (d'.state, d'.output, d'.relay, d'.pendingSource, d'.source) =
    (d.state, d.output, d.relay, d.pendingSource, d.source)) : SoftDesk d d' := by
  simp only [Prod.mk.injEq] at h
  obtain ⟨hstate, houtput, hrelay, hpending, hsource⟩ := h
  exact ⟨hstate, houtput, fun ok => by unfold RelayOk; rw [houtput, hrelay, hpending, hsource]; exact ok⟩

/-- The pending source that a relay selection gives is not the own language where the selection is not. -/
theorem sourceOf_ne_output {s : State} {d : Desk} {l : Nat} (hown : d.output = some l) (hrelay : d.relay ≠ .language l) :
    sourceOf s d ≠ .language l := by
  unfold sourceOf
  split
  · simp
  · next k hk =>
    rintro ⟨⟩
    exact hrelay hk
  · exact resolveAuto_ne_output hown

/-- The pending source worked out again. -/
theorem softDesk_workOut (s : State) (d : Desk) : SoftDesk d { d with pendingSource := sourceOf s d } :=
  ⟨rfl, rfl, fun ok l hl => ⟨(ok l hl).1, sourceOf_ne_output hl (ok l hl).1, (ok l hl).2.2⟩⟩

/-- The pending source taken. -/
theorem softDesk_apply (d : Desk) : SoftDesk d { d with source := d.pendingSource } :=
  ⟨rfl, rfl, fun ok l hl => ⟨(ok l hl).1, (ok l hl).2.1, (ok l hl).2.1⟩⟩

/-- A selection turned to Floor. -/
theorem softDesk_floor (d : Desk) : SoftDesk d { d with relay := .floor, selectionAge := 0, loopMark := true } :=
  ⟨rfl, rfl, fun ok l hl => ⟨by simp, (ok l hl).2.1, (ok l hl).2.2⟩⟩

/-! ### Soft operations on flags, units, claims and floor -/

theorem soft_raise (f : EventFlag) (s : State) : Soft s (raise f s) :=
  .of_sizes ⟨by simp, by simp, by simp, by simp, by simp, fun n hn => (raise_getLsbD f s n).mpr (.inl hn)⟩ (by simp)

theorem soft_raiseIf (c : Bool) (f : EventFlag) (s : State) : Soft s (raiseIf c f s) :=
  .ite _ (soft_raise f s) (.refl s)

theorem soft_modifyUnit (a : Nat) (f : UnitEntry → UnitEntry) (s : State) : Soft s (modifyUnit a f s) :=
  .same (by simp)

theorem soft_showFull (seat : Nat) (s : State) : Soft s (showFull seat s) := soft_modifyUnit _ _ s

theorem soft_clearFull (seat : Nat) (s : State) : Soft s (clearFull seat s) := soft_modifyUnit _ _ s

theorem soft_refusePress (seat : Nat) (s : State) : Soft s (refusePress seat s) :=
  (soft_showFull seat s).trans (soft_raise _ _)

theorem soft_withdrawSeat (every : Bool) (seat : Nat) (s : State) : Soft s (withdrawSeat every seat s) :=
  .of_places ⟨forall₂_map_self (fun c => softPlace_mark _ c) _, by simp, by simp⟩ (by simp)

theorem soft_withdrawDesk (desk : Nat) (s : State) : Soft s (withdrawDesk desk s) :=
  .of_desks ⟨forall₂_map_self (fun c => softLanguage_mark _ c) _, fun w hw => (List.mem_filter.mp hw).1, by simp⟩ (by simp)

theorem soft_filePlaceWant (w : PlaceWant) (s : State) : Soft s (filePlaceWant w s) := by
  rcases filePlaceWant_cases w s with ⟨-, h⟩ | ⟨-, -, h⟩ | ⟨-, -, h⟩ <;> rw [h]
  · exact .ite _ (soft_refusePress _ s) (.refl s)
  · exact .refl s
  · exact .same (by simp)

theorem soft_modifyDesk (e : Nat) {f : Desk → Desk} (hf : ∀ d, SoftDesk d (f d)) (s : State) :
    Soft s (modifyDesk e f s) :=
  .of_desks ⟨by simp, by simp, forall₂_modify_self softDesk_refl hf _ e⟩ (by simp)

theorem soft_engageDesk (e : Nat) (s : State) : Soft s (engageDesk e s) :=
  (soft_modifyDesk e (f := fun d => { d with engaged := true }) (fun _ => softDesk_of_eq rfl) s).trans (soft_raise _ _)

theorem soft_closeMics (pick : Mic → Bool) (s : State) : Soft s (closeMics pick s) :=
  .of_places ⟨by simp, forall₂_map_self (fun m => by split; exacts [softMic_closed m, softMic_refl m]) _, by simp⟩ (by simp)

theorem soft_closeSeatMic (seat : Nat) (s : State) : Soft s (closeSeatMic seat s) := soft_closeMics _ s

theorem soft_dropRequest (seat : Nat) (s : State) : Soft s (dropRequest seat s) :=
  .same (by simp)

theorem soft_createRequest (seat : Nat) (s : State) : Soft s (createRequest seat s) :=
  .of_sizes ⟨by simp [createRequest, clearFull], by simp, by simp, by simp, by simp, by simp⟩ (by simp)

theorem soft_removeRequest (seat : Nat) (s : State) : Soft s (removeRequest seat s) :=
  .ite _ ((soft_dropRequest seat s).trans (soft_withdrawSeat _ _ _)) (.refl s)

theorem soft_clearRequests (s : State) : Soft s (clearRequests s) := by
  have cleared : Soft s { s with floor := { s.floor with requests := [] } } := .same (by simp)
  exact cleared.trans (.foldl (fun s' (r : Request) => soft_withdrawSeat true r.seat s') _ _)

/-! ### Soft operations on desks and lanes -/

theorem soft_workOutSources (s : State) : Soft s (workOutSources s) :=
  .of_desks ⟨by simp, by simp, forall₂_map_self (softDesk_workOut s) _⟩ (by simp)

theorem soft_applySources (s : State) : Soft s (applySources s) :=
  .of_desks ⟨by simp, by simp, forall₂_map_self softDesk_apply _⟩ (by simp)

theorem soft_forceRelay (e : Nat) (s : State) : Soft s (forceRelay e s) :=
  (soft_modifyDesk e softDesk_floor s).trans (soft_raise _ _)

theorem soft_loopCheck (s : State) : Soft s (loopCheck s) :=
  .foldl (fun s' e => .ite _ (soft_forceRelay e s') (.refl s')) _ _

theorem soft_dimEngaged (s : State) : Soft s (dimEngaged s) :=
  .of_desks ⟨by simp, by simp, forall₂_map_self (fun d => by split; exacts [softDesk_of_eq rfl, softDesk_refl d]) _⟩ (by simp)

theorem soft_sourceStep (s : State) : Soft s (sourceStep s) :=
  ((soft_loopCheck s).trans (soft_dimEngaged _)).trans (soft_workOutSources _)

theorem soft_advanceDesks (s : State) : Soft s (advanceDesks s) := by
  have aged : ∀ a b d, SoftDesk d { d with selectionAge := a, onAirAge := b } := fun _ _ _ => softDesk_of_eq rfl
  exact .ite _ (.refl s) (.of_desks ⟨by simp, by simp, forall₂_map_self (fun d => aged _ _ d) _⟩ (by simp))

theorem soft_evalDemand (s : State) : Soft s (evalDemand s) :=
  .of_lanes ⟨by simp, forall₂_map_self (fun h => by split; exacts [⟨rfl, rfl, rfl, id⟩, softHolding_refl h]) _⟩ (by simp)

theorem soft_advanceLanes (s : State) : Soft s (advanceLanes s) :=
  ⟨.same (by simp), .same (by simp), ⟨by simp, forall₂_map_self (fun h => by
      split
      · exact ⟨rfl, rfl, rfl, fun _ => by simp [satInc, Config.ageLimit]⟩
      · exact softHolding_refl h) _⟩, .same (by simp)⟩

/-! ### Soft operations of the room -/

theorem soft_claimsAtMembership (s : State) : Soft s (claimsAtMembership s) :=
  .ite _ (.of_lanes ⟨forall₂_map_self softLane_mark _, by simp⟩ (by simp)) (.refl s)

theorem soft_markNewcomers (before : List Nat) (s : State) : Soft s (markNewcomers before s) :=
  .of_sizes ⟨by simp, by simp, by simp, by simp [markNewcomers], by simp, by simp⟩ (by simp)

theorem soft_presentMembership (before : List Nat) (s : State) : Soft s (presentMembership before s) :=
  (((soft_raise _ s).trans (soft_claimsAtMembership _)).trans (soft_markNewcomers _ _)).trans (soft_evalDemand _)

theorem soft_claimsAtContext (before after : Context) (s : State) : Soft s (claimsAtContext before after s) := by
  have takeovers : ∀ u : State, Soft u { u with claims := { u.claims with
      languageWants := u.claims.languageWants.filter (fun w => w.displaced.isNone)
      languages := u.claims.languages.map (fun c =>
        if c.displaced.isSome then { c with stage := markStage c.stage } else c) } } := fun u =>
    .of_desks ⟨forall₂_map_self (fun c => softLanguage_mark _ c) _, fun w hw => (List.mem_filter.mp hw).1, by simp⟩ (by simp)
  have overrides : ∀ u : State, Soft u { u with claims := { u.claims with
      placeWants := u.claims.placeWants.filter (fun w => w.displaced.isNone)
      places := u.claims.places.map (fun c =>
        if c.displaced.isSome then { c with stage := markStage c.stage } else c) } } := fun u =>
    .of_places ⟨forall₂_map_self (fun c => softPlace_mark _ c) _, by simp, by simp⟩ (by simp)
  simp only [claimsAtContext]
  exact .ite _ ((Soft.ite _ (takeovers s) (.refl s)).trans (overrides _)) (.ite _ (takeovers s) (.refl s))

theorem soft_floorAtContext (before after : Context) (s : State) : Soft s (floorAtContext before after s) := by
  have cleared : Soft s (if before.mode = .queue && after.mode != .queue then clearRequests s else s) :=
    .ite _ (soft_clearRequests s) (.refl s)
  simp only [floorAtContext]
  exact .ite _ ((cleared.trans (soft_closeMics _ _)).trans (.foldl (fun s' seat => soft_withdrawSeat true seat s') _ _))
    cleared

theorem soft_presentContext (before after : Context) (s : State) : Soft s (presentContext before after s) :=
  ((soft_claimsAtContext before after s).trans (soft_floorAtContext _ _ _)).trans (soft_workOutSources _)

theorem soft_recomposed (s : State) : Soft s (recomposed s) :=
  .same (by simp)

theorem soft_presentContextChange (before after : Option Context) (s : State) :
    Soft s (presentContextChange before after s) := by
  unfold presentContextChange
  split
  · exact .ite _ (.refl s) (soft_presentContext _ _ s)
  · exact .refl s

theorem soft_recompute (s : State) : Soft s (recompute s) :=
  ((soft_recomposed s).trans (.ite _ (.refl _) (soft_presentMembership _ _))).trans (soft_presentContextChange _ _ _)

/-! ### Soft presses -/

theorem soft_pressIdleFree (seat : Nat) (s : State) : Soft s (pressIdleFree seat s) :=
  .ite _ (soft_refusePress seat s) (soft_filePlaceWant _ s)

theorem soft_pressIdleQueue (seat : Nat) (s : State) : Soft s (pressIdleQueue seat s) :=
  .ite _ (.ite _ (soft_refusePress seat s) (soft_createRequest seat s))
    (.ite _ (soft_refusePress seat s) (soft_filePlaceWant _ s))

theorem soft_pressIdleOverride (seat : Nat) (s : State) : Soft s (pressIdleOverride seat s) := by
  refine .ite _ (soft_refusePress seat s) (.ite _ (soft_filePlaceWant _ s) (.ite _ (soft_filePlaceWant _ s) ?_))
  split
  · exact soft_filePlaceWant _ s
  · exact soft_refusePress seat s

theorem soft_pressIdle (seat : Nat) (s : State) : Soft s (pressIdle seat s) := by
  unfold pressIdle
  split
  · exact soft_pressIdleFree seat s
  · exact soft_pressIdleQueue seat s
  · exact soft_pressIdleOverride seat s

theorem soft_micPress (seat : Nat) (s : State) : Soft s (micPress seat s) := by
  unfold micPress
  split
  · exact soft_closeSeatMic seat s
  · exact .refl s
  · exact soft_removeRequest seat s
  · exact soft_withdrawSeat true seat s
  · exact soft_pressIdle seat s

theorem soft_cancelSeat (seat : Nat) (s : State) : Soft s (cancelSeat seat s) := by
  simp only [cancelSeat]
  exact .ite _ ((soft_removeRequest seat s).trans (soft_withdrawSeat _ _ _)) (soft_removeRequest seat s)

theorem soft_closeSeatCommand (seat : Nat) (s : State) : Soft s (closeSeatCommand seat s) := by
  simp only [closeSeatCommand]
  exact .ite _ ((soft_closeSeatMic seat s).trans (soft_withdrawSeat _ _ _)) (soft_closeSeatMic seat s)

theorem soft_placeRefused (origin : Origin) (seat : Nat) (s : State) : Soft s (placeRefused origin seat s) :=
  .ite _ (soft_refusePress seat s) (.refl s)

theorem soft_tagChanged (seat tag : Nat) (s : State) : Soft s (tagChanged seat tag s) :=
  .of_places ⟨by simp, forall₂_map_self (fun m => by split; exacts [⟨rfl, rfl, id⟩, softMic_refl m]) _, by simp⟩ (by simp)

theorem soft_expireSpeaking (s : State) : Soft s (expireSpeaking s) :=
  (soft_closeMics _ s).trans (soft_raiseIf _ _ _)

theorem soft_advanceRequests (s : State) : Soft s (advanceRequests s) :=
  .same (by simp)

/-! ### Soft room commands -/

theorem soft_wantRanked (n : Nat) (origin : Origin) (s : State) : Soft s (wantRanked n origin s) :=
  .foldl (fun s' _ => soft_filePlaceWant _ s') _ _

theorem soft_actPriorityMute (s : State) : Soft s (actPriorityMute s) := by
  have muted : Soft s ((mutedSeats (closeMics (fun m => counted m.cls) s)).foldl
      (fun s' seat => withdrawSeat false seat s') (closeMics (fun m => counted m.cls) s)) :=
    (soft_closeMics _ s).trans (.foldl (fun s' seat => soft_withdrawSeat false seat s') _ _)
  exact .ite _ (muted.trans (soft_clearRequests _)) muted

theorem soft_actSetFloorLevel (v : Nat) (s : State) : Soft s (actSetFloorLevel v s) := by
  have level : Soft s { s with floor := { s.floor with level := v } } := .same (by simp)
  exact .ite _ (level.trans (soft_recompute _)) (.refl s)

theorem soft_actOn (c : RoomCommand) (s : State) : Soft s (actOn c s) := by
  unfold actOn
  split
  · exact soft_actPriorityMute s
  · exact soft_wantRanked _ _ s
  · exact soft_clearRequests s
  · exact soft_actSetFloorLevel _ s

theorem soft_enqueue (c : RoomCommand) (s : State) : Soft s (enqueue c s) :=
  .same (by simp)

theorem soft_chairRequest (c : RoomCommand) (s : State) : Soft s (chairRequest c s) :=
  .ite _ (soft_raise _ s) (soft_enqueue c s)

theorem soft_roomCommandWork (s : State) : Soft s (roomCommandWork s) := by
  have current : ∀ (n : Nat) (c : Option CurrentCommand),
      Soft s { s with room := { s.room with counter := n, current := c } } := fun n c => .same (by simp)
  unfold roomCommandWork
  split
  all_goals try exact .refl s
  all_goals
    split
    · exact current _ _
    · split
      · exact .refl s
      · exact (current _ _).trans (soft_actOn _ _)

theorem soft_removeCurrent (s : State) : Soft s (removeCurrent s) := by
  unfold removeCurrent
  split
  · exact .same (by simp)
  · exact .refl s

theorem soft_retireCommand (s : State) : Soft s (retireCommand s) := by
  unfold retireCommand
  split
  · exact .ite _ (soft_removeCurrent s) (.refl s)
  · exact .refl s

theorem soft_commandTest (t : Nat) (a : Announcement) (s : State) : Soft s (commandTest t a s) := by
  have seen : ∀ u : State, Soft u { u with room := { u.room with lastSeen := u.room.lastSeen.set t (some a.sequence) } } :=
    fun u => .same (by simp)
  have acted : Soft s (match a.command with
      | some c => if testsCommand s t a then actOn c s else s
      | none => s) := by
    split
    · exact .ite _ (soft_actOn _ s) (.refl s)
    · exact .refl s
  exact acted.trans (seen _)

theorem soft_deriveAutoAdvance (s : State) : Soft s (deriveAutoAdvance s) := .ite _ (soft_wantRanked _ _ s) (.refl s)

theorem soft_dropWants (s : State) : Soft s (dropWants s) := by
  have wants : ∀ u : State, Soft u { u with claims := { u.claims with placeWants := [], languageWants := [] } } :=
    fun u => .same (by simp)
  exact ((Soft.foldl (fun s' (w : PlaceWant) => soft_placeRefused w.origin w.seat s') _ s).trans
    (.foldl (fun s' (w : LanguageWant) => soft_engageDesk w.desk s') _ _)).trans (wants _)

end Sys2Proof.Machine
end

section
/-! SUPPORT. The soft operations of the units, the booth ports, the walls, the frame and the peers, on the way to the laws of
the tables. -/

namespace Sys2Proof.Machine

/-! ### Seat channels, units and polls -/

theorem soft_leaveAssignment (a : Nat) (waits : Nat → Nat) (s : State) : Soft s (leaveAssignment a waits s) :=
  .same (by simp)

theorem soft_assignSelection (a sel : Nat) (s : State) : Soft s (assignSelection a sel s) := by
  have waiting : Soft s (assign a (some 0) { s with seats := { s.seats with deferred := s.seats.deferred ++ [a] } }) := .same (by simp)
  unfold assignSelection
  refine .ite _ (.same (by simp)) ?_
  split
  · exact .same (by simp)
  · split
    · exact .same (by simp)
    · exact waiting.trans (soft_raise _ _)

theorem soft_takeSelection (a sel : Nat) (fresh : Bool) (s : State) : Soft s (takeSelection a sel fresh s) :=
  .ite _ (((soft_leaveAssignment a _ s).trans (soft_assignSelection a sel _)).trans (soft_modifyUnit _ _ _)) (.refl s)

theorem soft_takeTag (a tag : Nat) (s : State) : Soft s (takeTag a tag s) :=
  .ite _ (.refl s) ((soft_modifyUnit _ _ s).trans (soft_tagChanged _ _ _))

theorem soft_dispatchKeys (a : Nat) (k : Keys) (s : State) : Soft s (dispatchKeys a k s) := by
  have pressed : Soft s (if k.mic then micPress a s else s) := .ite _ (soft_micPress a s) (.refl s)
  have cancelled := pressed.trans (.ite (k.cancel = true) (soft_cancelSeat a _) (.refl _))
  have muted := cancelled.trans
    (.ite ((k.priority && seatClass s a == 3) = true) (soft_chairRequest ⟨.priorityMute, 0⟩ _) (.refl _))
  exact muted.trans (.ite _ (soft_chairRequest _ _) (.refl _))

theorem soft_goodReply (a : Nat) (c : ReplyClass) (r : UnitContent) (s : State) : Soft s (goodReply a c r s) := by
  have heard : Soft s (raiseIf (!(unitOf s a).present) .unitChanged (modifyUnit a (fun u =>
      { u with miss := 0, noise := noiseAfter c u.noise, present := true, ack := !u.ack }) s)) :=
    (soft_modifyUnit _ _ s).trans (soft_raiseIf _ _ _)
  exact (((heard.trans (soft_takeSelection _ _ _ _)).trans (soft_takeTag _ _ _)).trans (soft_modifyUnit _ _ _)).trans
    (soft_dispatchKeys _ _ _)

theorem soft_loseUnit (a : Nat) (s : State) : Soft s (loseUnit a s) := by
  have absent : Soft s (raise .unitChanged (modifyUnit a (fun u =>
      { u with present := false, miss := Config.missLimit, fullTimer := 0, keys := Keys.empty }) s)) :=
    (soft_modifyUnit _ _ s).trans (soft_raise _ _)
  exact (((absent.trans (soft_withdrawSeat _ _ _)).trans (soft_removeRequest _ _)).trans (soft_closeSeatMic _ _)).trans
    (soft_leaveAssignment _ _ _)

theorem soft_badReply (a : Nat) (s : State) : Soft s (badReply a s) :=
  .ite _ (.refl s) (.ite _ (soft_loseUnit a s) (soft_modifyUnit _ _ s))

theorem soft_closeWindow (a : Nat) (reply : Option UnitReply) (s : State) : Soft s (closeWindow a reply s) := by
  unfold closeWindow
  split
  · exact soft_goodReply ..
  · exact soft_goodReply ..
  · exact soft_badReply ..

theorem soft_takeWindow (s : State) : Soft s (takeWindow s) := by
  unfold takeWindow
  split <;> exact .same (by simp)

theorem soft_pollWindowCloseOp (reply : Option UnitReply) (s : State) : Soft s (pollWindowCloseOp reply s) := by
  unfold pollWindowCloseOp
  split
  · exact (soft_takeWindow s).trans (soft_closeWindow _ _ _)
  · exact .refl s

theorem soft_unitAbsentOp (a : Nat) (s : State) : Soft s (unitAbsentOp a s) :=
  .ite _ ((Soft.ite _ (soft_takeWindow s) (.refl s)).trans (soft_loseUnit _ _)) (.refl s)

theorem soft_advanceFull (s : State) : Soft s (advanceFull s) :=
  ⟨⟨by simp, by simp, rfl⟩, .same (by simp), .same (by simp), ⟨by simp [advanceFull], by simp, by simp, by simp, by simp, by simp⟩⟩

theorem soft_sendPoll (s : State) : Soft s (sendPoll s) := by
  have sent : ∀ u : State, Soft u { u with dlc := { u.dlc with
      pollOut := some (pollFor s s.dlc.pointer)
      pointer := if s.dlc.pointer ≥ seatCount s then 1 else s.dlc.pointer + 1
      dueWindow := u.dlc.window
      window := some s.dlc.pointer } } := fun u => .same (by simp)
  exact (soft_modifyUnit _ _ s).trans (sent _)

theorem soft_pollAt (f : Nat) (s : State) : Soft s (pollAt f s) := .ite _ (soft_sendPoll s) (.refl s)

/-- A lamp shown at a desk. -/
theorem soft_showLamp (e : Nat) (lamp : DeskLamp) (s : State) : Soft s (modifyDesk e (fun d => { d with lamp := lamp }) s) :=
  soft_modifyDesk e (f := fun d => { d with lamp := lamp }) (fun _ => softDesk_of_eq rfl) s

/-- A change of the booth ports that leaves the desks. -/
theorem soft_booth {s : State} {b : Booth} (h : b.desks = s.booth.desks) : Soft s { s with booth := b } :=
  .of_desks ⟨by simp, by simp, by simp [h]⟩ (by simp)

theorem soft_sendBoothPoll (e : Nat) (s : State) : Soft s (sendBoothPoll e s) :=
  (soft_showLamp e _ s).trans (soft_booth rfl)

theorem soft_boothPollAt (f : Nat) (s : State) : Soft s (boothPollAt f s) := by
  unfold boothPollAt
  split
  · exact soft_booth rfl
  · exact .ite _ (soft_sendBoothPoll _ s) (soft_booth rfl)

theorem soft_withdrawBoothPoll (s : State) : Soft s (withdrawBoothPoll s) := by
  unfold withdrawBoothPoll
  split
  · exact (soft_showLamp _ _ s).trans (soft_booth rfl)
  · exact soft_booth rfl

theorem soft_takeBoothWindow (s : State) : Soft s (takeBoothWindow s) := by
  unfold takeBoothWindow
  split <;> exact soft_booth rfl

/-! ### Station state and configuration -/

theorem soft_changeState (st : StationState) (timer : Option Nat) (s : State) : Soft s (changeState st timer s) := by
  have named : Soft s { s with station := { s.station with state := st, joinTimer := timer } } := .same (by simp)
  exact (named.trans (soft_recompute _)).trans (soft_evalDemand _)

theorem soft_enterJoining (s : State) : Soft s (enterJoining s) := by
  have counted : Soft s { s with lif := { s.lif with epoch := (s.lif.epoch + 1) % 256 } } := .same (by simp)
  exact counted.trans (soft_changeState _ _ _)

theorem soft_takeExpiry (s : State) : Soft s (Machine.takeExpiry s) := .ite _ (soft_changeState _ _ s) (.refl s)

theorem soft_nameWalls (c : Configuration) (s : State) : Soft s (nameWalls c s) :=
  .of_sizes ⟨by simp, by simp, by simp, by simp, by simp [nameWalls], by simp⟩ (by simp)

/-- A list pairs up with its image under a function of entry and place that changes each entry as the relation says. -/
theorem forall₂_zipIdx_map_self {α : Type} {r : α → α → Prop} {f : α × Nat → α} (h : ∀ p, r p.1 (f p)) (l : List α) (k : Nat) :
    List.Forall₂ r l ((l.zipIdx k).map f) := by
  induction l generalizing k with
  | nil => exact .nil
  | cons a l ih => exact .cons (h (a, k)) (ih (k + 1))

theorem soft_fitDesks (c : Configuration) (s : State) : Soft s (fitDesks c s) :=
  .of_desks ⟨by simp, by simp, forall₂_zipIdx_map_self (fun ⟨d, e⟩ => by
      dsimp only
      split <;> exact softDesk_of_eq rfl) _ 0⟩ (by simp)

theorem soft_acceptConfig (c : Configuration) (s : State) : Soft s (acceptConfig c s) := by
  have accepted : Soft s { s with
      station := { s.station with config := some c, accepted := true }, floor := { s.floor with level := 0 } } := .same (by simp)
  exact ((accepted.trans (soft_nameWalls _ _)).trans (soft_fitDesks _ _)).trans (soft_enterJoining _)

theorem soft_rejectConfig (r : RejectReason) (s : State) : Soft s (rejectConfig r s) := by
  have noted : Soft s { s with station := { s.station with lastReject := some r } } := .same (by simp)
  exact noted.trans (soft_raise _ _)

theorem soft_memoryReadOp (record : List Byte) (s : State) : Soft s (memoryReadOp record s) := by
  have ended : Soft s { s with station := { s.station with memoryReading := false } } := .same (by simp)
  rcases memoryReadOp_cases record s with ⟨-, h⟩ | ⟨_, r, -, h⟩ | ⟨-, -, h⟩ <;> rw [h]
  · exact .refl s
  · exact ended.trans (soft_rejectConfig _ _)
  · exact ended.trans (soft_acceptConfig _ _)

theorem soft_isolateLink (s : State) : Soft s (isolateLink s) :=
  .of_sizes ⟨by simp, by simp [isolateLink], by simp, by simp, by simp, by simp⟩ (by simp)

theorem soft_forgetPeers (s : State) : Soft s (forgetPeers s) :=
  .of_sizes ⟨by simp, by simp, by simp [forgetPeers], by simp [forgetPeers], by simp, by simp⟩ (by simp)

theorem soft_isolatePlan (s : State) : Soft s (isolatePlan s) :=
  .same (by simp)

theorem soft_releaseReset (n : BitVec 4) (c : ConfigSource) (s : State) : Soft s (releaseReset n c s) :=
  .ite _ (.of_sizes ⟨by simp, by simp, by simp [Room.initial], by simp [Room.initial], by simp, by simp⟩ (by simp)) (.refl s)

/-! ### Peers -/

theorem soft_setPeer (t : Nat) (e : Option PeerEntry) (s : State) : Soft s (setPeer t e s) :=
  .of_sizes ⟨by simp, by simp [setPeer], by simp, by simp, by simp, by simp⟩ (by simp)

theorem soft_setMark (t : Nat) (b : Bool) (s : State) : Soft s (setMark t b s) :=
  .of_sizes ⟨by simp, by simp, by simp [setMark], id, by simp, by simp⟩ (by simp)

theorem soft_mismatchTest (t : Nat) (a : Announcement) (s : State) : Soft s (mismatchTest t a s) :=
  .ite _ ((soft_raiseIf _ _ s).trans (soft_setMark _ _ _)) (soft_setMark _ _ s)

theorem soft_forgetCommand (t : Nat) (s : State) : Soft s (forgetCommand t s) :=
  .of_sizes ⟨by simp, by simp, id, by simp [forgetCommand], by simp, by simp⟩ (by simp)

theorem soft_noteLeft (t : Nat) (a : Announcement) (s : State) : Soft s (noteLeft t a s) := .ite _ (soft_booth rfl) (.refl s)

theorem soft_applyOverrides (a : Announcement) (s : State) : Soft s (applyOverrides a s) := soft_closeMics _ s

theorem soft_losePeer (t : Nat) (s : State) : Soft s (losePeer t s) :=
  (((soft_setPeer _ _ s).trans (soft_raise _ _)).trans (soft_recompute _)).trans (soft_evalDemand _)

theorem soft_peerMissing (t : Nat) (s : State) : Soft s (peerMissing t s) := by
  unfold peerMissing
  split
  · exact soft_setMark _ _ s
  · exact (Soft.ite _ (soft_losePeer t s) (soft_setPeer _ _ s)).trans (soft_setMark _ _ _)

theorem soft_takeSlot (s : State) : Soft s (takeSlot s) :=
  .same (by simp)

theorem soft_peerLossOp (t : Nat) (s : State) : Soft s (peerLossOp t s) :=
  .ite _ ((Soft.ite _ (soft_takeSlot s) (.refl s)).trans (soft_peerMissing _ _)) (.refl s)

/-! ### Walls -/

theorem soft_setWall (x : Nat) (w : Wall) (s : State) : Soft s (setWall x w s) :=
  .of_sizes ⟨by simp, by simp, by simp, by simp, by simp [setWall], by simp⟩ (by simp)

theorem soft_handWallOn (before after : Wall) (s : State) : Soft s (handWallOn before after s) :=
  .ite _ (.refl s) ((soft_recompute s).trans (soft_evalDemand _))

theorem soft_adoptWall (x : Nat) (c : WallState) (s : State) : Soft s (adoptWall x c s) :=
  (((soft_setWall _ _ s).trans (soft_raiseIf _ _ _)).trans (soft_raiseIf _ _ _)).trans (soft_handWallOn _ _ _)

theorem soft_evaluateWall (x : Nat) (d : WallState × Bool) (s : State) : Soft s (evaluateWall x d s) := by
  unfold evaluateWall
  dsimp only
  split
  · exact (soft_setWall _ _ s).trans (soft_adoptWall _ _ _)
  · exact soft_setWall _ _ s

theorem soft_sampleWall (sample : Bool × Bool) (x : Nat) (s : State) : Soft s (sampleWall sample x s) := by
  refine .ite _ (soft_setWall _ _ s) (.ite _ (soft_setWall _ _ s) (.ite _ ?_ (.refl s)))
  split
  · exact (soft_setWall _ _ s).trans (soft_evaluateWall _ _ _)
  · exact .refl s

theorem soft_wallSampleOp (closed opened : BitVec 4) (s : State) : Soft s (wallSampleOp closed opened s) :=
  .foldl (fun s' x => soft_sampleWall _ x s') _ _

theorem soft_wallAdoptionOp (x : Nat) (s : State) : Soft s (wallAdoptionOp x s) := by
  unfold wallAdoptionOp
  split
  · exact .ite _ (soft_adoptWall _ _ s) (.refl s)
  · exact .refl s

theorem soft_overrideWall (x : Nat) (o : WallOverride) (s : State) : Soft s (overrideWall x o s) :=
  ((soft_setWall _ _ s).trans (soft_raiseIf _ _ _)).trans (soft_handWallOn _ _ _)

/-! ### The port -/

theorem soft_answer (command : Byte) (code : ResponseCode) (s : State) : Soft s (answer command code s) :=
  .of_sizes ⟨by simp, by simp, by simp, by simp, by simp, fun _ h => h⟩ (by simp)

theorem soft_loadConfigOp (record : List Byte) (s : State) : Soft s (loadConfigOp record s) := by
  refine .ite _ (soft_answer _ _ s) (.ite _ (soft_answer _ _ s) (.ite _ (soft_answer _ _ s) ?_))
  split
  · exact (soft_rejectConfig _ s).trans (soft_answer _ _ _)
  · exact (soft_acceptConfig _ s).trans (soft_answer _ _ _)

theorem soft_readRecordOp (kind index : Byte) (s : State) : Soft s (readRecordOp kind index s) := by
  unfold readRecordOp
  split
  · exact .ite _ (.same (by simp)) (.same (by simp))
  · exact soft_answer _ _ s

theorem soft_readEventsOp (s : State) : Soft s (readEventsOp s) :=
  .of_sizes ⟨by simp, by simp, by simp, by simp, by simp, fun _ h => h⟩ (by simp)

theorem soft_setEventMaskOp (mask : BitVec 16) (s : State) : Soft s (setEventMaskOp mask s) :=
  .of_sizes ⟨by simp, by simp, by simp, by simp, by simp, fun _ h => h⟩ (by simp)

theorem soft_issueRoomCommandOp (kind argument : Byte) (s : State) : Soft s (issueRoomCommandOp kind argument s) := by
  refine .ite _ (soft_answer _ _ s) ?_
  split
  · exact soft_answer _ _ s
  · exact .ite _ (soft_answer _ _ s) (.ite _ (soft_answer _ _ s) ((soft_enqueue _ s).trans (soft_answer _ _ _)))

theorem soft_setWallOverrideOp (input setting : Byte) (s : State) : Soft s (setWallOverrideOp input setting s) := by
  unfold setWallOverrideOp
  split
  · exact .ite _ ((soft_overrideWall _ _ s).trans (soft_answer _ _ _)) (soft_answer _ _ s)
  · exact soft_answer _ _ s

theorem soft_closeSeatOp (seat : Byte) (s : State) : Soft s (closeSeatOp seat s) :=
  .ite _ (soft_answer _ _ s) (.ite _ (soft_answer _ _ s) ((soft_closeSeatCommand _ s).trans (soft_answer _ _ _)))

theorem soft_cancelRequestOp (seat : Byte) (s : State) : Soft s (cancelRequestOp seat s) :=
  .ite _ (soft_answer _ _ s) (.ite _ (soft_answer _ _ s) ((soft_cancelSeat _ s).trans (soft_answer _ _ _)))

theorem soft_badFrameOp (frame : List Byte) (s : State) : Soft s (badFrameOp frame s) := by
  unfold badFrameOp
  split
  · exact .of_sizes ⟨by simp, by simp, by simp, by simp, by simp, fun _ h => h⟩ (by simp)
  · exact soft_answer _ _ s

/-! ### The frame and the switch point -/

/-- A change of the link interface alone. -/
theorem soft_lif (s : State) (l : Lif) : Soft s { s with lif := l } :=
  .same (by simp)

/-- A change of the mixer alone. -/
theorem soft_mix (s : State) (m : Mix) : Soft s { s with mix := m } :=
  .same (by simp)

theorem soft_deliver (f : FrameIn) (s : State) : Soft s (deliver f s) :=
  ⟨⟨by simp, by simp, rfl⟩, ⟨by simp, by simp, by simp [deliver]⟩, .same (by simp), ⟨id, by simp, by simp, by simp, by simp, by simp⟩⟩

theorem soft_receiveControl (f : FrameIn) (s : State) : Soft s (receiveControl f s) :=
  .ite _ (.refl s) (.ite _ (soft_lif _ _) (soft_lif _ _))

theorem soft_endFrame (f : FrameIn) (s : State) : Soft s (endFrame f s) := by
  have computed : Soft (putOut f s) (if s.lif.latch.compute then computeFrame (putOut f s) else silence (putOut f s)) :=
    .ite _ ((soft_mix _ _).trans (soft_raiseIf _ _ _)) (soft_mix _ _)
  exact ((((soft_lif s _).trans computed).trans (.ite _ (soft_mix _ _) (.refl _))).trans (soft_receiveControl f _)).trans
    (soft_deliver f _)

theorem soft_beginFrame (f : FrameIn) (s : State) : Soft s (beginFrame f s) := by
  have timed : ∀ u : State, Soft u (advanceTimer u) := fun u => .same (by simp)
  exact ((((soft_lif s _).trans (timed _)).trans (soft_lif _ _)).trans (soft_pollAt _ _)).trans (soft_boothPollAt _ _)

theorem soft_frameBoundary (f : FrameIn) (s : State) : Soft s (beginFrame f (endFrame f (Machine.takeExpiry s))) :=
  ((soft_takeExpiry s).trans (soft_endFrame f _)).trans (soft_beginFrame f _)

theorem soft_bypassFrame (f : FrameIn) (s : State) : Soft s (bypassFrame f s) := soft_lif s _

theorem soft_resetPolling (reply : Option UnitReply) (s : State) : Soft s (resetPolling reply s) := by
  have due : ∀ (u : State) (d : Dlc), d = { u.dlc with dueWindow := none } ∨ d = { u.dlc with window := none } →
      Soft u { u with dlc := d } := by
    rintro u d (rfl | rfl) <;> exact .same (by simp)
  unfold resetPolling
  refine .ite _ ?_ ?_
  · split
    · exact (due s _ (.inl rfl)).trans (soft_closeWindow _ _ _)
    · exact .refl s
  · refine Soft.trans ?_ (soft_pollAt _ _)
    split
    · exact (due s _ (.inr rfl)).trans (soft_closeWindow _ _ _)
    · exact .refl s

theorem soft_cutShort (s : State) : Soft s (cutShort s) :=
  .of_sizes ⟨by simp, by simp, by simp, by simp, by simp [cutShort], by simp⟩ (by simp)

theorem soft_advancePeers (s : State) : Soft s (advancePeers s) :=
  .of_sizes ⟨by simp, by simp [advancePeers], by simp, by simp, by simp, by simp⟩ (by simp)

theorem soft_forgetLeft (s : State) : Soft s (forgetLeft s) := soft_booth rfl

theorem soft_compose (s : State) : Soft s (compose s) := .ite _ (soft_lif s _) (.refl s)

theorem soft_fadeInOp (seat : Nat) (s : State) : Soft s (fadeInOp seat s) :=
  .of_places ⟨by simp, forall₂_map_self (fun m => by split; exacts [softMic_advanceMic m, softMic_refl m]) _, by simp⟩ (by simp)

theorem soft_speakingExpiryOp (seat : Nat) (s : State) : Soft s (speakingExpiryOp seat s) :=
  .ite _ ((soft_closeSeatMic seat s).trans (soft_raise _ _)) (.refl s)

/-- The ages, fades and speaking times of the mics at a switch point. -/
theorem soft_advanceMics (s : State) : Soft s { s with floor := { s.floor with mics := s.floor.mics.map advanceMic } } :=
  ⟨⟨by simp, forall₂_map_self softMic_advanceMic _, by simp⟩, .same (by simp), .same (by simp), .same (by simp)⟩

end Sys2Proof.Machine
end

section
/-! SUPPORT. The laws of the tables under a soft change, and the relation that a change has to keep: every law of the tables,
and every flag that is set. -/

namespace Sys2Proof.Machine

/-! ### Lists that pair up -/

theorem exists_right_of_forall₂ {α β : Type} {r : α → β → Prop} {l : List α} {m : List β} (h : List.Forall₂ r l m) {a : α}
    (ha : a ∈ l) : ∃ b ∈ m, r a b := by
  induction h with
  | nil => simp at ha
  | cons hr _ ih =>
    rcases List.mem_cons.mp ha with rfl | ha
    · exact ⟨_, List.mem_cons_self, hr⟩
    · obtain ⟨b, hb, hab⟩ := ih ha
      exact ⟨b, List.mem_cons_of_mem _ hb, hab⟩

theorem exists_left_of_forall₂ {α β : Type} {r : α → β → Prop} {l : List α} {m : List β} (h : List.Forall₂ r l m) {b : β}
    (hb : b ∈ m) : ∃ a ∈ l, r a b := exists_right_of_forall₂ (r := fun b a => r a b) h.flip hb

/-- What the relation keeps, the two lists have in common, entry by entry. -/
theorem map_eq_of_forall₂ {α β γ : Type} {r : α → β → Prop} {f : α → γ} {g : β → γ} (hr : ∀ a b, r a b → g b = f a)
    {l : List α} {m : List β} (h : List.Forall₂ r l m) : m.map g = l.map f := by
  induction h with
  | nil => rfl
  | cons hab _ ih => simp [hr _ _ hab, ih]

/-- Read with a default that the relation has to itself, the two lists stand in it at every place. -/
theorem getD_of_forall₂ {α : Type} {r : α → α → Prop} {l m : List α} (h : List.Forall₂ r l m) {d : α} (hd : r d d) (i : Nat) :
    r (l.getD i d) (m.getD i d) := by
  induction h generalizing i with
  | nil => simpa using hd
  | cons hab _ ih => cases i with
    | zero => simpa using hab
    | succ i => simpa using ih i

/-! ### The desks on air, desk by desk -/

/-- The languages of the own holders are the outputs of the desks on air. -/
theorem mem_ownHolders_output (s : State) : (ownHolders s).map (·.output) =
    s.booth.desks.filterMap (fun d => if d.state = .onAir then d.output else none) := by
  have key : ∀ (l : List Desk) (k : Nat), ((l.zipIdx k).filterMap (fun (d, e) =>
      match d.state, d.output with
      | .onAir, some l => some (⟨s.station.number, e, l, d.relay, d.onAirAge, d.selectionAge, 0, d.displaced⟩ : Holder)
      | _, _ => none)).map (·.output) = l.filterMap (fun d => if d.state = .onAir then d.output else none) := by
    intro l
    induction l with
    | nil => simp
    | cons d l ih =>
      intro k
      obtain ⟨_, _, _, _, _, _, output, _, _, _, state, _, _, _, _, _, _, _⟩ := d
      cases state <;> cases output <;> simpa using ih (k + 1)
  exact key _ 0

/-- A desk beyond the table is Off and has no language. -/
theorem deskOf_of_le {s : State} {e : Nat} (h : s.booth.desks.length ≤ e) : deskOf s e = Desk.initial := List.getD_eq_default _ _ h

theorem onAirFor_iff {s : State} {l e : Nat} :
    onAirFor s l e = true ↔ (deskOf s e).state = .onAir ∧ (deskOf s e).output = some l := by
  simp [onAirFor]

/-- A desk on air stands in the table. -/
theorem lt_of_onAir {s : State} {e : Nat} (h : (deskOf s e).state ≠ .off) : e < s.booth.desks.length := by
  by_contra hle
  rw [deskOf_of_le (not_lt.mp hle)] at h
  exact h rfl

/-- No two own desks are on air for one language, desk by desk. -/
theorem ownHolders_nodup_iff (s : State) : ((ownHolders s).map (·.output)).Nodup ↔
    ∀ e x l, e ≠ x → onAirFor s l e = true → onAirFor s l x = false := by
  rw [mem_ownHolders_output, List.Nodup, List.pairwise_filterMap, List.pairwise_iff_getElem]
  have at_ : ∀ (e : Nat) (h : e < s.booth.desks.length), deskOf s e = s.booth.desks[e] := fun e h => by
    simp [deskOf, List.getD_eq_getElem?_getD, h]
  have air : ∀ (e l : Nat) (h : e < s.booth.desks.length),
      (if s.booth.desks[e].state = .onAir then s.booth.desks[e].output else none) = some l ↔ onAirFor s l e = true := by
    intro e l h
    rw [onAirFor_iff, at_ e h]
    split <;> simp_all
  constructor
  · intro h e x l hne he
    by_contra hx
    have hx : onAirFor s l x = true := by simpa using hx
    have he' := lt_of_onAir (s := s) (e := e) (by simp [(onAirFor_iff.mp he).1])
    have hx' := lt_of_onAir (s := s) (e := x) (by simp [(onAirFor_iff.mp hx).1])
    rcases Nat.lt_or_gt_of_ne hne with hlt | hlt
    · exact h e x he' hx' hlt l ((air e l he').mpr he) l ((air x l hx').mpr hx) rfl
    · exact h x e hx' he' hlt l ((air x l hx').mpr hx) l ((air e l he').mpr he) rfl
  · rintro h e x he hx hlt l hl l' hl' rfl
    have := h e x l (Nat.ne_of_lt hlt) ((air e l he).mp hl)
    rw [(air x l hx).mp hl'] at this
    exact absurd this (by simp)

/-! ### The laws under a soft change -/

theorem SoftPlaces.mic {s t : State} (h : SoftPlaces s t) (law : MicLaw s) : MicLaw t := by
  intro m hm
  obtain ⟨m', hm', -, -, ok⟩ := exists_left_of_forall₂ h.mics hm
  exact ok (law m' hm')

theorem SoftPlaces.uplink {s t : State} (h : SoftPlaces s t) (law : UplinkLaw s) : UplinkLaw t := by
  obtain ⟨hlen, hseats, hmics, hbound, hused, hheld, hopen⟩ := law
  have placeSeats := map_eq_of_forall₂ (f := (·.seat)) (g := (·.seat)) (fun _ _ hr => hr.1) h.places
  have micSeats := map_eq_of_forall₂ (f := (·.seat)) (g := (·.seat)) (fun _ _ hr => hr.1) h.mics
  unfold UplinkLaw
  rw [h.uplinks, placeSeats, micSeats]
  refine ⟨hlen, hseats, hmics, fun c hc => ?_, fun i hi seat hseat => ?_, fun m hm => ?_, fun c hc hstage => ?_⟩
  · obtain ⟨c', hc', hs, hu, -⟩ := exists_left_of_forall₂ h.places hc
    rw [hs, hu]
    exact hbound c' hc'
  · obtain ⟨c', hc', hu, hs⟩ := hused i hi seat hseat
    obtain ⟨c, hc, hs', hu', -⟩ := exists_right_of_forall₂ h.places hc'
    exact ⟨c, hc, hu'.trans hu, hs'.trans hs⟩
  · obtain ⟨m', hm', hs, hu, -⟩ := exists_left_of_forall₂ h.mics hm
    obtain ⟨c', hc', hst, hcs, hcu⟩ := hheld m' hm'
    obtain ⟨c, hc, hs', hu', hst'⟩ := exists_right_of_forall₂ h.places hc'
    exact ⟨c, hc, hst'.mpr hst, by rw [hs', hcs, hs], by rw [hu', hcu, hu]⟩
  · obtain ⟨c', hc', hs, -, hst⟩ := exists_left_of_forall₂ h.places hc
    obtain ⟨m', hm', hms⟩ := hopen c' hc' (hst.mp hstage)
    obtain ⟨m, hm, hs', -⟩ := exists_right_of_forall₂ h.mics hm'
    exact ⟨m, hm, by rw [hs', hms, hs]⟩

theorem SoftLanes.lane {s t : State} (h : SoftLanes s t) (law : LaneLaw s) : LaneLaw t := by
  obtain ⟨hlanes, hlangs, hclaims, hheld, hclaimed⟩ := law
  have lanes := map_eq_of_forall₂ (f := (·.lane)) (g := (·.lane)) (fun _ _ hr => hr.1) h.holdings
  have langs := map_eq_of_forall₂ (f := (·.language)) (g := (·.language)) (fun _ _ hr => hr.2.1) h.holdings
  have claims := map_eq_of_forall₂ (f := (·.lane)) (g := (·.lane)) (fun _ _ hr => hr.1) h.lanes
  unfold LaneLaw
  rw [lanes, langs, claims]
  refine ⟨hlanes, hlangs, hclaims, fun x hx => ?_, fun c hc => ?_⟩
  · obtain ⟨y, hy, hl, hg, hh, hage⟩ := exists_left_of_forall₂ h.holdings hx
    obtain ⟨h16, h63, hle, c, hc, hcl, hcg, hst⟩ := hheld y hy
    obtain ⟨c', hc', hl', hg', hst'⟩ := exists_right_of_forall₂ h.lanes hc
    exact ⟨hl ▸ h16, hl ▸ h63, hage hle, c', hc', by rw [hl', hcl, hl], by rw [hg', hcg, hg], by rw [hh, hst, hst']⟩
  · obtain ⟨c', hc', hl, -⟩ := exists_left_of_forall₂ h.lanes hc
    obtain ⟨y, hy, hyl⟩ := hclaimed c' hc'
    obtain ⟨x, hx, hxl, -⟩ := exists_right_of_forall₂ h.holdings hy
    exact ⟨x, hx, by rw [hxl, hyl, hl]⟩

theorem SoftDesks.relay {s t : State} (h : SoftDesks s t) (law : RelayLaw s) : RelayLaw t := by
  intro d hd
  obtain ⟨d', hd', -, -, ok⟩ := exists_left_of_forall₂ h.desks hd
  exact ok (law d' hd')

/-- State and language of a desk under a soft change. -/
theorem SoftDesks.deskOf {s t : State} (h : SoftDesks s t) (e : Nat) :
    (deskOf t e).state = (deskOf s e).state ∧ (deskOf t e).output = (deskOf s e).output :=
  have r := getD_of_forall₂ h.desks (softDesk_refl Desk.initial) e
  ⟨r.1, r.2.1⟩

theorem SoftDesks.desk {s t : State} (h : SoftDesks s t) (law : DeskLaw s) : DeskLaw t := by
  obtain ⟨hone, hdesks, honAir, hintent, hhold, hlive, hwant⟩ := law
  have states := fun e => (h.deskOf e).1
  have outputs := fun e => (h.deskOf e).2
  have claims := map_eq_of_forall₂ (f := (·.desk)) (g := (·.desk)) (fun _ _ hr => hr.1) h.languages
  rw [ownHolders_nodup_iff] at hone
  unfold DeskLaw
  rw [ownHolders_nodup_iff, claims]
  refine ⟨?_, hdesks, fun e he hst => ?_, fun e he hst => ?_, fun c hc hst => ?_, fun c hc hst => ?_, fun w hw => ?_⟩
  · simpa only [onAirFor, states, outputs] using hone
  · obtain ⟨c, hc, hd, hs⟩ := honAir e he (states e ▸ hst)
    obtain ⟨c', hc', hd', -, hs', -⟩ := exists_right_of_forall₂ h.languages hc
    exact ⟨c', hc', hd'.trans hd, hs'.mpr hs⟩
  · obtain ⟨c, hc, hd, hs⟩ := hintent e he (states e ▸ hst)
    obtain ⟨c', hc', hd', -, hs', -⟩ := exists_right_of_forall₂ h.languages hc
    refine ⟨c', hc', hd'.trans hd, ?_⟩
    cases hstage : c'.stage with
    | intent m => rfl
    | hold => simp [hs'.mp hstage, isIntent] at hs
  · obtain ⟨c', hc', hd, hl, hs, -⟩ := exists_left_of_forall₂ h.languages hc
    rw [states, outputs, hd, hl]
    exact hhold c' hc' (hs.mp hst)
  · obtain ⟨c', hc', hd, hl, -, hs⟩ := exists_left_of_forall₂ h.languages hc
    rw [states, outputs, hd, hl]
    exact hlive c' hc' (hs hst)
  · rw [states, outputs]
    exact hwant w (h.languageWants w hw)

/-- The sizes of the tables, where uplink channels and desks keep their number. -/
theorem SoftSizes.size {s t : State} (h : SoftSizes s t) (uplinks : t.dlc.uplinks.length = s.dlc.uplinks.length)
    (desks : t.booth.desks.length = s.booth.desks.length) (law : SizeLaw s) : SizeLaw t := by
  obtain ⟨hpeers, hmarks, hseen, hwalls, hunits, huplinks, hdesks⟩ := law
  exact ⟨h.peers hpeers, h.marks hmarks, h.lastSeen hseen, h.walls hwalls, h.units hunits, uplinks ▸ huplinks,
    desks ▸ hdesks⟩

/-! ### What every change keeps -/

/-- A change from s to t that keeps every law of the tables, and clears no flag. -/
structure Keeps (s t : State) : Prop where
  size : SizeLaw s → SizeLaw t
  mic : MicLaw s → MicLaw t
  relay : RelayLaw s → RelayLaw t
  uplink : UplinkLaw s → UplinkLaw t
  lane : LaneLaw s → LaneLaw t
  desk : SizeLaw s → DeskLaw s → DeskLaw t
  flags : ∀ n, s.port.flags.getLsbD n = true → t.port.flags.getLsbD n = true

theorem Keeps.trans {s t u : State} (h : Keeps s t) (k : Keeps t u) : Keeps s u where
  size := k.size ∘ h.size
  mic := k.mic ∘ h.mic
  relay := k.relay ∘ h.relay
  uplink := k.uplink ∘ h.uplink
  lane := k.lane ∘ h.lane
  desk hs hd := k.desk (h.size hs) (h.desk hs hd)
  flags n hn := k.flags n (h.flags n hn)

/-- A soft change keeps the laws. -/
theorem Soft.keeps {s t : State} (h : Soft s t) : Keeps s t where
  size := h.toSoftSizes.size (by rw [h.uplinks]) h.desks.length_eq.symm
  mic := h.toSoftPlaces.mic
  relay := h.toSoftDesks.relay
  uplink := h.toSoftPlaces.uplink
  lane := h.toSoftLanes.lane
  desk _ := h.toSoftDesks.desk
  flags := h.flags

theorem Keeps.refl (s : State) : Keeps s s := (Soft.refl s).keeps

theorem Keeps.ite {s t u : State} (c : Prop) [Decidable c] (h : c → Keeps s t) (k : ¬ c → Keeps s u) :
    Keeps s (if c then t else u) := by
  split
  · next hc => exact h hc
  · next hc => exact k hc

/-- A change of the place claims, mics and uplink channels that keeps their laws. -/
theorem Keeps.of_places {s t : State} (hd : SoftDesks s t) (hl : SoftLanes s t) (hs : SoftSizes s t)
    (count : t.dlc.uplinks.length = s.dlc.uplinks.length) (mic : MicLaw s → MicLaw t) (uplink : UplinkLaw s → UplinkLaw t) :
    Keeps s t :=
  ⟨hs.size count hd.desks.length_eq.symm, mic, hd.relay, uplink, hl.lane, fun _ => hd.desk, hs.flags⟩

/-- A change of the language claims and desks that keeps their laws. -/
theorem Keeps.of_desks {s t : State} (hp : SoftPlaces s t) (hl : SoftLanes s t) (hs : SoftSizes s t)
    (count : t.booth.desks.length = s.booth.desks.length) (relay : RelayLaw s → RelayLaw t)
    (desk : SizeLaw s → DeskLaw s → DeskLaw t) : Keeps s t :=
  ⟨hs.size (by rw [hp.uplinks]) count, hp.mic, relay, hp.uplink, hl.lane, desk, hs.flags⟩

/-- A change of the lane claims and holdings that keeps their law. -/
theorem Keeps.of_lanes {s t : State} (hp : SoftPlaces s t) (hd : SoftDesks s t) (hs : SoftSizes s t)
    (lane : LaneLaw s → LaneLaw t) : Keeps s t :=
  ⟨hs.size (by rw [hp.uplinks]) hd.desks.length_eq.symm, hp.mic, hd.relay, hp.uplink, lane, fun _ => hd.desk, hs.flags⟩

/-- A fold over changes of one relation that holds to itself and chains. -/
theorem foldl_rel {β : Type} {r : State → State → Prop} (refl : ∀ s, r s s) (trans : ∀ s t u, r s t → r t u → r s u)
    {g : State → β → State} (h : ∀ s x, r s (g s x)) (l : List β) (s : State) : r s (l.foldl g s) := by
  induction l generalizing s with
  | nil => exact refl s
  | cons x l ih => exact trans _ _ _ (h s x) (ih (g s x))

/-- A fold in which every entry finds its condition met: the condition is met for each at the start, and the work on one
leaves it met for those after it. -/
theorem foldl_guarded {β : Type} {P : State → Prop} {Q : State → β → Prop} {R : β → β → Prop} {g : State → β → State}
    (work : ∀ s x, P s → Q s x → P (g s x))
    (stays : ∀ s x y, P s → Q s x → R x y → Q s y → Q (g s x) y) :
    ∀ (l : List β), l.Pairwise R → ∀ s, P s → (∀ x ∈ l, Q s x) → P (l.foldl g s)
  | [], _, _, hP, _ => hP
  | x :: l, hl, s, hP, hQ => by
    obtain ⟨hx, hl⟩ := List.pairwise_cons.mp hl
    have hnow := hQ x List.mem_cons_self
    exact foldl_guarded work stays l hl (g s x) (work s x hP hnow) fun y hy =>
      stays s x y hP hnow (hx y hy) (hQ y (List.mem_cons_of_mem _ hy))

end Sys2Proof.Machine
end

section
/-! SUPPORT. The lane claims and holdings: what each operation that takes one in or out does to them, and that it keeps their
law (R145). -/

namespace Sys2Proof.Machine

/-! ### A lane goes -/

/-- From s to t, lane n goes with its claim and its holding, and no other does. -/
def LaneGone (n : Nat) (s t : State) : Prop :=
  t.claims.lanes = s.claims.lanes.filter (fun c => c.lane != n) ∧
  t.lanes.holdings = s.lanes.holdings.filter (fun h => h.lane != n)

theorem laneLaw_of_gone {n : Nat} {s t : State} (gone : LaneGone n s t) (law : LaneLaw s) : LaneLaw t := by
  obtain ⟨hclaims, hholdings⟩ := gone
  obtain ⟨hlanes, hlangs, hdistinct, hheld, hclaimed⟩ := law
  unfold LaneLaw
  rw [hclaims, hholdings]
  refine ⟨hlanes.sublist (List.filter_sublist.map _), hlangs.sublist (List.filter_sublist.map _),
    hdistinct.sublist (List.filter_sublist.map _), fun h hh => ?_, fun c hc => ?_⟩
  · obtain ⟨hmem, hne⟩ := List.mem_filter.mp hh
    obtain ⟨h16, h63, hage, c, hc, hcl, hrest⟩ := hheld h hmem
    exact ⟨h16, h63, hage, c, List.mem_filter.mpr ⟨hc, by rw [hcl]; exact hne⟩, hcl, hrest⟩
  · obtain ⟨hmem, hne⟩ := List.mem_filter.mp hc
    obtain ⟨h, hh, hl⟩ := hclaimed c hmem
    exact ⟨h, List.mem_filter.mpr ⟨hh, by rw [hl]; exact hne⟩, hl⟩

/-- An Intent of a lane goes. -/
theorem dropLaneIntent_gone {s : State} {c : LaneClaim} (law : LaneLaw s) (hc : c ∈ s.claims.lanes)
    (hi : isIntent c.stage = true) : LaneGone c.lane s (dropLaneIntent c s) := by
  obtain ⟨-, -, hdistinct, -⟩ := law
  refine ⟨List.filter_congr fun x hx => ?_, rfl⟩
  by_cases hl : x.lane = c.lane
  · have : x = c := List.inj_on_of_nodup_map hdistinct hx hc hl
    simp [this, hi]
  · simp [bne, beq_false_of_ne hl]

/-- A Held lane goes with its Hold. -/
theorem loseLane_gone {s : State} {h : Holding} (law : LaneLaw s) (hh : h ∈ s.lanes.holdings) (held : h.held = true) :
    LaneGone h.lane s (loseLane h.lane s) := by
  obtain ⟨hlanes, -, hdistinct, hheld, -⟩ := law
  obtain ⟨-, -, -, c, hc, hcl, -, hst⟩ := hheld h hh
  refine ⟨List.filter_congr fun x hx => ?_, rfl⟩
  by_cases hl : x.lane = h.lane
  · have : x = c := List.inj_on_of_nodup_map hdistinct hx hc (hl.trans hcl.symm)
    simp [this, hcl, hst.mp held]
  · simp [bne, beq_false_of_ne hl]

/-- Ending the Hold and dropping the holding go in either order. -/
theorem endLaneHold_dropHolding (n : Nat) (s : State) : endLaneHold n (dropHolding n s) = loseLane n s := rfl

/-! ### Folds over lanes that go -/

/-- The Intents of a list, of lanes named once, go one by one. -/
theorem laneLaw_dropLaneIntents {s : State} (law : LaneLaw s) {l : List LaneClaim} (hsub : l.Sublist s.claims.lanes)
    (hi : ∀ c ∈ l, isIntent c.stage = true) : LaneLaw (l.foldl (fun s' c => dropLaneIntent c s') s) := by
  have distinct : l.Pairwise (fun a b => a.lane ≠ b.lane) := List.pairwise_map.mp (law.2.2.1.sublist (hsub.map _))
  refine foldl_guarded (Q := fun u c => c ∈ u.claims.lanes ∧ isIntent c.stage = true)
    (R := fun (a b : LaneClaim) => a.lane ≠ b.lane)
    (fun u c hu hc => laneLaw_of_gone (dropLaneIntent_gone hu hc.1 hc.2) hu) (fun u c d hu hc hne hd => ?_) l distinct s law
    (fun c hc => ⟨hsub.subset hc, hi c hc⟩)
  rw [(dropLaneIntent_gone hu hc.1 hc.2).1]
  exact ⟨List.mem_filter.mpr ⟨hd.1, by simpa using hne.symm⟩, hd.2⟩

/-- The Held lanes of a list, each named once, go one by one. -/
theorem laneLaw_loseLanes {s : State} (law : LaneLaw s) {l : List Nat} (hl : l.Nodup)
    (hheld : ∀ n ∈ l, ∃ h ∈ s.lanes.holdings, h.lane = n ∧ h.held = true) :
    LaneLaw (l.foldl (fun s' n => loseLane n s') s) := by
  refine foldl_guarded (Q := fun u n => ∃ h ∈ u.lanes.holdings, h.lane = n ∧ h.held = true) (R := fun (a b : Nat) => a ≠ b)
    (fun u n hu => ?_) (fun u n m hu => ?_) l hl s law hheld
  · rintro ⟨h, hh, rfl, held⟩
    exact laneLaw_of_gone (loseLane_gone hu hh held) hu
  · rintro ⟨h, hh, rfl, held⟩ hne ⟨k, hk, rfl, kheld⟩
    rw [(loseLane_gone hu hh held).2]
    exact ⟨k, List.mem_filter.mpr ⟨hk, by simpa using hne.symm⟩, rfl, kheld⟩

/-- The lanes of some of the Held holdings, named once. -/
theorem held_lanes_spec {s : State} (law : LaneLaw s) (p : Holding → Bool) (hp : ∀ h, p h = true → h.held = true) :
    ((s.lanes.holdings.filter p).map (·.lane)).Nodup ∧
    ∀ n ∈ (s.lanes.holdings.filter p).map (·.lane), ∃ h ∈ s.lanes.holdings, h.lane = n ∧ h.held = true := by
  refine ⟨law.1.sublist (List.filter_sublist.map _), fun n hn => ?_⟩
  obtain ⟨h, hh, rfl⟩ := List.mem_map.mp hn
  obtain ⟨hmem, hph⟩ := List.mem_filter.mp hh
  exact ⟨h, hmem, rfl, hp h hph⟩

theorem keeps_loseLanes (l : List Nat) (s : State)
    (lane : LaneLaw s → LaneLaw (l.foldl (fun s' n => loseLane n s') s)) :
    Keeps s (l.foldl (fun s' n => loseLane n s') s) := .of_lanes (.same (by simp)) (.same (by simp)) (.same (by simp)) lane

theorem keeps_releaseLanes (marked : List Nat) (s : State) : Keeps s (releaseLanes marked s) :=
  keeps_loseLanes _ s fun law =>
    have spec := held_lanes_spec law (fun h => h.held && h.release && marked.contains h.lane)
      (fun h hh => by simp only [Bool.and_eq_true] at hh; exact hh.1.1)
    laneLaw_loseLanes law spec.1 spec.2

theorem keeps_laneConflictStep (s : State) : Keeps s (laneConflictStep s) := by
  have byLane : laneConflictStep s =
      ((s.lanes.holdings.filter (fun h => h.held && !keepsLane s h.lane h.age)).map (·.lane)).foldl
        (fun s' n => loseLane n s') s := by rw [List.foldl_map]; rfl
  rw [byLane]
  refine keeps_loseLanes _ s fun law => ?_
  have spec := held_lanes_spec law (fun h => h.held && !keepsLane s h.lane h.age)
    (fun h hh => by simp only [Bool.and_eq_true] at hh; exact hh.1)
  exact laneLaw_loseLanes law spec.1 spec.2

theorem keeps_releaseAllLanes (s : State) : Keeps s (releaseAllLanes s) := by
  have byLane : (heldLanes s).map (·.lane) = (s.lanes.holdings.filter (·.held)).map (·.lane) := by
    simp [heldLanes, Function.comp_def]
  have lost : Keeps s (((heldLanes s).map (·.lane)).foldl (fun s' n => loseLane n s') s) := by
    rw [byLane]
    exact keeps_loseLanes _ s fun law =>
      have spec := held_lanes_spec law (·.held) (fun _ hh => hh)
      laneLaw_loseLanes law spec.1 spec.2
  have short : ∀ u : State, Soft u { u with lanes := { u.lanes with shortage := [] } } := fun u => .same (by simp)
  exact lost.trans (short _).keeps

theorem keeps_dropLaneIntents (s : State) (p : LaneClaim → Bool) (hp : ∀ c, p c = true → isIntent c.stage = true) :
    Keeps s ((s.claims.lanes.filter p).foldl (fun s' c => dropLaneIntent c s') s) :=
  .of_lanes (.same (by simp)) (.same (by simp)) (.same (by simp)) fun law =>
    laneLaw_dropLaneIntents law List.filter_sublist fun c hc => hp c (List.mem_filter.mp hc).2

/-! ### A lane is won -/

/-- The holdings after the search for lane n is won: Held there with age 0. -/
def heldAt (n : Nat) (h : Holding) : Holding := if h.lane == n then { h with held := true, age := 0 } else h

/-- The lane claims after the Intent of lane n is won. -/
def holdAt (n : Nat) (c : LaneClaim) : LaneClaim := if c.lane == n then { c with stage := .hold } else c

/-- What a won settlement leaves of claims and holdings. -/
theorem settleLane_of_wins {s : State} {c : LaneClaim} (h : laneWins s c = true) :
    (settleLane s c).claims.lanes = s.claims.lanes.map (holdAt c.lane) ∧
    (settleLane s c).lanes.holdings = s.lanes.holdings.map (heldAt c.lane) := by
  rw [settleLane, if_pos h]
  exact ⟨rfl, rfl⟩

theorem settleLane_of_loses {s : State} {c : LaneClaim} (h : laneWins s c = false) : settleLane s c = dropLaneIntent c s := by
  rw [settleLane, if_neg (by simp [h])]

theorem heldAt_fields (n : Nat) (h : Holding) : (heldAt n h).lane = h.lane ∧ (heldAt n h).language = h.language ∧
    (h.age ≤ 65535 → (heldAt n h).age ≤ 65535) ∧ (h.lane ≠ n → (heldAt n h).held = h.held) ∧
    (h.lane = n → (heldAt n h).held = true) := by
  unfold heldAt
  split <;> simp_all

theorem holdAt_fields (n : Nat) (c : LaneClaim) : (holdAt n c).lane = c.lane ∧ (holdAt n c).language = c.language ∧
    (c.lane ≠ n → (holdAt n c).stage = c.stage) ∧ (c.lane = n → (holdAt n c).stage = .hold) := by
  unfold holdAt
  split <;> simp_all

theorem laneLaw_won {n : Nat} {s t : State} (hc : t.claims.lanes = s.claims.lanes.map (holdAt n))
    (hh : t.lanes.holdings = s.lanes.holdings.map (heldAt n)) (law : LaneLaw s) : LaneLaw t := by
  obtain ⟨hlanes, hlangs, hdistinct, hheld, hclaimed⟩ := law
  have lanes : (s.lanes.holdings.map (heldAt n)).map (·.lane) = s.lanes.holdings.map (·.lane) := by
    simp [Function.comp_def, (heldAt_fields n _).1]
  have langs : (s.lanes.holdings.map (heldAt n)).map (·.language) = s.lanes.holdings.map (·.language) := by
    simp [Function.comp_def, (heldAt_fields n _).2.1]
  have claims : (s.claims.lanes.map (holdAt n)).map (·.lane) = s.claims.lanes.map (·.lane) := by
    simp [Function.comp_def, (holdAt_fields n _).1]
  unfold LaneLaw
  rw [hc, hh, lanes, langs, claims]
  refine ⟨hlanes, hlangs, hdistinct, fun x hx => ?_, fun x hx => ?_⟩
  · obtain ⟨h, hmem, rfl⟩ := List.mem_map.mp hx
    obtain ⟨h16, h63, hage, c, hc, hcl, hcg, hst⟩ := hheld h hmem
    obtain ⟨el, eg, eage, estay, ewon⟩ := heldAt_fields n h
    obtain ⟨cl, cg, cstay, cwon⟩ := holdAt_fields n c
    refine ⟨el ▸ h16, el ▸ h63, eage hage, _, List.mem_map_of_mem hc, by rw [cl, el, hcl], by rw [cg, eg, hcg], ?_⟩
    by_cases hn : h.lane = n
    · rw [ewon hn, cwon (hcl.trans hn)]
      simp
    · rw [estay hn, cstay (hcl ▸ hn)]
      exact hst
  · obtain ⟨c, hmem, rfl⟩ := List.mem_map.mp hx
    obtain ⟨h, hh, hl⟩ := hclaimed c hmem
    exact ⟨_, List.mem_map_of_mem hh, by rw [(heldAt_fields n h).1, (holdAt_fields n c).1, hl]⟩

/-- The settlement of a lane Intent keeps the law. -/
theorem laneLaw_settleLane {s : State} {c : LaneClaim} (law : LaneLaw s) (hc : c ∈ s.claims.lanes)
    (hi : isIntent c.stage = true) : LaneLaw (settleLane s c) := by
  cases h : laneWins s c with
  | true => exact laneLaw_won (settleLane_of_wins h).1 (settleLane_of_wins h).2 law
  | false =>
    rw [settleLane_of_loses h]
    exact laneLaw_of_gone (dropLaneIntent_gone law hc hi) law

/-- The settlement of a lane Intent leaves the claims of the other lanes. -/
theorem mem_lanes_settleLane {s : State} {c d : LaneClaim} (law : LaneLaw s) (hc : c ∈ s.claims.lanes)
    (hi : isIntent c.stage = true) (hne : c.lane ≠ d.lane) (hd : d ∈ s.claims.lanes) : d ∈ (settleLane s c).claims.lanes := by
  cases h : laneWins s c with
  | true =>
    rw [(settleLane_of_wins h).1]
    refine List.mem_map.mpr ⟨d, hd, ?_⟩
    rw [holdAt, if_neg (by simpa using hne.symm)]
  | false =>
    rw [settleLane_of_loses h, (dropLaneIntent_gone law hc hi).1]
    exact List.mem_filter.mpr ⟨hd, by simpa using hne.symm⟩

/-- The settle step of the lanes: the Intents in ascending order. -/
def settleLanes (s : State) : State :=
  (sortBy (fun a b => a.lane < b.lane) (s.claims.lanes.filter (fun c => isIntent c.stage))).foldl settleLane s

theorem keeps_settleLanes (s : State) : Keeps s (settleLanes s) := by
  refine .of_lanes (.same (by simp [settleLanes])) (.same (by simp [settleLanes])) (.same (by simp [settleLanes]))
    fun law => ?_
  have sorted := sortBy_perm (fun (a b : LaneClaim) => decide (a.lane < b.lane))
    (s.claims.lanes.filter (fun c => isIntent c.stage))
  have distinct : (sortBy (fun (a b : LaneClaim) => decide (a.lane < b.lane))
      (s.claims.lanes.filter (fun c => isIntent c.stage))).Pairwise (fun a b => a.lane ≠ b.lane) :=
    List.pairwise_map.mp ((sorted.map _).nodup_iff.mpr (law.2.2.1.sublist (List.filter_sublist.map _)))
  refine foldl_guarded (Q := fun u c => c ∈ u.claims.lanes ∧ isIntent c.stage = true)
    (R := fun (a b : LaneClaim) => a.lane ≠ b.lane) (fun u c hu hc => laneLaw_settleLane hu hc.1 hc.2)
    (fun u c d hu hc hne hd => ⟨mem_lanes_settleLane hu hc.1 hc.2 hne hd.1, hd.2⟩) _ distinct s law fun c hc => ?_
  exact List.mem_filter.mp (sorted.mem_iff.mp hc)

/-! ### A lane is raised -/

theorem laneLaw_raised {n l : Nat} {s t : State} (hc : t.claims.lanes = s.claims.lanes ++ [⟨.intent false, n, l⟩])
    (hh : t.lanes.holdings = insertBy (fun a b => a.lane < b.lane) ⟨n, l, false, 0, false⟩ s.lanes.holdings)
    (hn : 16 ≤ n ∧ n ≤ 63) (hfree : ∀ h ∈ s.lanes.holdings, h.lane ≠ n) (hunmet : ∀ h ∈ s.lanes.holdings, h.language ≠ l)
    (law : LaneLaw s) : LaneLaw t := by
  obtain ⟨hlanes, hlangs, hdistinct, hheld, hclaimed⟩ := law
  have perm := insertBy_perm (fun (a b : Holding) => decide (a.lane < b.lane)) ⟨n, l, false, 0, false⟩ s.lanes.holdings
  unfold LaneLaw
  rw [hc, hh]
  refine ⟨?_, ?_, ?_, fun h hmem => ?_, fun c hmem => ?_⟩
  · rw [(perm.map _).nodup_iff]
    simpa using ⟨hfree, hlanes⟩
  · rw [(perm.map _).nodup_iff]
    simpa using ⟨hunmet, hlangs⟩
  · rw [List.map_append, List.nodup_append]
    refine ⟨hdistinct, by simp, ?_⟩
    rintro a ha b hb rfl
    obtain ⟨c, hcm, rfl⟩ := List.mem_map.mp ha
    obtain ⟨h, hm, hl⟩ := hclaimed c hcm
    exact hfree h hm (hl.trans (by simpa using hb))
  · rcases List.mem_cons.mp (perm.mem_iff.mp hmem) with rfl | hmem
    · exact ⟨hn.1, hn.2, Nat.zero_le _, _, List.mem_append_right _ List.mem_cons_self, rfl, rfl, by simp⟩
    · obtain ⟨h16, h63, hage, c, hcm, hrest⟩ := hheld h hmem
      exact ⟨h16, h63, hage, c, List.mem_append_left _ hcm, hrest⟩
  · rcases List.mem_append.mp hmem with hmem | hmem
    · obtain ⟨h, hm, hl⟩ := hclaimed c hmem
      exact ⟨h, perm.mem_iff.mpr (List.mem_cons_of_mem _ hm), hl⟩
    · obtain rfl := List.mem_singleton.mp hmem
      exact ⟨_, perm.mem_iff.mpr List.mem_cons_self, rfl⟩

/-- A lane that the search finds is named by no holding. -/
theorem lowestFreeLane_unheld {s : State} {n : Nat} (h : lowestFreeLane s = some n) : ∀ x ∈ s.lanes.holdings, x.lane ≠ n := by
  have busy := (lowestFreeLane_free s n h).2.2
  simp only [laneBusy, Bool.or_eq_false_iff, List.any_eq_false] at busy
  intro x hx
  simpa using busy.2 x hx

theorem laneLaw_raiseLane {s : State} {l : Nat} (law : LaneLaw s) (hunmet : ∀ h ∈ s.lanes.holdings, h.language ≠ l) :
    LaneLaw (raiseLane s l) := by
  unfold raiseLane
  split
  · next n hn =>
    have spec := lowestFreeLane_free s n hn
    exact laneLaw_raised rfl rfl ⟨spec.1, spec.2.1⟩ (lowestFreeLane_unheld hn) hunmet law
  · exact law

/-- The search for one language adds no holding of another. -/
theorem raiseLane_language {s : State} {l k : Nat} (hne : l ≠ k) (hunmet : ∀ h ∈ s.lanes.holdings, h.language ≠ k) :
    ∀ h ∈ (raiseLane s l).lanes.holdings, h.language ≠ k := by
  unfold raiseLane
  split
  · next n hn =>
    intro h hmem
    rcases List.mem_cons.mp ((insertBy_perm _ _ _).mem_iff.mp hmem) with rfl | hmem
    · exact hne
    · exact hunmet h hmem
  · exact hunmet

theorem softSizes_raiseLane (s : State) (l : Nat) : SoftSizes s (raiseLane s l) := by
  unfold raiseLane
  split
  · exact .same (by simp)
  · exact ⟨by simp, by simp, by simp, by simp, by simp, fun n hn => (raise_getLsbD _ _ n).mpr (.inl hn)⟩

/-- The lane searches at the end of the raise step. -/
def raiseLanes (s : State) : State := (unmetLanguages s).foldl raiseLane s

theorem unmetLanguages_spec (s : State) : (unmetLanguages s).Nodup ∧
    ∀ l ∈ unmetLanguages s, ∀ h ∈ s.lanes.holdings, h.language ≠ l := by
  refine ⟨(List.nodup_range' (s := 1) (n := 31)).filter _, fun l hl h hh => ?_⟩
  have := (List.mem_filter.mp hl).2
  simp only [Bool.and_eq_true, Bool.not_eq_true', List.any_eq_false] at this
  simpa using this.2 h hh

theorem keeps_raiseLanes (s : State) : Keeps s (raiseLanes s) := by
  refine .of_lanes (.same (by simp [raiseLanes])) (.same (by simp [raiseLanes]))
    (foldl_rel (r := SoftSizes) (fun _ => .same (by simp)) (fun _ _ _ => SoftSizes.trans) softSizes_raiseLane _ s) fun law => ?_
  obtain ⟨hnodup, hunmet⟩ := unmetLanguages_spec s
  exact foldl_guarded (Q := fun u l => ∀ h ∈ u.lanes.holdings, h.language ≠ l) (R := fun (a b : Nat) => a ≠ b)
    (fun u l hu hl => laneLaw_raiseLane hu hl) (fun u l k _ _ hne hk => raiseLane_language hne hk) _ hnodup s law hunmet

end Sys2Proof.Machine
end

section
/-! SUPPORT. The desks and the language claims: what each operation that moves a desk or takes a claim in or out does to them,
and that it keeps their laws (R37, R128, R130, R134). -/

namespace Sys2Proof.Machine

/-! ### The agreement of desks and claims, for every desk number -/

/-- The agreement of desks, language claims and language wants, with no bound on the desk number: past the table there is a
desk that is Off. -/
structure DesksAgree (s : State) : Prop where
  one : ∀ e x l, e ≠ x → onAirFor s l e = true → onAirFor s l x = false
  distinct : (s.claims.languages.map (·.desk)).Nodup
  onAir : ∀ e, (deskOf s e).state = .onAir → ∃ c ∈ s.claims.languages, c.desk = e ∧ c.stage = .hold
  intent : ∀ e, (deskOf s e).state = .intent → ∃ c ∈ s.claims.languages, c.desk = e ∧ isIntent c.stage = true
  hold : ∀ c ∈ s.claims.languages, c.stage = .hold →
    (deskOf s c.desk).state = .onAir ∧ (deskOf s c.desk).output = some c.language
  live : ∀ c ∈ s.claims.languages, isLiveIntent c.stage = true →
    (deskOf s c.desk).state = .intent ∧ (deskOf s c.desk).output = some c.language
  want : ∀ w ∈ s.claims.languageWants, (deskOf s w.desk).state = .off ∧ (deskOf s w.desk).output = some w.language

/-- Four desks, and their law. -/
def DeskTable (s : State) : Prop := s.booth.desks.length = 4 ∧ DeskLaw s

theorem DeskTable.agree {s : State} (h : DeskTable s) : DesksAgree s := by
  obtain ⟨hlen, hone, hdistinct, honAir, hintent, hhold, hlive, hwant⟩ := h
  have bound : ∀ e, (deskOf s e).state ≠ .off → e < 4 := fun e he => hlen ▸ lt_of_onAir he
  exact ⟨(ownHolders_nodup_iff s).mp hone, hdistinct, fun e he => honAir e (bound e (by simp [he])) he,
    fun e he => hintent e (bound e (by simp [he])) he, hhold, hlive, hwant⟩

theorem DesksAgree.table {s : State} (h : DesksAgree s) (hlen : s.booth.desks.length = 4) : DeskTable s :=
  ⟨hlen, (ownHolders_nodup_iff s).mpr h.one, h.distinct, fun e _ => h.onAir e, fun e _ => h.intent e, h.hold, h.live, h.want⟩

theorem SoftDesks.table {s t : State} (h : SoftDesks s t) (table : DeskTable s) : DeskTable t :=
  ⟨h.desks.length_eq ▸ table.1, h.desk table.2⟩

/-- A desk that is not in Intent has no live Intent. -/
theorem DesksAgree.marked {s : State} (h : DesksAgree s) {c : LanguageClaim} (hc : c ∈ s.claims.languages)
    (hne : (deskOf s c.desk).state ≠ .intent) (hst : c.stage ≠ .hold) : c.stage = .intent true := by
  cases hstage : c.stage with
  | hold => exact absurd hstage hst
  | intent m =>
    cases m with
    | true => rfl
    | false => exact absurd (h.live c hc (by simp [hstage, isLiveIntent])).1 hne

/-- Two claims of one desk are one claim. -/
theorem DesksAgree.eq_of_desk {s : State} (h : DesksAgree s) {c d : LanguageClaim} (hc : c ∈ s.claims.languages)
    (hd : d ∈ s.claims.languages) (e : c.desk = d.desk) : c = d := List.inj_on_of_nodup_map h.distinct hc hd e

/-! ### A desk goes Off -/

/-- From s to t, desk e goes or stays Off, keeps at most claims that are marked for withdrawal, and wants its own language at
most; nothing else moves. -/
structure DeskLeaves (e : Nat) (s t : State) : Prop where
  others : ∀ x, x ≠ e → (deskOf t x).state = (deskOf s x).state ∧ (deskOf t x).output = (deskOf s x).output
  off : (deskOf t e).state = .off
  claims : ∀ c : LanguageClaim, c.desk ≠ e → (c ∈ t.claims.languages ↔ c ∈ s.claims.languages)
  marked : ∀ c ∈ t.claims.languages, c.desk = e → c.stage = .intent true
  distinct : (t.claims.languages.map (·.desk)).Nodup
  wants : ∀ w ∈ t.claims.languageWants, w ∈ s.claims.languageWants ∧ (w.desk = e → (deskOf t e).output = some w.language)
  count : t.booth.desks.length = s.booth.desks.length

theorem DeskLeaves.table {e : Nat} {s t : State} (h : DeskLeaves e s t) (table : DeskTable s) : DeskTable t := by
  have old := table.agree
  have air : ∀ x l, onAirFor t l x = true → x ≠ e ∧ onAirFor s l x = true := by
    intro x l hx
    have hne : x ≠ e := by
      rintro rfl
      simp [onAirFor, h.off] at hx
    simp only [onAirFor, (h.others x hne).1, (h.others x hne).2] at hx
    exact ⟨hne, hx⟩
  have away : ∀ x, (deskOf t x).state ≠ .off → x ≠ e := by
    rintro x hx rfl
    exact hx h.off
  refine DesksAgree.table ⟨fun x y l hne hx => ?_, h.distinct, fun x hx => ?_, fun x hx => ?_, fun c hc hst => ?_,
    fun c hc hst => ?_, fun w hw => ?_⟩ (h.count ▸ table.1)
  · by_contra hy
    obtain ⟨-, hx'⟩ := air x l hx
    obtain ⟨-, hy'⟩ := air y l (by simpa using hy)
    rw [old.one x y l hne hx'] at hy'
    exact absurd hy' (by simp)
  · have hne := away x (by simp [hx])
    obtain ⟨c, hc, hd, hst⟩ := old.onAir x ((h.others x hne).1 ▸ hx)
    exact ⟨c, (h.claims c (hd ▸ hne)).mpr hc, hd, hst⟩
  · have hne := away x (by simp [hx])
    obtain ⟨c, hc, hd, hst⟩ := old.intent x ((h.others x hne).1 ▸ hx)
    exact ⟨c, (h.claims c (hd ▸ hne)).mpr hc, hd, hst⟩
  · have hne : c.desk ≠ e := fun hd => by simp [h.marked c hc hd] at hst
    rw [(h.others _ hne).1, (h.others _ hne).2]
    exact old.hold c ((h.claims c hne).mp hc) hst
  · have hne : c.desk ≠ e := fun hd => by simp [h.marked c hc hd, isLiveIntent] at hst
    rw [(h.others _ hne).1, (h.others _ hne).2]
    exact old.live c ((h.claims c hne).mp hc) hst
  · obtain ⟨hmem, hout⟩ := h.wants w hw
    by_cases hd : w.desk = e
    · rw [hd]
      exact ⟨h.off, hout hd⟩
    · rw [(h.others _ hd).1, (h.others _ hd).2]
      exact old.want w hmem

/-! ### Reading a desk after a change -/

/-- A change that leaves a desk without an entry as it is can be read anywhere. -/
theorem deskOf_modifyDesk_of_initial {f : Desk → Desk} (hf : f Desk.initial = Desk.initial) (e x : Nat) (s : State) :
    deskOf (modifyDesk e f s) x = if x = e then f (deskOf s x) else deskOf s x := by
  by_cases he : e < s.booth.desks.length
  · rw [deskOf_modifyDesk _ _ _ _ he]
    split
    · next h => rw [h]
    · rfl
  · have same : s.booth.desks.modify e f = s.booth.desks := List.modify_eq_self (not_lt.mp he)
    have : deskOf (modifyDesk e f s) x = deskOf s x := by simp [deskOf, modifyDesk, same]
    rw [this]
    split
    · next h => rw [h, deskOf_of_le (not_lt.mp he), hf]
    · rfl

theorem deskOf_setDeskOff (e x : Nat) (s : State) :
    deskOf (setDeskOff e s) x = if x = e then { deskOf s x with state := .off } else deskOf s x :=
  deskOf_modifyDesk_of_initial rfl e x s

theorem deskOf_takeDeskOffAir (e x : Nat) (s : State) :
    deskOf (takeDeskOffAir e s) x = if x = e then { deskOf s x with state := .off } else deskOf s x :=
  deskOf_setDeskOff e x s

theorem deskOf_deskWithdrawn (e x : Nat) (s : State) : deskOf (deskWithdrawn e s) x =
    if x = e ∧ (deskOf s x).state = .intent then { deskOf s x with state := .off } else deskOf s x := by
  rw [deskWithdrawn, deskOf_modifyDesk_of_initial rfl]
  by_cases hx : x = e <;> simp [hx]

/-! ### Off the air, back from Intent, standing down -/

theorem takeDeskOffAir_leaves {e : Nat} {s : State} (h : DeskTable s) (hair : (deskOf s e).state = .onAir) :
    DeskLeaves e s (takeDeskOffAir e s) where
  others x hx := by simp [deskOf_takeDeskOffAir, hx]
  off := by simp [deskOf_takeDeskOffAir]
  claims c hc := by simp [takeDeskOffAir, setDeskOff, hc]
  marked c hc hd := by
    simp only [takeDeskOffAir, endDeskHold_languages, List.mem_filter, setDeskOff, modifyDesk_keeps] at hc
    refine h.agree.marked hc.1 (by simp [hd, hair]) fun hst => ?_
    simp [hd, hst] at hc
  distinct := by
    simpa [takeDeskOffAir, setDeskOff] using h.agree.distinct.sublist (List.filter_sublist.map _)
  wants w hw := by
    have hw : w ∈ s.claims.languageWants := by simpa using hw
    refine ⟨hw, fun hd => ?_⟩
    have := (h.agree.want w hw).1
    simp [hd, hair] at this
  count := by simp [takeDeskOffAir, setDeskOff]

theorem deskTable_standAside {e : Nat} {s : State} (h : DeskTable s) (hair : (deskOf s e).state = .onAir) :
    DeskTable (standAside e s) :=
  (soft_engageDesk e _).toSoftDesks.table ((takeDeskOffAir_leaves h hair).table h)

/-- A desk in Intent, or with a pending want, that takes its claim back. -/
theorem withdrawDesk_leaves {e : Nat} {s : State} (h : DeskTable s) (hnot : (deskOf s e).state ≠ .onAir) :
    DeskLeaves e s (withdrawDesk e (setDeskOff e s)) where
  others x hx := by
    have : deskOf (withdrawDesk e (setDeskOff e s)) x = deskOf (setDeskOff e s) x := rfl
    simp [this, deskOf_setDeskOff, hx]
  off := by
    have : deskOf (withdrawDesk e (setDeskOff e s)) e = deskOf (setDeskOff e s) e := rfl
    simp [this, deskOf_setDeskOff]
  claims c hc := by
    simp only [withdrawDesk_languages, setDeskOff, modifyDesk_keeps, List.mem_map]
    constructor
    · rintro ⟨d, hd, rfl⟩
      by_cases hde : d.desk = e
      · simp [hde] at hc
      · simpa [hde] using hd
    · intro hmem
      exact ⟨c, hmem, by simp [hc]⟩
  marked c hc hd := by
    simp only [withdrawDesk_languages, setDeskOff, modifyDesk_keeps, List.mem_map] at hc
    obtain ⟨d, hmem, rfl⟩ := hc
    by_cases hde : d.desk = e
    · simp only [hde, beq_self_eq_true, if_true]
      cases hst : d.stage with
      | intent m => rfl
      | hold => exact absurd (hde ▸ (h.agree.hold d hmem hst).1) hnot
    · simp [hde] at hd
  distinct := by
    have : (withdrawDesk e (setDeskOff e s)).claims.languages.map (·.desk) = s.claims.languages.map (·.desk) := by
      simp only [withdrawDesk_languages, setDeskOff, modifyDesk_keeps, List.map_map]
      exact List.map_congr_left fun c _ => by simp only [Function.comp]; split <;> rfl
    rw [this]
    exact h.agree.distinct
  wants w hw := by
    simp only [withdrawDesk_languageWants, setDeskOff, modifyDesk_keeps, List.mem_filter, bne_iff_ne] at hw
    exact ⟨hw.1, fun hd => absurd hd hw.2⟩
  count := by simp [setDeskOff]

/-- A desk that is Off, with no claim but what is marked for withdrawal, and with no want. -/
structure DeskIdle (s : State) (e : Nat) : Prop where
  off : (deskOf s e).state = .off
  marked : ∀ c ∈ s.claims.languages, c.desk = e → c.stage = .intent true
  wants : ∀ w ∈ s.claims.languageWants, w.desk ≠ e

/-- Where desk e is Off already, setting it Off changes nothing. -/
theorem setDeskOff_of_off {e : Nat} {s : State} (h : (deskOf s e).state = .off) : setDeskOff e s = s := by
  have asOff : ∀ d : Desk, d.state = .off → { d with state := .off } = d := by
    rintro ⟨_, _, _, _, _, _, _, _, _, _, _, _, _, _, _, _, _, _⟩ rfl
    rfl
  have : s.booth.desks.modify e (fun d => { d with state := .off }) = s.booth.desks := by
    refine List.ext_getElem (by simp) fun i h1 h2 => ?_
    rw [List.getElem_modify]
    split
    · next hi =>
      subst hi
      have here : deskOf s e = s.booth.desks[e] := by simp [deskOf, List.getD_eq_getElem?_getD, h2]
      exact asOff _ (here ▸ h)
    · rfl
  simp only [setDeskOff, modifyDesk, this]

/-- What a desk that stands down does, by its state. -/
theorem standDown_cases (e : Nat) (s : State) :
    ((deskOf s e).state = .onAir ∧ standDown e s = takeDeskOffAir e s) ∨
    ((deskOf s e).state ≠ .onAir ∧ standDown e s = withdrawDesk e (setDeskOff e s)) ∨
    ((deskOf s e).state = .off ∧ languagePending s e = false ∧ standDown e s = s) := by
  unfold standDown
  cases hst : (deskOf s e).state with
  | onAir => exact .inl ⟨rfl, rfl⟩
  | intent => exact .inr (.inl ⟨by simp, rfl⟩)
  | off =>
    cases hp : languagePending s e with
    | true => exact .inr (.inl ⟨by simp, by simp [setDeskOff_of_off hst]⟩)
    | false => exact .inr (.inr ⟨rfl, rfl, by simp⟩)

/-- A desk that stands down is idle after it, and the laws of the desks hold on. -/
theorem standDown_spec {e : Nat} {s : State} (h : DeskTable s) : DeskTable (standDown e s) ∧ DeskIdle (standDown e s) e := by
  have agree := h.agree
  rcases standDown_cases e s with ⟨hst, heq⟩ | ⟨hst, heq⟩ | ⟨hst, hpending, heq⟩ <;> rw [heq]
  · have leaves := takeDeskOffAir_leaves h hst
    refine ⟨leaves.table h, leaves.off, leaves.marked, fun w hw hd => ?_⟩
    have := (agree.want w (leaves.wants w hw).1).1
    simp [hd, hst] at this
  · have leaves := withdrawDesk_leaves (e := e) h hst
    refine ⟨leaves.table h, leaves.off, leaves.marked, fun w hw => ?_⟩
    simp only [withdrawDesk_languageWants, List.mem_filter, bne_iff_ne] at hw
    exact hw.2
  · refine ⟨h, hst, fun c hc hd => agree.marked hc (by simp [hd, hst]) fun hhold => ?_, fun w hw hd => ?_⟩
    · have := (agree.hold c hc hhold).1
      simp [hd, hst] at this
    · have : languagePending s e = true := List.any_eq_true.mpr ⟨w, hw, by simp [hd]⟩
      simp [hpending] at this

/-- An idle desk can change its language. -/
theorem deskTable_modifyIdle {e : Nat} {f : Desk → Desk} {s : State} (h : DeskTable s) (idle : DeskIdle s e)
    (hf : ∀ d, (f d).state = d.state) : DeskTable (modifyDesk e f s) := by
  refine DeskLeaves.table (e := e) (s := s) ⟨fun x hx => ?_, ?_, fun c _ => by simp, fun c hc => ?_, by simpa using h.agree.distinct,
    fun w hw => ?_, by simp⟩ h
  · by_cases he : e < s.booth.desks.length
    · simp [deskOf_modifyDesk _ _ _ _ he, hx]
    · simp [deskOf, modifyDesk, List.modify_eq_self (not_lt.mp he)]
  · by_cases he : e < s.booth.desks.length
    · simpa [deskOf_modifyDesk _ _ _ _ he, hf] using idle.off
    · simpa [deskOf, modifyDesk, List.modify_eq_self (not_lt.mp he)] using idle.off
  · exact idle.marked c (by simpa using hc)
  · have hw : w ∈ s.claims.languageWants := by simpa using hw
    exact ⟨hw, fun hd => absurd hd (idle.wants w hw)⟩

/-! ### Relays -/

/-- A change of one desk keeps the relay law where it keeps it at that desk. -/
theorem relayLaw_modifyDesk {e : Nat} {f : Desk → Desk} {s : State} (hf : ∀ d, RelayOk d → RelayOk (f d)) (law : RelayLaw s) :
    RelayLaw (modifyDesk e f s) := by
  intro d hd
  obtain ⟨i, hi, rfl⟩ := List.mem_iff_getElem.mp hd
  have hi' : i < s.booth.desks.length := by simpa [modifyDesk] using hi
  have ok : RelayOk s.booth.desks[i] := law _ (List.getElem_mem hi')
  simp only [modifyDesk, List.getElem_modify]
  split
  · exact hf _ ok
  · exact ok

/-- A desk with the same selection, sources and language relays as it did. -/
theorem relayOk_of_eq {d d' : Desk} (h : (d'.output, d'.relay, d'.pendingSource, d'.source) =
    (d.output, d.relay, d.pendingSource, d.source)) (ok : RelayOk d) : RelayOk d' := by
  simp only [Prod.mk.injEq] at h
  obtain ⟨houtput, hrelay, hpending, hsource⟩ := h
  unfold RelayOk
  rw [houtput, hrelay, hpending, hsource]
  exact ok

theorem relayLaw_setDeskOff (e : Nat) {s : State} (law : RelayLaw s) : RelayLaw (setDeskOff e s) :=
  relayLaw_modifyDesk (fun _ => relayOk_of_eq rfl) law

theorem relayLaw_takeDeskOffAir (e : Nat) {s : State} (law : RelayLaw s) : RelayLaw (takeDeskOffAir e s) :=
  relayLaw_setDeskOff e law

theorem relayLaw_standAside (e : Nat) {s : State} (law : RelayLaw s) : RelayLaw (standAside e s) :=
  (soft_engageDesk e _).toSoftDesks.relay (relayLaw_takeDeskOffAir e law)

theorem relayLaw_standDown (e : Nat) {s : State} (law : RelayLaw s) : RelayLaw (standDown e s) := by
  rcases standDown_cases e s with ⟨-, heq⟩ | ⟨-, heq⟩ | ⟨-, -, heq⟩ <;> rw [heq]
  · exact relayLaw_takeDeskOffAir e law
  · exact (soft_withdrawDesk e _).toSoftDesks.relay (relayLaw_setDeskOff e law)
  · exact law

theorem keeps_standDown (e : Nat) (s : State) : Keeps s (standDown e s) := by
  have relay : RelayLaw s → RelayLaw (standDown e s) := relayLaw_standDown e
  have desk : SizeLaw s → DeskLaw s → DeskLaw (standDown e s) := fun hs hd => (standDown_spec ⟨hs.2.2.2.2.2.2, hd⟩).1.2
  rcases standDown_cases e s with ⟨-, heq⟩ | ⟨-, heq⟩ | ⟨-, -, heq⟩ <;> rw [heq] at relay desk ⊢
  · exact .of_desks (.same (by simp)) (.same (by simp)) (.same (by simp)) (by simp [takeDeskOffAir, setDeskOff]) relay desk
  · exact .of_desks (.same (by simp)) (.same (by simp)) (.same (by simp)) (by simp [setDeskOff]) relay desk
  · exact .refl s

end Sys2Proof.Machine
end

section
/-! SUPPORT. The desks that stand aside, one after the other, and the desks of the booth ports: presses, replies, changes of
language and losses. -/

namespace Sys2Proof.Machine

/-- A fold whose work keeps a property of the state. -/
theorem foldl_preserves {β : Type} {P : State → Prop} {g : State → β → State} (h : ∀ s x, P s → P (g s x)) (l : List β)
    {s : State} (hs : P s) : P (l.foldl g s) :=
  List.foldlRecOn l g hs fun s hs x _ => h s x hs

/-! ### Desks that stand aside -/

/-- The desks of a list for which the test holds stand aside, in the order of the list. -/
def standAsides (p : State → Nat → Bool) (l : List Nat) (s : State) : State :=
  l.foldl (fun s' e => if p s' e then standAside e s' else s') s

/-- A test that only a desk on air meets, and that is not moved by what another desk does. -/
structure AsideTest (p : State → Nat → Bool) : Prop where
  onAir : ∀ u e, p u e = true → (deskOf u e).state = .onAir
  local_ : ∀ u x y, y ≠ x → (deskOf u x).state = .onAir → p (standAside x u) y = p u y

theorem deskOf_standAside_of_ne {e x : Nat} {s : State} (hair : (deskOf s e).state = .onAir) (h : x ≠ e) :
    deskOf (standAside e s) x = deskOf s x := by
  rw [deskOf_standAside e x s (lt_of_onAir (by simp [hair])), if_neg h]

theorem deskOf_standAside_self {e : Nat} {s : State} (hair : (deskOf s e).state = .onAir) :
    deskOf (standAside e s) e = { deskOf s e with state := .off, engaged := true } := by
  rw [deskOf_standAside e e s (lt_of_onAir (by simp [hair])), if_pos rfl]

/-- Standing aside raises DeskEngaged. -/
theorem standAside_flag (e : Nat) (s : State) : (standAside e s).port.flags.getLsbD 9 = true :=
  (raise_getLsbD .deskEngaged _ 9).mpr (.inr rfl)

theorem standAside_flags_stay (e : Nat) (s : State) (n : Nat) (h : s.port.flags.getLsbD n = true) :
    (standAside e s).port.flags.getLsbD n = true := by
  have kept : (takeDeskOffAir e s).port = s.port := by simp
  exact (soft_engageDesk e (takeDeskOffAir e s)).flags n (kept.symm ▸ h)

/-- What standing aside leaves of the desks, the language claims and the flags. -/
theorem standAsides_spec {p : State → Nat → Bool} (test : AsideTest p) : ∀ (l : List Nat), l.Nodup → ∀ s : State,
    (∀ x, deskOf (standAsides p l s) x =
      if x ∈ l ∧ p s x = true then { deskOf s x with state := .off, engaged := true } else deskOf s x) ∧
    (∀ c, c ∈ (standAsides p l s).claims.languages ↔
      c ∈ s.claims.languages ∧ ¬ (c.desk ∈ l ∧ p s c.desk = true ∧ c.stage = .hold)) ∧
    (∀ x ∈ l, p s x = true → (standAsides p l s).port.flags.getLsbD 9 = true)
  | [], _, s => by simp [standAsides]
  | e :: l, hl, s => by
    obtain ⟨hmem, hl⟩ := List.nodup_cons.mp hl
    cases hp : p s e with
    | false =>
      obtain ⟨hdesk, hclaims, hflag⟩ := standAsides_spec test l hl s
      have skip : standAsides p (e :: l) s = standAsides p l s := by simp [standAsides, hp]
      rw [skip]
      refine ⟨fun x => ?_, fun c => ?_, fun x hx hpx => ?_⟩
      · rw [hdesk]
        by_cases hx : x = e <;> simp [hx, hmem, hp]
      · rw [hclaims]
        by_cases hx : c.desk = e <;> simp [hx, hmem, hp]
      · rcases List.mem_cons.mp hx with rfl | hx
        · simp [hp] at hpx
        · exact hflag x hx hpx
    | true =>
      have hair := test.onAir s e hp
      obtain ⟨hdesk, hclaims, hflag⟩ := standAsides_spec test l hl (standAside e s)
      have first : standAsides p (e :: l) s = standAsides p l (standAside e s) := by simp [standAsides, hp]
      rw [first]
      refine ⟨fun x => ?_, fun c => ?_, fun x hx hpx => ?_⟩
      · rw [hdesk]
        by_cases hx : x = e
        · simp [hx, hmem, hp, deskOf_standAside_self hair]
        · simp [hx, test.local_ s e x hx hair, deskOf_standAside_of_ne hair hx]
      · rw [hclaims, standAside_languages, List.mem_filter]
        by_cases hx : c.desk = e
        · simp [hx, hmem, hp]
        · simp [hx, test.local_ s e _ hx hair]
      · by_cases hxe : x = e
        · exact foldl_preserves (P := fun u => u.port.flags.getLsbD 9 = true) (fun u y hu => by
            split
            · exact standAside_flag y u
            · exact hu) l (standAside_flag e s)
        · have hx : x ∈ l := (List.mem_cons.mp hx).resolve_left hxe
          exact hflag x hx (by rw [test.local_ s e x hxe hair, hpx])

/-- The own desks that yield to another holder. -/
theorem deskYields_test : AsideTest deskYields where
  onAir u e h := by
    unfold deskYields at h
    split at h
    · assumption
    · simp at h
  local_ u x y hne hair := by
    have peers : peerHolders (standAside x u) = peerHolders u := by simp [peerHolders, memberPeers, runningPeers, peerAt]
    have yields : yieldsTo (standAside x u) = yieldsTo u := by
      funext e age h
      simp [yieldsTo]
    simp only [deskYields, deskOf_standAside_of_ne hair hne, peers, yields]

/-- The own desks that an announcement names as displaced. -/
theorem takenOver_test (a : Announcement) : AsideTest (fun s e => takenOver s a e) where
  onAir u e h := by
    simp only [takenOver, Bool.and_eq_true, beq_iff_eq] at h
    exact h.1
  local_ u x y hne hair := by simp [takenOver, deskOf_standAside_of_ne hair hne]

/-- The other own desks on air for a language. -/
theorem othersOnAir_test (e l : Nat) : AsideTest (fun s x => x != e && onAirFor s l x) where
  onAir u x h := by
    simp only [onAirFor, Bool.and_eq_true, beq_iff_eq] at h
    exact h.2.1
  local_ u x y hne hair := by simp [onAirFor, deskOf_standAside_of_ne hair hne]

theorem deskConflictStep_eq (s : State) : deskConflictStep s =
    if s.station.state = .running then standAsides deskYields (List.range 4) s else s := rfl

theorem applyTakeovers_eq (a : Announcement) (s : State) : applyTakeovers a s =
    standAsides (fun u e => takenOver u a e) (List.range 4) s := rfl

theorem keeps_standAsides {p : State → Nat → Bool} (test : AsideTest p) (l : List Nat) (s : State) :
    Keeps s (standAsides p l s) := by
  refine foldl_rel (r := Keeps) Keeps.refl (fun _ _ _ => Keeps.trans) (fun u e => ?_) l s
  refine .ite _ (fun hp => ?_) fun _ => .refl u
  exact .of_desks (.same (by simp)) (.same (by simp)) ⟨by simp, by simp, by simp, by simp, by simp, standAside_flags_stay e u⟩
    (by simp [standAside, engageDesk, takeDeskOffAir, setDeskOff])
    (relayLaw_standAside e) fun hs hd => (deskTable_standAside ⟨hs.2.2.2.2.2.2, hd⟩ (test.onAir u e hp)).2

theorem keeps_deskConflictStep (s : State) : Keeps s (deskConflictStep s) :=
  .ite _ (fun _ => keeps_standAsides deskYields_test _ s) fun _ => .refl s

theorem keeps_applyTakeovers (a : Announcement) (s : State) : Keeps s (applyTakeovers a s) :=
  keeps_standAsides (takenOver_test a) _ s

/-! ### Presses -/

theorem keeps_takeDeskOffAir {e : Nat} {s : State} (hair : (deskOf s e).state = .onAir) : Keeps s (takeDeskOffAir e s) :=
  .of_desks (.same (by simp)) (.same (by simp)) (.same (by simp)) (by simp [takeDeskOffAir, setDeskOff]) (relayLaw_takeDeskOffAir e) fun hs hd =>
    ((takeDeskOffAir_leaves ⟨hs.2.2.2.2.2.2, hd⟩ hair).table ⟨hs.2.2.2.2.2.2, hd⟩).2

theorem keeps_withdrawDesk {e : Nat} {s : State} (hnot : (deskOf s e).state ≠ .onAir) :
    Keeps s (withdrawDesk e (setDeskOff e s)) :=
  .of_desks (.same (by simp)) (.same (by simp)) (.same (by simp)) (by simp [setDeskOff])
    (fun law => (soft_withdrawDesk e _).toSoftDesks.relay (relayLaw_setDeskOff e law)) fun hs hd =>
      ((withdrawDesk_leaves ⟨hs.2.2.2.2.2.2, hd⟩ hnot).table ⟨hs.2.2.2.2.2.2, hd⟩).2

/-- A want filed for a desk that is Off with this output language. -/
theorem keeps_fileLanguageWant {w : LanguageWant} {s : State} (hoff : (deskOf s w.desk).state = .off)
    (hout : (deskOf s w.desk).output = some w.language) : Keeps s (fileLanguageWant w s) := by
  rcases fileLanguageWant_cases w s with ⟨-, heq⟩ | ⟨-, -, heq⟩ | ⟨-, -, heq⟩ <;> rw [heq]
  · exact (soft_engageDesk _ s).keeps
  · exact .refl s
  · refine .of_desks (.same (by simp)) (.same (by simp)) (.same (by simp)) rfl id fun _ hd => ?_
    obtain ⟨hone, hdistinct, honAir, hintent, hhold, hlive, hwant⟩ := hd
    refine ⟨hone, hdistinct, honAir, hintent, hhold, hlive, fun x hx => ?_⟩
    rcases List.mem_append.mp hx with hx | hx
    · exact hwant x (List.mem_filter.mp hx).1
    · rw [List.mem_singleton.mp hx]
      exact ⟨hoff, hout⟩

/-- A desk without the engaged mark. -/
theorem soft_clearEngaged (e : Nat) (s : State) : Soft s (modifyDesk e (fun d => { d with engaged := false }) s) :=
  soft_modifyDesk e (f := fun d => { d with engaged := false }) (fun _ => softDesk_of_eq rfl) s

theorem keeps_pressOffDesk {e l : Nat} {s : State} (hoff : (deskOf s e).state = .off)
    (hout : (deskOf s e).output = some l) : Keeps s (pressOffDesk e l s) := by
  have cleared := soft_clearEngaged e s
  have off := (cleared.toSoftDesks.deskOf e).1.trans hoff
  have out := (cleared.toSoftDesks.deskOf e).2.trans hout
  unfold pressOffDesk
  split
  · exact cleared.keeps.trans (keeps_fileLanguageWant off out)
  · exact .ite _ (fun _ => (soft_engageDesk e s).keeps) fun _ => cleared.keeps.trans (keeps_fileLanguageWant off out)

theorem keeps_deskPress (e : Nat) (s : State) : Keeps s (deskPress e s) := by
  unfold deskPress
  split
  · next hst => exact keeps_takeDeskOffAir hst
  · next hst => exact keeps_withdrawDesk (by simp [hst])
  · next hst =>
    refine .ite _ (fun _ => (soft_withdrawDesk e s).keeps) fun _ => ?_
    split
    · next l hl => exact keeps_pressOffDesk hst hl
    · exact .refl s

/-! ### Replies of a desk -/

/-- A new language is not relayed: the selection and the effective source of it are turned to Floor. -/
theorem relayOk_changed (s : State) (l : Nat) (d : Desk) : RelayOk { takeLanguage l d with
    pendingSource := sourceOf s (takeLanguage l d)
    source := if (takeLanguage l d).source = .language l then .floor else (takeLanguage l d).source } := by
  have output : (takeLanguage l d).output = some l := by
    unfold takeLanguage
    split <;> rfl
  have relay : (takeLanguage l d).relay ≠ .language l := by
    unfold takeLanguage
    split
    · simp
    · assumption
  intro k hk
  obtain rfl : l = k := by simpa [output] using hk
  refine ⟨relay, sourceOf_ne_output output relay, ?_⟩
  dsimp only
  split
  · simp
  · assumption

theorem modifyDesk_modifyDesk (e : Nat) (f g : Desk → Desk) (s : State) :
    modifyDesk e g (modifyDesk e f s) = modifyDesk e (g ∘ f) s := by
  simp only [modifyDesk]
  rw [List.modify_modify_eq]

theorem takeLanguage_state (l : Nat) (d : Desk) : (takeLanguage l d).state = d.state := by
  unfold takeLanguage
  split <;> rfl

/-- A change of language after the desk has stood down: language, selection, pending and effective source together. -/
theorem changeLanguage_eq (e l : Nat) (s : State) : changeLanguage e l s =
    modifyDesk e ((fun d => { d with
      pendingSource := sourceOf (modifyDesk e (takeLanguage l) (standDown e s)) d
      source := if d.source = .language l then .floor else d.source }) ∘ takeLanguage l) (standDown e s) :=
  modifyDesk_modifyDesk _ _ _ _

theorem keeps_changeLanguage (e l : Nat) (s : State) : Keeps s (changeLanguage e l s) := by
  refine .of_desks (.same (by simp)) (.same (by simp)) (.same (by simp)) ?_ (fun law => ?_) fun hs hd => ?_
  · rw [changeLanguage_eq, modifyDesk_length]
    rcases standDown_cases e s with ⟨-, h⟩ | ⟨-, h⟩ | ⟨-, -, h⟩ <;> simp [h, takeDeskOffAir, setDeskOff]
  · rw [changeLanguage_eq]
    exact relayLaw_modifyDesk (fun d _ => relayOk_changed _ l d) (relayLaw_standDown e law)
  · rw [changeLanguage_eq]
    obtain ⟨table, idle⟩ := standDown_spec (e := e) ⟨hs.2.2.2.2.2.2, hd⟩
    refine (deskTable_modifyIdle table idle fun d => ?_).2
    exact takeLanguage_state l d

/-- A relay selection that is not refused is not of the own language. -/
theorem softDesk_takeRelay (r : Relay) (d : Desk) : SoftDesk d (takeRelay r d) := by
  unfold takeRelay
  split
  · exact softDesk_of_eq rfl
  · next h =>
    refine ⟨rfl, rfl, fun ok l hl => ⟨?_, (ok l hl).2.1, (ok l hl).2.2⟩⟩
    rintro rfl
    have hl : d.output = some l := hl
    simp [relayRefused, hl] at h

theorem soft_takeRelay (e : Nat) (r : Relay) (s : State) : Soft s (modifyDesk e (takeRelay r) s) :=
  soft_modifyDesk e (softDesk_takeRelay r) s

/-- What a good reply does first: presence, counts and acknowledge flag (R69). -/
def hearDesk (e : Nat) (c : ReplyClass) (s : State) : State :=
  modifyDesk e (fun d => { d with miss := 0, noise := noiseAfter c d.noise, present := true, ack := !d.ack }) s

/-- The output language of a good reply, taken where it is another or the desk was Absent. -/
def takeOutput (e l : Nat) (fresh : Bool) (s : State) : State :=
  if fresh || (deskOf s e).output != some l then changeLanguage e l s else s

/-- The relay selection of a good reply, taken where it is another or the desk was Absent. -/
def takeReported (e : Nat) (r : Relay) (fresh : Bool) (s : State) : State :=
  if fresh || (deskOf s e).reported != some r then modifyDesk e (takeRelay r) s else s

/-- The Mic key of a good reply. -/
def takePress (e : Nat) (mic : Bool) (s : State) : State := if mic then deskPress e s else s

/-- A good reply in its order. -/
theorem goodDeskReply_eq (e : Nat) (c : ReplyClass) (r : DeskContent) (s : State) : goodDeskReply e c r s =
    evalDemand (takePress e r.mic (takeReported e r.relay (!(deskOf s e).present)
      (takeOutput e r.output (!(deskOf s e).present) (hearDesk e c s)))) := rfl

theorem soft_hearDesk (e : Nat) (c : ReplyClass) (s : State) : Soft s (hearDesk e c s) :=
  soft_modifyDesk e (f := fun d => { d with miss := 0, noise := noiseAfter c d.noise, present := true, ack := !d.ack })
    (fun _ => softDesk_of_eq rfl) s

theorem soft_takeReported (e : Nat) (r : Relay) (fresh : Bool) (s : State) : Soft s (takeReported e r fresh s) :=
  .ite _ (soft_takeRelay e r s) (.refl s)

theorem keeps_takeOutput (e l : Nat) (fresh : Bool) (s : State) : Keeps s (takeOutput e l fresh s) :=
  .ite _ (fun _ => keeps_changeLanguage e l s) fun _ => .refl s

theorem keeps_takePress (e : Nat) (mic : Bool) (s : State) : Keeps s (takePress e mic s) :=
  .ite _ (fun _ => keeps_deskPress e s) fun _ => .refl s

theorem keeps_goodDeskReply (e : Nat) (c : ReplyClass) (r : DeskContent) (s : State) : Keeps s (goodDeskReply e c r s) := by
  rw [goodDeskReply_eq]
  exact ((((soft_hearDesk e c s).keeps.trans (keeps_takeOutput _ _ _ _)).trans (soft_takeReported _ _ _ _).keeps).trans
    (keeps_takePress _ _ _)).trans (soft_evalDemand _).keeps

theorem keeps_loseDesk (e : Nat) (s : State) : Keeps s (loseDesk e s) := by
  have absent : ∀ u, Soft u (modifyDesk e (fun d =>
      { d with present := false, miss := Config.missLimit, engaged := false, loopMark := false }) u) :=
    soft_modifyDesk e (f := fun d =>
      { d with present := false, miss := Config.missLimit, engaged := false, loopMark := false })
      (fun _ => softDesk_of_eq rfl)
  exact (keeps_standDown e s).trans ((absent _).trans (soft_evalDemand _)).keeps

theorem keeps_badDeskReply (e : Nat) (s : State) : Keeps s (badDeskReply e s) := by
  have missed : Soft s (modifyDesk e (fun d => { d with miss := d.miss + 1 }) s) :=
    soft_modifyDesk e (f := fun d => { d with miss := d.miss + 1 }) (fun _ => softDesk_of_eq rfl) s
  exact .ite _ (fun _ => .refl s) fun _ => .ite _ (fun _ => keeps_loseDesk e s) fun _ => missed.keeps

theorem keeps_closeBoothWindow (e : Nat) (reply : Option DeskReply) (s : State) : Keeps s (closeBoothWindow e reply s) := by
  unfold closeBoothWindow
  split
  · exact keeps_goodDeskReply ..
  · exact keeps_goodDeskReply ..
  · exact keeps_badDeskReply ..

theorem keeps_boothWindowCloseOp (reply : Option DeskReply) (s : State) : Keeps s (boothWindowCloseOp reply s) := by
  unfold boothWindowCloseOp
  split
  · exact (soft_takeBoothWindow s).keeps.trans (keeps_closeBoothWindow _ _ _)
  · exact .refl s

theorem keeps_deskAbsentOp (e : Nat) (s : State) : Keeps s (deskAbsentOp e s) :=
  .ite _ (fun _ => (Keeps.ite _ (fun _ => (soft_takeBoothWindow s).keeps) fun _ => .refl s).trans (keeps_loseDesk _ _))
    fun _ => .refl s

theorem keeps_resetBooth (reply : Option DeskReply) (s : State) : Keeps s (resetBooth reply s) := by
  have due : ∀ u : State, Keeps u { u with booth := { u.booth with dueWindow := none } } := fun u =>
    Soft.keeps (soft_booth (s := u) rfl)
  have ended : ∀ u : State, Keeps u { u with booth := { u.booth with window := none } } := fun u =>
    Soft.keeps (soft_booth (s := u) rfl)
  unfold resetBooth
  refine .ite _ (fun _ => (soft_withdrawBoothPoll s).keeps.trans ?_) fun _ => ?_
  · dsimp only
    split
    · exact (due _).trans (keeps_closeBoothWindow _ _ _)
    · exact .refl _
  · split
    · exact (ended s).trans (keeps_closeBoothWindow _ _ _)
    · exact .refl s

end Sys2Proof.Machine
end

section
/-! SUPPORT. The language claims in the claim work of an own slot: withdrawals, settlements and raises, and that each keeps the
laws of the desks. -/

namespace Sys2Proof.Machine

/-! ### Withdrawal -/

theorem relayLaw_withdrawLanguage (c : LanguageClaim) {s : State} (law : RelayLaw s) : RelayLaw (withdrawLanguage c s) :=
  relayLaw_modifyDesk (fun d ok => by
    split
    · exact relayOk_of_eq rfl ok
    · exact ok) law

/-- A desk whose Intent stands is not on air. -/
theorem DesksAgree.not_onAir {s : State} (h : DesksAgree s) {c : LanguageClaim} (hc : c ∈ s.claims.languages)
    (hi : isIntent c.stage = true) : (deskOf s c.desk).state ≠ .onAir := by
  intro hair
  obtain ⟨d, hd, hdesk, hst⟩ := h.onAir _ hair
  rw [h.eq_of_desk hd hc hdesk] at hst
  simp [hst, isIntent] at hi

/-- Dropping the Intent of a desk drops that claim alone. -/
theorem mem_dropLanguageIntent {s : State} (h : DesksAgree s) {c d : LanguageClaim} (hc : c ∈ s.claims.languages)
    (hi : isIntent c.stage = true) : d ∈ (dropLanguageIntent c s).claims.languages ↔
      d ∈ s.claims.languages ∧ d.desk ≠ c.desk := by
  simp only [dropLanguageIntent, List.mem_filter, Bool.not_eq_true', Bool.and_eq_false_iff, beq_eq_false_iff_ne]
  refine and_congr_right fun hd => ⟨fun hor hdesk => ?_, fun hne => .inl hne⟩
  rw [h.eq_of_desk hd hc hdesk] at hor
  simp [hi] at hor

theorem dropLanguageIntent_leaves {s t : State} {c : LanguageClaim} (h : DeskTable s) (hc : c ∈ s.claims.languages)
    (hi : isIntent c.stage = true) (hclaims : t.claims.languages = (dropLanguageIntent c s).claims.languages)
    (hwants : t.claims.languageWants = s.claims.languageWants) (hcount : t.booth.desks.length = s.booth.desks.length)
    (hothers : ∀ x, x ≠ c.desk → (deskOf t x).state = (deskOf s x).state ∧ (deskOf t x).output = (deskOf s x).output)
    (hoff : (deskOf t c.desk).state = .off ∧ (deskOf t c.desk).output = (deskOf s c.desk).output) :
    DeskLeaves c.desk s t where
  others := hothers
  off := hoff.1
  claims d hd := by
    rw [hclaims, mem_dropLanguageIntent h.agree hc hi]
    simp [hd]
  marked d hd hdesk := by
    rw [hclaims, mem_dropLanguageIntent h.agree hc hi] at hd
    exact absurd hdesk hd.2
  distinct := by
    rw [hclaims]
    exact h.agree.distinct.sublist (List.filter_sublist.map _)
  wants w hw := by
    rw [hwants] at hw
    refine ⟨hw, fun hd => ?_⟩
    rw [hoff.2, ← hd]
    exact (h.agree.want w hw).2
  count := hcount

theorem deskTable_withdrawLanguage {s : State} {c : LanguageClaim} (h : DeskTable s) (hc : c ∈ s.claims.languages)
    (hi : isIntent c.stage = true) : DeskTable (withdrawLanguage c s) := by
  have desk : ∀ x, deskOf (withdrawLanguage c s) x =
      if x = c.desk ∧ (deskOf s x).state = .intent then { deskOf s x with state := .off } else deskOf s x := fun x =>
    deskOf_deskWithdrawn c.desk x (dropLanguageIntent c s)
  refine (dropLanguageIntent_leaves (t := withdrawLanguage c s) h hc hi rfl rfl (List.length_modify ..)
    (fun x hx => by simp [desk, hx]) ?_).table h
  rw [desk]
  have := h.agree.not_onAir hc hi
  cases hst : (deskOf s c.desk).state <;> simp_all

theorem keeps_withdrawLanguages (s : State) (p : LanguageClaim → Bool) (hp : ∀ c, p c = true → isIntent c.stage = true) :
    Keeps s ((s.claims.languages.filter p).foldl (fun s' c => withdrawLanguage c s') s) := by
  refine .of_desks (.same (by simp)) (.same (by simp)) (.same (by simp)) ?_ (fun law => ?_) fun hs hd => ?_
  · exact foldl_keeps (fun u : State => u.booth.desks.length)
      (fun u (c : LanguageClaim) => by simp [withdrawLanguage, deskWithdrawn, dropLanguageIntent]) _ _
  · exact foldl_preserves (fun u c hu => relayLaw_withdrawLanguage c hu) _ law
  · have table : DeskTable s := ⟨hs.2.2.2.2.2.2, hd⟩
    have distinct : (s.claims.languages.filter p).Pairwise (fun a b => a.desk ≠ b.desk) :=
      List.pairwise_map.mp (table.agree.distinct.sublist (List.filter_sublist.map _))
    refine (foldl_guarded (P := DeskTable) (Q := fun u (c : LanguageClaim) => c ∈ u.claims.languages ∧ isIntent c.stage = true)
      (R := fun (a b : LanguageClaim) => a.desk ≠ b.desk) (fun u c hu hc => deskTable_withdrawLanguage hu hc.1 hc.2)
      (fun u c d hu hc hne hd => ⟨?_, hd.2⟩) _ distinct s table fun c hc => ?_).2
    · exact (mem_dropLanguageIntent hu.agree hc.1 hc.2).mpr ⟨hd.1, hne.symm⟩
    · exact ⟨(List.mem_filter.mp hc).1, hp c (List.mem_filter.mp hc).2⟩

/-! ### Settlement -/

/-- The language claims after the Intent of desk e is won. -/
def holdFor (e : Nat) (c : LanguageClaim) : LanguageClaim := if c.desk == e then { c with stage := .hold } else c

@[simp] theorem holdFor_desk (e : Nat) (c : LanguageClaim) : (holdFor e c).desk = c.desk := by
  unfold holdFor
  split <;> rfl

@[simp] theorem holdFor_language (e : Nat) (c : LanguageClaim) : (holdFor e c).language = c.language := by
  unfold holdFor
  split <;> rfl

theorem holdFor_of_ne {e : Nat} {c : LanguageClaim} (h : c.desk ≠ e) : holdFor e c = c := by
  rw [holdFor, if_neg (by simpa using h)]

theorem holdFor_stage {c : LanguageClaim} : (holdFor c.desk c).stage = .hold := by simp [holdFor]

/-- A desk on air: on air from now on, with what it displaced. -/
def aired (n : Option Named) (d : Desk) : Desk :=
  { d with state := .onAir, onAirAge := 0, displaced := n, engaged := false }

/-- The state in which the own desk that a takeover names has stood aside. -/
def namedAside (n : Option Named) (s : State) : State :=
  match n with
  | some n => if n.station = s.station.number then standAside n.item s else s
  | none => s

theorem deskWon_eq (e l : Nat) (n : Option Named) (s : State) : deskWon e l n s =
    modifyDesk e (aired n) (standAsides (fun u x => x != e && onAirFor u l x) (List.range 4) (namedAside n s)) := by
  unfold deskWon namedAside aired standAsides
  rfl

theorem settleLanguage_of_loses {s : State} {c : LanguageClaim} (h : languageWins s c = false) :
    settleLanguage s c = deskLost c.desk (dropLanguageIntent c s) := by
  rw [settleLanguage, if_neg (by simp [h])]

/-- The state in which the Intent of a desk is a Hold. -/
def claimHeld (e : Nat) (s : State) : State :=
  { s with claims := { s.claims with languages := s.claims.languages.map (holdFor e) } }

theorem settleLanguage_of_wins {s : State} {c : LanguageClaim} (h : languageWins s c = true) :
    settleLanguage s c = deskWon c.desk c.language c.displaced (claimHeld c.desk s) := by
  rw [settleLanguage, if_pos h]
  rfl

theorem mem_memberPeers_ne {s : State} {p : Nat × PeerEntry} (h : p ∈ memberPeers s) : p.1 ≠ s.station.number :=
  ((mem_runningPeers s p.1 p.2).mp (List.mem_filter.mp h).1).2.1

/-- A won takeover that names the own station names a desk that is on air for the language. -/
theorem onAirFor_of_takeover {s : State} {c : LanguageClaim} {x : Nat} (hn : c.displaced = some ⟨s.station.number, x⟩)
    (h : languageWins s c = true) : onAirFor s c.language x = true := by
  simp only [languageWins, hn, Bool.and_eq_true, List.any_eq_true, beq_iff_eq] at h
  obtain ⟨⟨y, hy, hstation, hdesk⟩, -⟩ := h
  obtain ⟨hy, hout⟩ := List.mem_filter.mp hy
  have hout : y.output = c.language := by simpa using hout
  rcases List.mem_append.mp hy with hy | hy
  · obtain ⟨e, d, l, hd, hst, hdo, rfl⟩ := (mem_ownHolders s y).mp hy
    have here : deskOf s x = d := by simp [deskOf, List.getD_eq_getElem?_getD, ← hdesk, hd]
    rw [onAirFor_iff, here]
    exact ⟨hst, by rw [hdo, ← hout]⟩
  · obtain ⟨p, hp, d, -, -, rfl⟩ := (mem_peerHolders s y).mp hy
    exact absurd hstation (mem_memberPeers_ne hp)

theorem onAirFor_standAside {e l x : Nat} {s : State} (hair : (deskOf s e).state = .onAir) :
    onAirFor (standAside e s) l x = (x != e && onAirFor s l x) := by
  by_cases hx : x = e
  · simp [hx, onAirFor, deskOf_standAside_self hair]
  · simp [hx, onAirFor, deskOf_standAside_of_ne hair hx]

theorem namedAside_own (s : State) (x : Nat) : namedAside (some ⟨s.station.number, x⟩) s = standAside x s := if_pos rfl

theorem namedAside_other {n : Option Named} {s : State} (h : ∀ x, n ≠ some ⟨s.station.number, x⟩) : namedAside n s = s := by
  unfold namedAside
  split
  · next m =>
    refine if_neg fun hm => h m.item ?_
    rw [← hm]
  · rfl

theorem standAsides_count (p : State → Nat → Bool) (l : List Nat) (s : State) :
    (standAsides p l s).booth.desks.length = s.booth.desks.length :=
  foldl_keeps (fun u : State => u.booth.desks.length) (fun u x => by
    split <;> simp [standAside, engageDesk, takeDeskOffAir, setDeskOff]) _ _

/-- The own desks that stand aside for desk e, when it is won for language l and displaces n. -/
def StandsAside (s : State) (e l : Nat) (n : Option Named) (x : Nat) : Prop :=
  onAirFor s l x = true ∧ (x ≠ e ∧ x < 4 ∨ n = some ⟨s.station.number, x⟩)

theorem namedAside_spec {l : Nat} {n : Option Named} {s : State}
    (hnamed : ∀ x, n = some ⟨s.station.number, x⟩ → onAirFor s l x = true) :
    (∀ x, deskOf (namedAside n s) x =
      if n = some ⟨s.station.number, x⟩ then { deskOf s x with state := .off, engaged := true } else deskOf s x) ∧
    (∀ c, c ∈ (namedAside n s).claims.languages ↔
      c ∈ s.claims.languages ∧ ¬ (c.stage = .hold ∧ n = some ⟨s.station.number, c.desk⟩)) ∧
    (∀ x, n = some ⟨s.station.number, x⟩ → (namedAside n s).port.flags.getLsbD 9 = true) := by
  by_cases hown : ∃ y, n = some ⟨s.station.number, y⟩
  · obtain ⟨y, rfl⟩ := hown
    have hair : (deskOf s y).state = .onAir := (onAirFor_iff.mp (hnamed y rfl)).1
    rw [namedAside_own]
    refine ⟨fun x => ?_, fun c => ?_, fun x _ => standAside_flag y s⟩
    · by_cases hx : x = y
      · simp [hx, deskOf_standAside_self hair]
      · simp [deskOf_standAside_of_ne hair hx, Ne.symm hx]
    · simp only [standAside_languages, List.mem_filter, Bool.not_eq_true', Bool.and_eq_false_iff, beq_eq_false_iff_ne,
        Option.some.injEq, Named.mk.injEq, true_and, eq_comm (a := y)]
      tauto
  · have hother : ∀ y, n ≠ some ⟨s.station.number, y⟩ := fun y hy => hown ⟨y, hy⟩
    rw [namedAside_other hother]
    simp [hother]

theorem namedAside_count (n : Option Named) (s : State) : (namedAside n s).booth.desks.length = s.booth.desks.length := by
  unfold namedAside
  split
  · split <;> simp [standAside, engageDesk, takeDeskOffAir, setDeskOff]
  · rfl

/-- What a won settlement leaves of the other desks, the language claims and the flags: the own desks that are on air for the
language, the named one among them, stand aside. -/
theorem deskWon_spec {e l : Nat} {n : Option Named} {s : State} (he : e < s.booth.desks.length)
    (hnamed : ∀ x, n = some ⟨s.station.number, x⟩ → onAirFor s l x = true) :
    deskOf (deskWon e l n s) e = aired n (deskOf s e) ∧
    (∀ x, x ≠ e → StandsAside s e l n x → deskOf (deskWon e l n s) x = { deskOf s x with state := .off, engaged := true } ∧
      (deskWon e l n s).port.flags.getLsbD 9 = true) ∧
    (∀ x, x ≠ e → ¬ StandsAside s e l n x → deskOf (deskWon e l n s) x = deskOf s x) ∧
    (∀ c, c ∈ (deskWon e l n s).claims.languages ↔
      c ∈ s.claims.languages ∧ ¬ (c.stage = .hold ∧ StandsAside s e l n c.desk)) := by
  obtain ⟨ndesk, nclaims, nflag⟩ := namedAside_spec hnamed
  obtain ⟨hdesk, hclaims, hflag⟩ := standAsides_spec (othersOnAir_test e l) (List.range 4) List.nodup_range (namedAside n s)
  have hair : ∀ x, onAirFor (namedAside n s) l x = true ↔ onAirFor s l x = true ∧ n ≠ some ⟨s.station.number, x⟩ := by
    intro x
    simp only [onAirFor, ndesk]
    split <;> simp_all
  have at_ : ∀ x, deskOf (deskWon e l n s) x = if x = e then aired n (deskOf (standAsides (fun u x => x != e && onAirFor u l x)
      (List.range 4) (namedAside n s)) e) else deskOf (standAsides (fun u x => x != e && onAirFor u l x)
      (List.range 4) (namedAside n s)) x := fun x => by
    rw [deskWon_eq]
    exact deskOf_modifyDesk e x _ _ (by rw [standAsides_count, namedAside_count]; exact he)
  refine ⟨?_, fun x hx haside => ⟨?_, ?_⟩, fun x hx haside => ?_, fun c => ?_⟩
  · rw [at_, if_pos rfl, hdesk, if_neg (by simp), ndesk]
    split <;> rfl
  · rw [at_, if_neg hx, hdesk, ndesk]
    obtain ⟨hx1, hx2⟩ := haside
    by_cases hn : n = some ⟨s.station.number, x⟩
    · simp [hn]
    · have hlt : x < 4 := (hx2.resolve_right hn).2
      simp [hn, hlt, hx, hair, hx1]
  · obtain ⟨hx1, hx2⟩ := haside
    rw [deskWon_eq]
    by_cases hn : n = some ⟨s.station.number, x⟩
    · exact foldl_preserves (P := fun u : State => u.port.flags.getLsbD 9 = true) (fun u y hu => by
        split
        · exact standAside_flag y u
        · exact hu) _ (nflag x hn)
    · have hlt : x < 4 := (hx2.resolve_right hn).2
      exact hflag x (List.mem_range.mpr hlt) (by simp [hx, hair, hx1, hn])
  · rw [at_, if_neg hx, hdesk, ndesk]
    have hn : n ≠ some ⟨s.station.number, x⟩ := fun hn => haside ⟨hnamed x hn, .inr hn⟩
    have hout : ¬ (x ∈ List.range 4 ∧ (x != e && onAirFor (namedAside n s) l x) = true) := by
      rintro ⟨hlt, hp⟩
      simp only [Bool.and_eq_true, hair] at hp
      exact haside ⟨hp.2.1, .inl ⟨hx, List.mem_range.mp hlt⟩⟩
    rw [if_neg hout, if_neg hn]
  · have lang : (deskWon e l n s).claims.languages = (standAsides (fun u x => x != e && onAirFor u l x)
        (List.range 4) (namedAside n s)).claims.languages := by rw [deskWon_eq]; rfl
    rw [lang, hclaims, nclaims]
    simp only [StandsAside, Bool.and_eq_true, hair, List.mem_range, bne_iff_ne]
    by_cases hn : n = some ⟨s.station.number, c.desk⟩
    · have := hnamed c.desk hn
      simp [hn, this]
    · simp only [hn, or_false, and_false, not_false_eq_true, and_true, ne_eq]
      tauto

theorem deskWon_sublist (e l : Nat) (n : Option Named) (s : State) :
    (deskWon e l n s).claims.languages.Sublist s.claims.languages := by
  have aside : ∀ (e : Nat) (u : State), (standAside e u).claims.languages.Sublist u.claims.languages := fun e u => by
    rw [standAside_languages]
    exact List.filter_sublist
  have asides : ∀ u : State, (standAsides (fun u x => x != e && onAirFor u l x) (List.range 4) u).claims.languages.Sublist
      u.claims.languages := fun u =>
    foldl_rel (r := fun a b : State => b.claims.languages.Sublist a.claims.languages) (fun _ => List.Sublist.refl _)
      (fun _ _ _ h k => k.trans h) (fun u x => by
        split
        · exact aside x u
        · exact List.Sublist.refl _) _ u
  rw [deskWon_eq]
  refine (asides _).trans ?_
  unfold namedAside
  split
  · split
    · exact aside _ s
    · exact List.Sublist.refl _
  · exact List.Sublist.refl _

/-! ### The settlement keeps the laws -/

/-- A won settlement as its parts say it keeps the laws of the desks. -/
theorem deskTable_won {s t : State} {c : LanguageClaim} (h : DeskTable s) (hc : c ∈ s.claims.languages)
    (hlive : isLiveIntent c.stage = true)
    (won : deskOf t c.desk = aired c.displaced (deskOf s c.desk))
    (asides : ∀ x, x ≠ c.desk → StandsAside s c.desk c.language c.displaced x →
      deskOf t x = { deskOf s x with state := .off, engaged := true } ∧ t.port.flags.getLsbD 9 = true)
    (others : ∀ x, x ≠ c.desk → ¬ StandsAside s c.desk c.language c.displaced x → deskOf t x = deskOf s x)
    (claims : ∀ d, d ∈ t.claims.languages ↔ d ∈ s.claims.languages.map (holdFor c.desk) ∧
      ¬ (d.stage = .hold ∧ StandsAside s c.desk c.language c.displaced d.desk))
    (sub : t.claims.languages.Sublist (s.claims.languages.map (holdFor c.desk)))
    (wants : t.claims.languageWants = s.claims.languageWants) (count : t.booth.desks.length = s.booth.desks.length) :
    DeskTable t := by
  have agree := h.agree
  obtain ⟨hstate, hout⟩ := agree.live c hc hlive
  have notAside : ∀ x, (deskOf s x).state ≠ .onAir → ¬ StandsAside s c.desk c.language c.displaced x := fun x hx hs =>
    hx (onAirFor_iff.mp hs.1).1
  have aside_of : ∀ x, onAirFor s c.language x = true → StandsAside s c.desk c.language c.displaced x := fun x hx => by
    have hair := (onAirFor_iff.mp hx).1
    refine ⟨hx, .inl ⟨?_, h.1 ▸ lt_of_onAir (by simp [hair])⟩⟩
    rintro rfl
    simp [hstate] at hair
  -- what is on air after the settlement
  have air : ∀ x k, onAirFor t k x = true → x = c.desk ∧ k = c.language ∨
      x ≠ c.desk ∧ onAirFor s k x = true ∧ onAirFor s c.language x = false := by
    intro x k hx
    by_cases hxe : x = c.desk
    · subst hxe
      rw [onAirFor_iff, won] at hx
      have := hx.2.symm.trans hout
      exact .inl ⟨rfl, by simpa using this⟩
    · by_cases hs : StandsAside s c.desk c.language c.displaced x
      · simp [onAirFor, (asides x hxe hs).1] at hx
      · refine .inr ⟨hxe, ?_, ?_⟩
        · simpa [onAirFor, others x hxe hs] using hx
        · by_contra hair
          exact hs (aside_of x (by simpa using hair))
  have hdistinct : ((s.claims.languages.map (holdFor c.desk)).map (·.desk)).Nodup := by
    simpa [Function.comp_def] using agree.distinct
  -- a claim of another desk is as it was
  have kept : ∀ d, d.desk ≠ c.desk → (d ∈ s.claims.languages.map (holdFor c.desk) ↔ d ∈ s.claims.languages) := by
    intro d hd
    refine ⟨fun hm => ?_, fun hm => List.mem_map.mpr ⟨d, hm, holdFor_of_ne hd⟩⟩
    obtain ⟨x, hx, rfl⟩ := List.mem_map.mp hm
    rwa [holdFor_of_ne (by simpa using hd)]
  have same : ∀ x, x ≠ c.desk → (deskOf t x).state ≠ .off → deskOf t x = deskOf s x := fun x hx hoff =>
    others x hx fun hs => hoff (by rw [(asides x hx hs).1])
  refine DesksAgree.table ⟨fun x y k hne hx => ?_, hdistinct.sublist (sub.map _), fun x hx => ?_, fun x hx => ?_,
    fun d hd hst => ?_, fun d hd hst => ?_, fun w hw => ?_⟩ (count.trans h.1)
  · by_contra hy
    have hy := air y k (by simpa using hy)
    rcases air x k hx with ⟨hxe, hk⟩ | ⟨-, hxs, hxl⟩
    · rcases hy with ⟨hye, -⟩ | ⟨-, hys, hyl⟩
      · exact hne (hxe.trans hye.symm)
      · simp [hk, hyl] at hys
    · rcases hy with ⟨-, hk⟩ | ⟨-, hys, -⟩
      · simp [hk, hxl] at hxs
      · simp [agree.one x y k hne hxs] at hys
  · by_cases hxe : x = c.desk
    · refine ⟨holdFor c.desk c, (claims _).mpr ⟨List.mem_map_of_mem hc, fun hs => ?_⟩, by simp [hxe], holdFor_stage⟩
      exact notAside c.desk (by simp [hstate]) (by simpa using hs.2)
    · obtain ⟨d, hd, hdesk, hst⟩ := agree.onAir x (by rw [← same x hxe (by simp [hx])]; exact hx)
      refine ⟨d, (claims d).mpr ⟨(kept d (hdesk ▸ hxe)).mpr hd, fun hs => ?_⟩, hdesk, hst⟩
      simp [(asides x hxe (hdesk ▸ hs.2)).1] at hx
  · have hxe : x ≠ c.desk := by
      rintro rfl
      simp [won, aired] at hx
    rw [same x hxe (by simp [hx])] at hx
    obtain ⟨d, hd, hdesk, hst⟩ := agree.intent x hx
    refine ⟨d, (claims d).mpr ⟨(kept d (hdesk ▸ hxe)).mpr hd, fun hs => ?_⟩, hdesk, hst⟩
    simp [hs.1, isIntent] at hst
  · obtain ⟨hm, hs⟩ := (claims d).mp hd
    by_cases hde : d.desk = c.desk
    · obtain ⟨d', hd', rfl⟩ := List.mem_map.mp hm
      obtain rfl := agree.eq_of_desk hd' hc (by simpa using hde)
      simpa [won, aired] using hout
    · have hold := agree.hold d ((kept d hde).mp hm) hst
      rw [others _ hde fun ha => hs ⟨hst, ha⟩]
      exact hold
  · obtain ⟨hm, -⟩ := (claims d).mp hd
    have hde : d.desk ≠ c.desk := by
      intro hde
      obtain ⟨d', hd', rfl⟩ := List.mem_map.mp hm
      obtain rfl := agree.eq_of_desk hd' hc (by simpa using hde)
      simp [holdFor_stage, isLiveIntent] at hst
    have live := agree.live d ((kept d hde).mp hm) hst
    rw [others _ hde (notAside _ (by simp [live.1]))]
    exact live
  · rw [wants] at hw
    have want := agree.want w hw
    have hwe : w.desk ≠ c.desk := fun hwe => by simp [hwe, hstate] at want
    rw [others _ hwe (notAside _ (by simp [want.1]))]
    exact want

theorem deskTable_settleLanguage {s : State} {c : LanguageClaim} (h : DeskTable s) (hc : c ∈ s.claims.languages)
    (hlive : isLiveIntent c.stage = true) : DeskTable (settleLanguage s c) := by
  have agree := h.agree
  have hi : isIntent c.stage = true := by
    cases hst : c.stage <;> simp_all [isIntent, isLiveIntent]
  obtain ⟨hstate, hout⟩ := agree.live c hc hlive
  have he : c.desk < s.booth.desks.length := lt_of_onAir (by simp [hstate])
  cases hwins : languageWins s c with
  | false =>
    rw [settleLanguage_of_loses hwins]
    have lost : DeskLeaves c.desk s (setDeskOff c.desk (dropLanguageIntent c s)) := by
      have desk : ∀ x, deskOf (setDeskOff c.desk (dropLanguageIntent c s)) x =
          if x = c.desk then { deskOf s x with state := .off } else deskOf s x := fun x =>
        deskOf_setDeskOff c.desk x (dropLanguageIntent c s)
      exact dropLanguageIntent_leaves (t := setDeskOff c.desk (dropLanguageIntent c s)) h hc hi rfl rfl
        (List.length_modify ..) (fun x hx => by simp [desk, hx]) (by simp [desk])
    exact (soft_engageDesk _ _).toSoftDesks.table (lost.table h)
  | true =>
    rw [settleLanguage_of_wins hwins]
    have named : ∀ x, c.displaced = some ⟨s.station.number, x⟩ → onAirFor s c.language x = true := fun x hx =>
      onAirFor_of_takeover hx hwins
    obtain ⟨won, asides, others, claims⟩ := deskWon_spec (s := claimHeld c.desk s) (n := c.displaced) he named
    exact deskTable_won h hc hlive won asides others claims (deskWon_sublist _ _ _ _) (by simp [claimHeld])
      (by simp [deskWon_eq, standAsides_count, namedAside_count, claimHeld])

/-- The settlement of one desk's Intent leaves the Intents of the other desks. -/
theorem mem_languages_settleLanguage {s : State} {c d : LanguageClaim} (h : DeskTable s) (hc : c ∈ s.claims.languages)
    (hlive : isLiveIntent c.stage = true) (hne : c.desk ≠ d.desk) (hd : d ∈ s.claims.languages)
    (hdlive : isLiveIntent d.stage = true) : d ∈ (settleLanguage s c).claims.languages := by
  have hi : isIntent c.stage = true := by cases hst : c.stage <;> simp_all [isIntent, isLiveIntent]
  have he : c.desk < s.booth.desks.length := lt_of_onAir (by simp [(h.agree.live c hc hlive).1])
  cases hwins : languageWins s c with
  | false =>
    rw [settleLanguage_of_loses hwins]
    have kept : (deskLost c.desk (dropLanguageIntent c s)).claims = (dropLanguageIntent c s).claims := by
      simp [deskLost, engageDesk, setDeskOff]
    rw [kept]
    exact (mem_dropLanguageIntent h.agree hc hi).mpr ⟨hd, hne.symm⟩
  | true =>
    rw [settleLanguage_of_wins hwins]
    have named : ∀ x, c.displaced = some ⟨s.station.number, x⟩ → onAirFor s c.language x = true := fun x hx =>
      onAirFor_of_takeover hx hwins
    obtain ⟨-, -, -, claims⟩ := deskWon_spec (s := claimHeld c.desk s) (n := c.displaced) he named
    refine (claims d).mpr ⟨List.mem_map.mpr ⟨d, hd, holdFor_of_ne hne.symm⟩, fun hs => ?_⟩
    simp [hs.1, isLiveIntent] at hdlive

theorem relayLaw_settleLanguage (c : LanguageClaim) {s : State} (law : RelayLaw s) : RelayLaw (settleLanguage s c) := by
  cases hwins : languageWins s c with
  | false =>
    rw [settleLanguage_of_loses hwins]
    exact (soft_engageDesk _ _).toSoftDesks.relay (relayLaw_setDeskOff c.desk law)
  | true =>
    rw [settleLanguage_of_wins hwins, deskWon_eq]
    have named : RelayLaw (namedAside c.displaced (claimHeld c.desk s)) := by
      unfold namedAside
      split
      · split
        · exact relayLaw_standAside _ law
        · exact law
      · exact law
    refine relayLaw_modifyDesk (fun _ => relayOk_of_eq rfl) (foldl_preserves (fun u x hu => ?_) _ named)
    split
    · exact relayLaw_standAside x hu
    · exact hu

theorem settleLanguage_flags (s : State) (c : LanguageClaim) (n : Nat) (h : s.port.flags.getLsbD n = true) :
    (settleLanguage s c).port.flags.getLsbD n = true := by
  cases hwins : languageWins s c with
  | false =>
    rw [settleLanguage_of_loses hwins]
    exact (soft_engageDesk _ _).flags n h
  | true =>
    rw [settleLanguage_of_wins hwins, deskWon_eq]
    have named : (namedAside c.displaced (claimHeld c.desk s)).port.flags.getLsbD n = true := by
      unfold namedAside
      split
      · split
        · exact standAside_flags_stay _ _ n h
        · exact h
      · exact h
    refine foldl_preserves (P := fun u : State => u.port.flags.getLsbD n = true) (fun u x hu => ?_) (List.range 4) named
    split
    · exact standAside_flags_stay x u n hu
    · exact hu

theorem settleLanguage_count (s : State) (c : LanguageClaim) :
    (settleLanguage s c).booth.desks.length = s.booth.desks.length := by
  cases hwins : languageWins s c with
  | false => simp [settleLanguage_of_loses hwins, deskLost, engageDesk, setDeskOff, dropLanguageIntent]
  | true => simp [settleLanguage_of_wins hwins, deskWon_eq, standAsides_count, namedAside_count, claimHeld]

/-- The settle step of the languages: the Intents in ascending order of their desks. -/
def settleLanguages (s : State) : State :=
  (sortBy (fun a b => a.desk < b.desk) (s.claims.languages.filter (fun c => isIntent c.stage))).foldl settleLanguage s

/-- No language claim is marked for withdrawal. -/
def NoneMarked (s : State) : Prop := ∀ c ∈ s.claims.languages, c.stage ≠ .intent true

theorem keeps_settleLanguages {s : State} (unmarked : NoneMarked s) : Keeps s (settleLanguages s) := by
  have sizes : SoftSizes s (settleLanguages s) :=
    foldl_rel (r := SoftSizes) (fun _ => .same (by simp)) (fun _ _ _ => SoftSizes.trans)
      (fun u c => ⟨by simp, by simp, by simp, by simp, by simp, settleLanguage_flags u c⟩) _ s
  refine .of_desks (.same (by simp [settleLanguages])) (.same (by simp [settleLanguages])) sizes
    (foldl_keeps (fun u : State => u.booth.desks.length) settleLanguage_count _ s)
    (fun law => foldl_preserves (fun u c hu => relayLaw_settleLanguage c hu) _ law) fun hs hd => ?_
  have table : DeskTable s := ⟨hs.2.2.2.2.2.2, hd⟩
  have sorted := sortBy_perm (fun (a b : LanguageClaim) => decide (a.desk < b.desk))
    (s.claims.languages.filter (fun c => isIntent c.stage))
  have distinct : (sortBy (fun (a b : LanguageClaim) => decide (a.desk < b.desk))
      (s.claims.languages.filter (fun c => isIntent c.stage))).Pairwise (fun a b => a.desk ≠ b.desk) :=
    List.pairwise_map.mp ((sorted.map _).nodup_iff.mpr (table.agree.distinct.sublist (List.filter_sublist.map _)))
  refine (foldl_guarded (P := DeskTable) (Q := fun u (c : LanguageClaim) => c ∈ u.claims.languages ∧ isLiveIntent c.stage = true)
    (R := fun (a b : LanguageClaim) => a.desk ≠ b.desk) (fun u c hu hc => deskTable_settleLanguage hu hc.1 hc.2)
    (fun u c d hu hc hne hd => ⟨mem_languages_settleLanguage hu hc.1 hc.2 hne hd.1 hd.2, hd.2⟩) _ distinct s table
    fun c hc => ?_).2
  obtain ⟨hmem, hi⟩ := List.mem_filter.mp (sorted.mem_iff.mp hc)
  refine ⟨hmem, ?_⟩
  have := unmarked c hmem
  cases hst : c.stage with
  | hold => simp [hst, isIntent] at hi
  | intent m => cases m <;> simp_all [isLiveIntent]

/-! ### Raises -/

/-- A desk that is Off and wants its own language can be raised. -/
def Raisable (s : State) (w : LanguageWant) : Prop :=
  (∃ c ∈ s.claims.languages, c.desk = w.desk) ∨ (deskOf s w.desk).state = .off ∧ (deskOf s w.desk).output = some w.language

/-- What the raise of one want does: nothing where the desk has a claim, the engaged mark where a Normal one finds a holder,
else an Intent. -/
theorem raiseLanguage_cases (s : State) (w : LanguageWant) :
    ((∃ c ∈ s.claims.languages, c.desk = w.desk) ∧ raiseLanguage s w = s) ∨
    ((∀ c ∈ s.claims.languages, c.desk ≠ w.desk) ∧ w.displaced = none ∧ hasHolder s w.language = true ∧
      raiseLanguage s w = engageDesk w.desk s) ∨
    ((∀ c ∈ s.claims.languages, c.desk ≠ w.desk) ∧ (w.displaced ≠ none ∨ hasHolder s w.language = false) ∧
      raiseLanguage s w = deskRaised w.desk { s with claims := { s.claims with
        languages := s.claims.languages ++ [⟨.intent false, w.desk, w.language, w.displaced⟩] } }) := by
  unfold raiseLanguage
  split
  · next h => exact .inl ⟨by simpa using h, rfl⟩
  · next h =>
    have free : ∀ c ∈ s.claims.languages, c.desk ≠ w.desk := by simpa using h
    split
    · next h' =>
      simp only [Bool.and_eq_true, Option.isNone_iff_eq_none] at h'
      exact .inr (.inl ⟨free, h'.1, h'.2, rfl⟩)
    · next h' =>
      refine .inr (.inr ⟨free, ?_, rfl⟩)
      simp only [Bool.and_eq_true, Option.isNone_iff_eq_none, not_and_or, Bool.not_eq_true] at h'
      exact h'

theorem deskOf_deskRaised {e : Nat} {s : State} (he : e < s.booth.desks.length) (x : Nat) :
    deskOf (deskRaised e s) x = if x = e then { deskOf s e with state := .intent } else deskOf s x :=
  deskOf_modifyDesk e x _ s he

theorem deskTable_raised {s t : State} {w : LanguageWant} (h : DeskTable s)
    (free : ∀ c ∈ s.claims.languages, c.desk ≠ w.desk)
    (off : (deskOf s w.desk).state = .off) (out : (deskOf s w.desk).output = some w.language)
    (claims : t.claims.languages = s.claims.languages ++ [⟨.intent false, w.desk, w.language, w.displaced⟩])
    (nowants : t.claims.languageWants = []) (count : t.booth.desks.length = s.booth.desks.length)
    (raised : deskOf t w.desk = { deskOf s w.desk with state := .intent })
    (others : ∀ x, x ≠ w.desk → deskOf t x = deskOf s x) : DeskTable t := by
  have agree := h.agree
  have mem : ∀ d, d ∈ t.claims.languages ↔ d ∈ s.claims.languages ∨ d = ⟨.intent false, w.desk, w.language, w.displaced⟩ := by
    intro d
    rw [claims, List.mem_append, List.mem_singleton]
  have air : ∀ x l, onAirFor t l x = onAirFor s l x := by
    intro x l
    by_cases hx : x = w.desk
    · subst hx
      simp only [onAirFor, raised, off]
      rfl
    · simp [onAirFor, others x hx]
  refine DesksAgree.table ⟨fun x y l hne hx => ?_, ?_, fun x hx => ?_, fun x hx => ?_, fun d hd hst => ?_, fun d hd hst => ?_,
    fun v hv => ?_⟩ (count.trans h.1)
  · rw [air] at hx ⊢
    exact agree.one x y l hne hx
  · rw [claims, List.map_append, List.nodup_append]
    refine ⟨agree.distinct, by simp, ?_⟩
    rintro a ha b hb rfl
    obtain ⟨d, hd, rfl⟩ := List.mem_map.mp ha
    exact free d hd (by simpa using hb)
  · have hxw : x ≠ w.desk := by
      rintro rfl
      simp [raised] at hx
    obtain ⟨d, hd, hrest⟩ := agree.onAir x (others x hxw ▸ hx)
    exact ⟨d, (mem d).mpr (.inl hd), hrest⟩
  · by_cases hxw : x = w.desk
    · exact ⟨_, (mem _).mpr (.inr rfl), hxw.symm, rfl⟩
    · obtain ⟨d, hd, hrest⟩ := agree.intent x (others x hxw ▸ hx)
      exact ⟨d, (mem d).mpr (.inl hd), hrest⟩
  · rcases (mem d).mp hd with hd | rfl
    · rw [others _ (free d hd)]
      exact agree.hold d hd hst
    · simp at hst
  · rcases (mem d).mp hd with hd | rfl
    · rw [others _ (free d hd)]
      exact agree.live d hd hst
    · simp [raised, out]
  · simp [nowants] at hv

theorem deskTable_raiseLanguage {s : State} {w : LanguageWant} (h : DeskTable s) (nowants : s.claims.languageWants = [])
    (hw : Raisable s w) : DeskTable (raiseLanguage s w) := by
  rcases raiseLanguage_cases s w with ⟨-, heq⟩ | ⟨-, -, -, heq⟩ | ⟨free, -, heq⟩ <;> rw [heq]
  · exact h
  · exact (soft_engageDesk _ s).toSoftDesks.table h
  · obtain ⟨off, out⟩ := hw.resolve_left fun ⟨c, hc, hd⟩ => free c hc hd
    have hlt : w.desk < s.booth.desks.length := by
      by_contra hle
      rw [deskOf_of_le (not_lt.mp hle)] at out
      simp [Desk.initial] at out
    refine deskTable_raised h free off out rfl (by simpa using nowants) (by simp [deskRaised]) ?_ fun x hx => ?_
    · exact (deskOf_deskRaised (by simpa using hlt) _).trans (if_pos rfl)
    · exact (deskOf_deskRaised (by simpa using hlt) _).trans (if_neg hx)

/-- The raise of one want leaves every other one raisable. -/
theorem raisable_raiseLanguage {s : State} {w v : LanguageWant} (hv : Raisable s v) : Raisable (raiseLanguage s w) v := by
  rcases raiseLanguage_cases s w with ⟨-, heq⟩ | ⟨-, -, -, heq⟩ | ⟨-, -, heq⟩ <;> rw [heq]
  · exact hv
  · have same := (soft_engageDesk w.desk s).toSoftDesks.deskOf v.desk
    unfold Raisable
    rw [same.1, same.2]
    simpa [Raisable] using hv
  · rcases hv with ⟨c, hc, hd⟩ | ⟨off, out⟩
    · exact .inl ⟨c, by simp [deskRaised, hc], hd⟩
    · by_cases hvw : v.desk = w.desk
      · exact .inl ⟨_, List.mem_append_right _ List.mem_cons_self, hvw.symm⟩
      · have hlt : w.desk < s.booth.desks.length ∨ ¬ w.desk < s.booth.desks.length := em _
        right
        rcases hlt with hlt | hlt
        · have := deskOf_deskRaised (s := { s with claims := { s.claims with
            languages := s.claims.languages ++ [⟨.intent false, w.desk, w.language, w.displaced⟩] } }) hlt v.desk
          rw [this, if_neg hvw]
          exact ⟨off, out⟩
        · have : s.booth.desks.modify w.desk (fun d => { d with state := .intent }) = s.booth.desks :=
            List.modify_eq_self (not_lt.mp hlt)
          simp only [deskOf, deskRaised, modifyDesk, this]
          exact ⟨off, out⟩

theorem keeps_raiseLanguages (s : State) : Keeps s (raiseLanguages s) := by
  have flags : ∀ (u : State) w, SoftSizes u (raiseLanguage u w) := fun u w => by
    rcases raiseLanguage_cases u w with ⟨-, heq⟩ | ⟨-, -, -, heq⟩ | ⟨-, -, heq⟩ <;> rw [heq]
    · exact .same (by simp)
    · exact (soft_engageDesk _ u).toSoftSizes
    · exact .same (by simp)
  have cleared : Soft s { s with claims := { s.claims with languageWants := [] } } := .same (by simp)
  have sizes : SoftSizes s (raiseLanguages s) :=
    cleared.toSoftSizes.trans (foldl_rel (r := SoftSizes) (fun _ => .same (by simp)) (fun _ _ _ => SoftSizes.trans) flags _ _)
  refine .of_desks (.same (by simp)) (.same (by simp)) sizes (foldl_keeps (fun u : State => u.booth.desks.length) (fun u w => ?_) _ _)
    (fun law => foldl_preserves (P := RelayLaw) (fun u w hu => ?_) _ law) fun hs hd => ?_
  · rcases raiseLanguage_cases u w with ⟨-, heq⟩ | ⟨-, -, -, heq⟩ | ⟨-, -, heq⟩ <;> simp [heq, engageDesk, deskRaised]
  · rcases raiseLanguage_cases u w with ⟨-, heq⟩ | ⟨-, -, -, heq⟩ | ⟨-, -, heq⟩ <;> rw [heq]
    · exact hu
    · exact (soft_engageDesk _ u).toSoftDesks.relay hu
    · exact relayLaw_modifyDesk (fun _ => relayOk_of_eq rfl) hu
  · have table : DeskTable s := ⟨hs.2.2.2.2.2.2, hd⟩
    refine (foldl_guarded (P := fun u => DeskTable u ∧ u.claims.languageWants = []) (Q := Raisable) (R := fun _ _ => True)
      (fun u w hu hw => ⟨deskTable_raiseLanguage hu.1 hu.2 hw, by simpa using hu.2⟩)
      (fun u w v _ _ _ hv => raisable_raiseLanguage hv) _ (List.pairwise_of_forall fun _ _ => trivial) _
      ⟨cleared.toSoftDesks.table table, rfl⟩ fun w hw => ?_).1.2
    exact .inr (table.agree.want w ((mem_sortBy _ _ w).mp hw))

end Sys2Proof.Machine
end

section
/-! SUPPORT. The place claims, the open mics and the uplink channels: what each operation that takes one in or out does to
them, and that it keeps their laws (R37, R64). -/

namespace Sys2Proof.Machine

/-! ### A channel names one claim -/

/-- Two claims on one channel are one claim. -/
theorem UplinkLaw.eq_of_uplink {s : State} (law : UplinkLaw s) {c d : PlaceClaim} (hc : c ∈ s.claims.places)
    (hd : d ∈ s.claims.places) (h : c.uplink = d.uplink) : c = d := by
  obtain ⟨-, hseats, -, hbound, -⟩ := law
  have := (hbound c hc).symm.trans (h ▸ hbound d hd)
  exact List.inj_on_of_nodup_map hseats hc hd (by simpa using this)

theorem UplinkLaw.eq_of_seat {s : State} (law : UplinkLaw s) {c d : PlaceClaim} (hc : c ∈ s.claims.places)
    (hd : d ∈ s.claims.places) (h : c.seat = d.seat) : c = d := List.inj_on_of_nodup_map law.2.1 hc hd h

/-- The channel of a claim is one of the six. -/
theorem UplinkLaw.uplink_lt {s : State} (law : UplinkLaw s) {c : PlaceClaim} (hc : c ∈ s.claims.places) : c.uplink < 6 := by
  have := law.2.2.2.1 c hc
  rw [← law.1]
  exact (List.getElem?_eq_some_iff.mp this).1

/-! ### A claim goes with its channel -/

/-- From s to t, claim c goes and its channel is Free. -/
def PlaceGone (c : PlaceClaim) (s t : State) : Prop :=
  (∀ d, d ∈ t.claims.places ↔ d ∈ s.claims.places ∧ d.seat ≠ c.seat) ∧
  t.claims.places.Sublist s.claims.places ∧ t.dlc.uplinks = s.dlc.uplinks.set c.uplink none

/-- The uplink law but for the mics of Holds: the Holds of these seats have none. -/
def UplinkLawBut (seats : List Nat) (s : State) : Prop :=
  s.dlc.uplinks.length = 6 ∧
  (s.claims.places.map (·.seat)).Nodup ∧ (s.floor.mics.map (·.seat)).Nodup ∧
  (∀ c ∈ s.claims.places, s.dlc.uplinks[c.uplink]? = some (some c.seat)) ∧
  (∀ i < 6, ∀ seat ∈ (s.dlc.uplinks[i]?).join, ∃ c ∈ s.claims.places, c.uplink = i ∧ c.seat = seat) ∧
  (∀ m ∈ s.floor.mics, m.seat ∉ seats ∧ ∃ c ∈ s.claims.places, c.stage = .hold ∧ c.seat = m.seat ∧ c.uplink = m.uplink) ∧
  (∀ c ∈ s.claims.places, c.stage = .hold → c.seat ∈ seats ∨ ∃ m ∈ s.floor.mics, m.seat = c.seat)

theorem uplinkLaw_iff_but (s : State) : UplinkLaw s ↔ UplinkLawBut [] s := by simp [UplinkLawBut]

/-- The claims and channels after one claim has gone. -/
theorem channels_of_gone {c : PlaceClaim} {s t : State} (hc : c ∈ s.claims.places) (gone : PlaceGone c s t)
    (hlen : s.dlc.uplinks.length = 6) (hseats : (s.claims.places.map (·.seat)).Nodup)
    (hbound : ∀ c ∈ s.claims.places, s.dlc.uplinks[c.uplink]? = some (some c.seat))
    (hused : ∀ i < 6, ∀ seat ∈ (s.dlc.uplinks[i]?).join, ∃ c ∈ s.claims.places, c.uplink = i ∧ c.seat = seat) :
    t.dlc.uplinks.length = 6 ∧ (t.claims.places.map (·.seat)).Nodup ∧
    (∀ c ∈ t.claims.places, t.dlc.uplinks[c.uplink]? = some (some c.seat)) ∧
    (∀ i < 6, ∀ seat ∈ (t.dlc.uplinks[i]?).join, ∃ c ∈ t.claims.places, c.uplink = i ∧ c.seat = seat) := by
  obtain ⟨hmem, hsub, huplinks⟩ := gone
  rw [huplinks]
  refine ⟨by simpa using hlen, hseats.sublist (hsub.map _), fun d hd => ?_, fun i hi seat hseat => ?_⟩
  · obtain ⟨hd, hne⟩ := (hmem d).mp hd
    have hch : c.uplink ≠ d.uplink := fun h => by
      have := (hbound c hc).symm.trans (h ▸ hbound d hd)
      exact hne (by simpa using this.symm)
    rw [List.getElem?_set_ne hch]
    exact hbound d hd
  · by_cases hch : c.uplink = i
    · simp [← hch, List.getElem?_set] at hseat
      split at hseat <;> simp at hseat
    · rw [List.getElem?_set_ne hch] at hseat
      obtain ⟨d, hd, hdi, hds⟩ := hused i hi seat hseat
      refine ⟨d, (hmem d).mpr ⟨hd, fun h => hch ?_⟩, hdi, hds⟩
      rw [← hdi, List.inj_on_of_nodup_map hseats hd hc h]

theorem uplinkLaw_of_gone {c : PlaceClaim} {s t : State} (law : UplinkLaw s) (hc : c ∈ s.claims.places)
    (hi : isIntent c.stage = true) (gone : PlaceGone c s t) (hmics : t.floor.mics = s.floor.mics) : UplinkLaw t := by
  obtain ⟨hlen, hseats, hdistinct, hbound, hused, hheld, hopen⟩ := law
  obtain ⟨tlen, tseats, tbound, tused⟩ := channels_of_gone hc gone hlen hseats hbound hused
  refine ⟨tlen, tseats, hmics ▸ hdistinct, tbound, tused, fun m hm => ?_, fun d hd hst => ?_⟩
  · obtain ⟨d, hd, hst, hs, hu⟩ := hheld m (hmics ▸ hm)
    refine ⟨d, (gone.1 d).mpr ⟨hd, fun h => ?_⟩, hst, hs, hu⟩
    rw [List.inj_on_of_nodup_map hseats hd hc h] at hst
    simp [hst, isIntent] at hi
  · rw [hmics]
    exact hopen d ((gone.1 d).mp hd).1 hst

/-! ### Withdrawal -/

theorem dropPlaceIntent_gone {s : State} {c : PlaceClaim} (seats : (s.claims.places.map (·.seat)).Nodup)
    (hc : c ∈ s.claims.places) (hi : isIntent c.stage = true) : PlaceGone c s (dropPlaceIntent c s) := by
  refine ⟨fun d => ?_, List.filter_sublist, rfl⟩
  simp only [dropPlaceIntent, setUplink, List.mem_filter, Bool.not_eq_true', Bool.and_eq_false_iff, beq_eq_false_iff_ne]
  refine and_congr_right fun hd => ⟨fun hor hseat => ?_, fun hne => .inl hne⟩
  rw [List.inj_on_of_nodup_map seats hd hc hseat] at hor
  simp [hi] at hor

theorem keeps_dropPlaceIntents (s : State) (p : PlaceClaim → Bool) (hp : ∀ c, p c = true → isIntent c.stage = true) :
    Keeps s ((s.claims.places.filter p).foldl (fun s' c => dropPlaceIntent c s') s) := by
  refine .of_places (.same (by simp)) (.same (by simp)) (.same (by simp)) ?_ (fun law => ?_) fun law => ?_
  · exact foldl_keeps (fun u : State => u.dlc.uplinks.length) (fun u (c : PlaceClaim) => by simp [dropPlaceIntent]) _ _
  · exact foldl_preserves (P := MicLaw) (fun u c hu => by simpa [MicLaw] using hu) _ law
  · have distinct : (s.claims.places.filter p).Pairwise (fun a b => a.seat ≠ b.seat) :=
      List.pairwise_map.mp (law.2.1.sublist (List.filter_sublist.map _))
    refine foldl_guarded (P := UplinkLaw) (Q := fun u (c : PlaceClaim) => c ∈ u.claims.places ∧ isIntent c.stage = true)
      (R := fun (a b : PlaceClaim) => a.seat ≠ b.seat)
      (fun u c hu hc => uplinkLaw_of_gone hu hc.1 hc.2 (dropPlaceIntent_gone hu.2.1 hc.1 hc.2) (by simp))
      (fun u c d hu hc hne hd => ⟨?_, hd.2⟩) _ distinct s law fun c hc => ?_
    · exact ((dropPlaceIntent_gone hu.2.1 hc.1 hc.2).1 d).mpr ⟨hd.1, hne.symm⟩
    · exact ⟨(List.mem_filter.mp hc).1, hp c (List.mem_filter.mp hc).2⟩

/-! ### Settlement -/

/-- The place claims after the Intent of a seat is won. -/
def holdSeat (seat : Nat) (c : PlaceClaim) : PlaceClaim := if c.seat == seat then { c with stage := .hold } else c

@[simp] theorem holdSeat_seat (seat : Nat) (c : PlaceClaim) : (holdSeat seat c).seat = c.seat := by
  unfold holdSeat
  split <;> rfl

@[simp] theorem holdSeat_uplink (seat : Nat) (c : PlaceClaim) : (holdSeat seat c).uplink = c.uplink := by
  unfold holdSeat
  split <;> rfl

theorem holdSeat_self (c : PlaceClaim) : holdSeat c.seat c = { c with stage := .hold } := by simp [holdSeat]

theorem holdSeat_of_ne {seat : Nat} {c : PlaceClaim} (h : c.seat ≠ seat) : holdSeat seat c = c := by
  rw [holdSeat, if_neg (by simpa using h)]

/-- The state in which the Intent of a seat is a Hold. -/
def seatHeld (seat : Nat) (s : State) : State :=
  { s with claims := { s.claims with places := s.claims.places.map (holdSeat seat) } }

/-- The open mics with one more, in order of their seats. -/
def addMic (m : Mic) (s : State) : State :=
  { s with floor := { s.floor with mics := insertBy (fun a b => a.seat < b.seat) m s.floor.mics } }

/-- What a won place does after its mic stands: the request goes, Full is cleared, the own mic that it displaces closes. -/
def afterPlaceWon (c : PlaceClaim) (own : Nat) (s : State) : State :=
  match c.displaced with
  | some n => if n.station = own then closeSeatMic n.item (clearFull c.seat (dropRequest c.seat s))
      else clearFull c.seat (dropRequest c.seat s)
  | none => clearFull c.seat (dropRequest c.seat s)

theorem settlePlace_of_wins {s : State} {c : PlaceClaim} (h : placeWins s c = true) :
    settlePlace s c = afterPlaceWon c s.station.number (addMic (wonMic s c) (seatHeld c.seat s)) := by
  rw [settlePlace, if_pos h]
  rfl

theorem settlePlace_of_loses {s : State} {c : PlaceClaim} (h : placeWins s c = false) :
    settlePlace s c = placeRefused c.origin c.seat (dropPlaceIntent c s) := by
  rw [settlePlace, if_neg (by simp [h])]

theorem soft_afterPlaceWon (c : PlaceClaim) (own : Nat) (s : State) : Soft s (afterPlaceWon c own s) := by
  have cleared : Soft s (clearFull c.seat (dropRequest c.seat s)) := (soft_dropRequest _ s).trans (soft_clearFull _ _)
  unfold afterPlaceWon
  split
  · exact .ite _ (cleared.trans (soft_closeSeatMic _ _)) cleared
  · exact cleared

theorem micOk_wonMic (s : State) (c : PlaceClaim) : MicOk (wonMic s c) := by simp [MicOk, wonMic]

theorem mem_addMic {m x : Mic} {s : State} : x ∈ (addMic m s).floor.mics ↔ x = m ∨ x ∈ s.floor.mics :=
  (insertBy_perm _ m s.floor.mics).mem_iff.trans List.mem_cons

/-- A won Intent, with its mic, keeps the law. -/
theorem uplinkLaw_placeHeld {s : State} {c : PlaceClaim} (law : UplinkLaw s) (hc : c ∈ s.claims.places)
    (hi : isIntent c.stage = true) : UplinkLaw (addMic (wonMic s c) (seatHeld c.seat s)) := by
  obtain ⟨hlen, hseats, hdistinct, hbound, hused, hheld, hopen⟩ := law
  have seats : (s.claims.places.map (holdSeat c.seat)).map (·.seat) = s.claims.places.map (·.seat) := by
    simp [Function.comp_def]
  have noMic : ∀ m ∈ s.floor.mics, m.seat ≠ c.seat := fun m hm h => by
    obtain ⟨d, hd, hst, hs, -⟩ := hheld m hm
    rw [List.inj_on_of_nodup_map hseats hd hc (hs.trans h)] at hst
    simp [hst, isIntent] at hi
  have held : ∀ d ∈ s.claims.places, holdSeat c.seat d ∈ (addMic (wonMic s c) (seatHeld c.seat s)).claims.places :=
    fun d hd => List.mem_map_of_mem hd
  refine ⟨hlen, by simpa only [addMic, seatHeld, seats] using hseats, ?_, fun d hd => ?_, fun i hi' seat hseat => ?_,
    fun m hm => ?_, fun d hd hst => ?_⟩
  · have perm := (insertBy_perm (fun (a b : Mic) => decide (a.seat < b.seat)) (wonMic s c) s.floor.mics).map (·.seat)
    refine perm.nodup_iff.mpr ?_
    simpa [wonMic] using ⟨noMic, hdistinct⟩
  · obtain ⟨d', hd', rfl⟩ := List.mem_map.mp hd
    simpa [addMic, seatHeld] using hbound d' hd'
  · obtain ⟨d, hd, hu, hs⟩ := hused i hi' seat hseat
    exact ⟨_, held d hd, by simpa using hu, by simpa using hs⟩
  · rcases mem_addMic.mp hm with rfl | hm
    · exact ⟨_, held c hc, by simp [holdSeat_self], by simp [wonMic], by simp [wonMic]⟩
    · obtain ⟨d, hd, hst, hs, hu⟩ := hheld m hm
      have hne : d.seat ≠ c.seat := hs ▸ noMic m hm
      exact ⟨d, by simpa [holdSeat_of_ne hne] using held d hd, hst, hs, hu⟩
  · obtain ⟨d', hd', rfl⟩ := List.mem_map.mp hd
    by_cases hne : d'.seat = c.seat
    · exact ⟨wonMic s c, mem_addMic.mpr (.inl rfl), by simp [wonMic, hne]⟩
    · rw [holdSeat_of_ne hne] at hst ⊢
      obtain ⟨m, hm, hs⟩ := hopen d' hd' hst
      exact ⟨m, mem_addMic.mpr (.inr hm), hs⟩

theorem soft_placeLost (c : PlaceClaim) (s : State) : Soft s (placeRefused c.origin c.seat s) := soft_placeRefused _ _ s

theorem uplinkLaw_settlePlace {s : State} {c : PlaceClaim} (law : UplinkLaw s) (hc : c ∈ s.claims.places)
    (hi : isIntent c.stage = true) : UplinkLaw (settlePlace s c) := by
  cases h : placeWins s c with
  | true =>
    rw [settlePlace_of_wins h]
    exact (soft_afterPlaceWon _ _ _).toSoftPlaces.uplink (uplinkLaw_placeHeld law hc hi)
  | false =>
    rw [settlePlace_of_loses h]
    exact (soft_placeRefused _ _ _).toSoftPlaces.uplink
      (uplinkLaw_of_gone law hc hi (dropPlaceIntent_gone law.2.1 hc hi) (by simp))

/-- The settlement of one seat's Intent leaves the claims of the other seats. -/
theorem mem_places_settlePlace {s : State} {c d : PlaceClaim} (law : UplinkLaw s) (hc : c ∈ s.claims.places)
    (hi : isIntent c.stage = true) (hne : c.seat ≠ d.seat) (hd : d ∈ s.claims.places) :
    d ∈ (settlePlace s c).claims.places := by
  cases h : placeWins s c with
  | true =>
    rw [settlePlace_of_wins h]
    have same : (afterPlaceWon c s.station.number (addMic (wonMic s c) (seatHeld c.seat s))).claims =
        (seatHeld c.seat s).claims := by
      unfold afterPlaceWon
      split
      · split <;> simp [addMic]
      · simp [addMic]
    rw [same]
    exact List.mem_map.mpr ⟨d, hd, holdSeat_of_ne hne.symm⟩
  | false =>
    rw [settlePlace_of_loses h]
    have same : (placeRefused c.origin c.seat (dropPlaceIntent c s)).claims = (dropPlaceIntent c s).claims := by simp
    rw [same]
    exact ((dropPlaceIntent_gone law.2.1 hc hi).1 d).mpr ⟨hd, hne.symm⟩

theorem micLaw_settlePlace (c : PlaceClaim) {s : State} (law : MicLaw s) : MicLaw (settlePlace s c) := by
  cases h : placeWins s c with
  | true =>
    rw [settlePlace_of_wins h]
    refine (soft_afterPlaceWon _ _ _).toSoftPlaces.mic fun m hm => ?_
    rcases mem_addMic.mp hm with rfl | hm
    · exact micOk_wonMic s c
    · exact law m hm
  | false =>
    rw [settlePlace_of_loses h]
    exact (soft_placeRefused _ _ _).toSoftPlaces.mic (by simpa [MicLaw] using law)

theorem softSizes_settlePlace (s : State) (c : PlaceClaim) : SoftSizes s (settlePlace s c) := by
  cases h : placeWins s c with
  | true =>
    have held : SoftSizes s (addMic (wonMic s c) (seatHeld c.seat s)) :=
      ⟨id, id, id, id, id, fun _ h => h⟩
    rw [settlePlace_of_wins h]
    exact held.trans (soft_afterPlaceWon _ _ _).toSoftSizes
  | false =>
    have dropped : SoftSizes s (dropPlaceIntent c s) := .same (by simp)
    rw [settlePlace_of_loses h]
    exact dropped.trans (soft_placeRefused _ _ _).toSoftSizes

theorem settlePlace_count (s : State) (c : PlaceClaim) : (settlePlace s c).dlc.uplinks.length = s.dlc.uplinks.length := by
  cases h : placeWins s c with
  | true =>
    rw [settlePlace_of_wins h, (soft_afterPlaceWon _ _ _).uplinks]
    rfl
  | false =>
    rw [settlePlace_of_loses h, (soft_placeRefused _ _ _).uplinks]
    simp [dropPlaceIntent]

/-- The settle step of the places: the Intents in descending order of their keys. -/
def settlePlaces (s : State) : State :=
  (sortBy (fun a b => placeHigher (ownKey s a.cls a.seat) (ownKey s b.cls b.seat))
    (s.claims.places.filter (fun c => isIntent c.stage))).foldl settlePlace s

theorem keeps_settlePlaces (s : State) : Keeps s (settlePlaces s) := by
  have sizes : SoftSizes s (settlePlaces s) :=
    foldl_rel (r := SoftSizes) (fun _ => .same (by simp)) (fun _ _ _ => SoftSizes.trans) softSizes_settlePlace _ s
  refine .of_places (.same (by simp [settlePlaces])) (.same (by simp [settlePlaces])) sizes
    (foldl_keeps (fun u : State => u.dlc.uplinks.length) settlePlace_count _ s)
    (fun law => foldl_preserves (fun u c hu => micLaw_settlePlace c hu) _ law) fun law => ?_
  have sorted := sortBy_perm (fun (a b : PlaceClaim) => placeHigher (ownKey s a.cls a.seat) (ownKey s b.cls b.seat))
    (s.claims.places.filter (fun c => isIntent c.stage))
  have distinct : (sortBy (fun (a b : PlaceClaim) => placeHigher (ownKey s a.cls a.seat) (ownKey s b.cls b.seat))
      (s.claims.places.filter (fun c => isIntent c.stage))).Pairwise (fun a b => a.seat ≠ b.seat) :=
    List.pairwise_map.mp ((sorted.map _).nodup_iff.mpr (law.2.1.sublist (List.filter_sublist.map _)))
  refine foldl_guarded (P := UplinkLaw) (Q := fun u (c : PlaceClaim) => c ∈ u.claims.places ∧ isIntent c.stage = true)
    (R := fun (a b : PlaceClaim) => a.seat ≠ b.seat) (fun u c hu hc => uplinkLaw_settlePlace hu hc.1 hc.2)
    (fun u c d hu hc hne hd => ⟨mem_places_settlePlace hu hc.1 hc.2 hne hd.1, hd.2⟩) _ distinct s law fun c hc => ?_
  exact List.mem_filter.mp (sorted.mem_iff.mp hc)

/-! ### Raises -/

/-- What the raise of one want does: nothing where its seat is busy, a refusal where there is no channel or no place, else an
Intent on the lowest Free channel. -/
theorem raisePlace_cases (s : State) (w : PlaceWant) :
    (((∃ c ∈ s.claims.places, c.seat = w.seat) ∨ ∃ m ∈ s.floor.mics, m.seat = w.seat) ∧ raisePlace s w = s) ∨
    ((∀ c ∈ s.claims.places, c.seat ≠ w.seat) ∧ (∀ m ∈ s.floor.mics, m.seat ≠ w.seat) ∧
      (freeUplink s = none ∨ w.displaced = none ∧ w.cls ≤ 1 ∧ freePlaces s = 0) ∧
      raisePlace s w = placeRefused w.origin w.seat s) ∨
    ((∀ c ∈ s.claims.places, c.seat ≠ w.seat) ∧ (∀ m ∈ s.floor.mics, m.seat ≠ w.seat) ∧
      ¬ (w.displaced = none ∧ w.cls ≤ 1 ∧ freePlaces s = 0) ∧
      ∃ ch, freeUplink s = some ch ∧ raisePlace s w = raisePlaceOn ch w s) := by
  unfold raisePlace
  split
  · next h =>
    refine .inl ⟨?_, rfl⟩
    simpa [micOf] using h
  · next h =>
    have free : (∀ c ∈ s.claims.places, c.seat ≠ w.seat) ∧ ∀ m ∈ s.floor.mics, m.seat ≠ w.seat := by
      simpa [micOf] using h
    split
    · next hch => exact .inr (.inl ⟨free.1, free.2, .inl hch, rfl⟩)
    · next ch hch =>
      split
      · next h' => exact .inr (.inl ⟨free.1, free.2, .inr (by simpa [counted, and_assoc] using h'), rfl⟩)
      · next h' => exact .inr (.inr ⟨free.1, free.2, by simpa [counted, and_assoc] using h', ch, hch, rfl⟩)

theorem uplinkLaw_raisePlaceOn {s : State} {w : PlaceWant} {ch : Nat} (law : UplinkLaw s)
    (noClaim : ∀ c ∈ s.claims.places, c.seat ≠ w.seat) (free : s.dlc.uplinks[ch]? = some none) :
    UplinkLaw (raisePlaceOn ch w s) := by
  obtain ⟨hlen, hseats, hdistinct, hbound, hused, hheld, hopen⟩ := law
  have hlt : ch < s.dlc.uplinks.length := (List.getElem?_eq_some_iff.mp free).1
  have mem : ∀ d, d ∈ (raisePlaceOn ch w s).claims.places ↔
      d ∈ s.claims.places ∨ d = ⟨.intent false, w.seat, w.cls, w.displaced, ch, w.origin⟩ := by
    intro d
    simp [raisePlaceOn, setUplink]
  refine ⟨by simpa [raisePlaceOn] using hlen, ?_, hdistinct, fun c hc => ?_, fun i hi seat hseat => ?_, fun m hm => ?_,
    fun c hc hst => ?_⟩
  · simp only [raisePlaceOn, setUplink, List.map_append, List.nodup_append]
    refine ⟨hseats, by simp, ?_⟩
    rintro a ha b hb rfl
    obtain ⟨d, hd, rfl⟩ := List.mem_map.mp ha
    exact noClaim d hd (by simpa using hb)
  · simp only [raisePlaceOn, setUplink_uplinks]
    rcases (mem c).mp hc with hc | rfl
    · have hne : ch ≠ c.uplink := fun h => by
        have := hbound c hc
        rw [← h, free] at this
        simp at this
      rw [List.getElem?_set_ne hne]
      exact hbound c hc
    · simp [hlt]
  · simp only [raisePlaceOn, setUplink_uplinks] at hseat
    by_cases hch : ch = i
    · subst hch
      simp [hlt] at hseat
      exact ⟨_, (mem _).mpr (.inr rfl), rfl, hseat⟩
    · rw [List.getElem?_set_ne hch] at hseat
      obtain ⟨d, hd, hrest⟩ := hused i hi seat hseat
      exact ⟨d, (mem d).mpr (.inl hd), hrest⟩
  · obtain ⟨d, hd, hrest⟩ := hheld m hm
    exact ⟨d, (mem d).mpr (.inl hd), hrest⟩
  · rcases (mem c).mp hc with hc | rfl
    · exact hopen c hc hst
    · simp at hst

theorem keeps_raisePlace (s : State) (w : PlaceWant) : Keeps s (raisePlace s w) := by
  rcases raisePlace_cases s w with ⟨-, heq⟩ | ⟨-, -, -, heq⟩ | ⟨noClaim, -, -, ch, hch, heq⟩ <;> rw [heq]
  · exact .refl s
  · exact (soft_placeRefused _ _ s).keeps
  · exact .of_places (.same (by simp)) (.same (by simp)) (.same (by simp)) (by simp [raisePlaceOn]) id fun law =>
      uplinkLaw_raisePlaceOn law noClaim ((freeUplink_spec s ch).mp hch).1

theorem keeps_raisePlaces (s : State) : Keeps s (raisePlaces s) := by
  have cleared : Soft s { s with claims := { s.claims with placeWants := [] } } := .same (by simp)
  exact cleared.keeps.trans (foldl_rel (r := Keeps) Keeps.refl (fun _ _ _ => Keeps.trans) keeps_raisePlace _ _)

/-! ### A mic fades out -/

/-- The end of a seat's Hold, where it has one: the claim goes and its channel is Free. -/
theorem endPlaceHold_gone {s : State} {c : PlaceClaim} (seats : (s.claims.places.map (·.seat)).Nodup)
    (hc : c ∈ s.claims.places) (hst : c.stage = .hold) : PlaceGone c s (endPlaceHold c.seat s) := by
  have only : s.claims.places.filter (fun d => d.seat == c.seat && d.stage == .hold) = [c] := by
    have h1 : c ∈ s.claims.places.filter (fun d => d.seat == c.seat && d.stage == .hold) :=
      List.mem_filter.mpr ⟨hc, by simp [hst]⟩
    have h2 : ∀ d ∈ s.claims.places.filter (fun d => d.seat == c.seat && d.stage == .hold), d = c := fun d hd => by
      obtain ⟨hd, hp⟩ := List.mem_filter.mp hd
      exact List.inj_on_of_nodup_map seats hd hc (by simp at hp; exact hp.1)
    have h3 := (List.Nodup.of_map _ seats).filter (fun d => d.seat == c.seat && d.stage == .hold)
    refine List.perm_singleton.mp ((List.perm_ext_iff_of_nodup h3 (List.nodup_singleton c)).mpr fun d => ?_)
    exact ⟨fun hd => List.mem_singleton.mpr (h2 d hd), fun hd => List.mem_singleton.mp hd ▸ h1⟩
  refine ⟨fun d => ?_, ?_, ?_⟩
  · rw [endPlaceHold_places]
    simp only [List.mem_filter, Bool.not_eq_true', Bool.and_eq_false_iff, beq_eq_false_iff_ne]
    refine and_congr_right fun hd => ⟨fun hor hseat => ?_, fun hne => .inl hne⟩
    rw [List.inj_on_of_nodup_map seats hd hc hseat] at hor
    simp [hst] at hor
  · rw [endPlaceHold_places]
    exact List.filter_sublist
  · simp [endPlaceHold, only]

/-- Where the seat has no Hold, its end changes nothing. -/
theorem endPlaceHold_none {s : State} {seat : Nat} (h : ∀ c ∈ s.claims.places, c.seat = seat → c.stage ≠ .hold) :
    endPlaceHold seat s = s := by
  have none_ : s.claims.places.filter (fun c => c.seat == seat && c.stage == .hold) = [] := by
    refine List.filter_eq_nil_iff.mpr fun c hc => ?_
    simpa using h c hc
  have all : s.claims.places.filter (fun c => !(c.seat == seat && c.stage == .hold)) = s.claims.places := by
    refine List.filter_eq_self.mpr fun c hc => ?_
    have := h c hc
    simpa [Bool.or_eq_true, imp_iff_not_or] using this
  simp only [endPlaceHold, none_, all, List.foldl_nil]

theorem uplinkLawBut_endPlaceHold {s : State} {seat : Nat} {seats : List Nat} (law : UplinkLawBut (seat :: seats) s) :
    UplinkLawBut seats (endPlaceHold seat s) := by
  obtain ⟨hlen, hseats, hdistinct, hbound, hused, hheld, hopen⟩ := law
  have kept : (endPlaceHold seat s).floor = s.floor := by simp
  unfold UplinkLawBut
  rw [kept]
  by_cases hc : ∃ c ∈ s.claims.places, c.seat = seat ∧ c.stage = .hold
  · obtain ⟨c, hc, rfl, hst⟩ := hc
    have gone := endPlaceHold_gone hseats hc hst
    obtain ⟨tlen, tseats, tbound, tused⟩ := channels_of_gone hc gone hlen hseats hbound hused
    refine ⟨tlen, tseats, hdistinct, tbound, tused, fun m hm => ?_, fun d hd hdst => ?_⟩
    · obtain ⟨hne, d, hd, hdst, hs, hu⟩ := hheld m hm
      simp only [List.mem_cons, not_or] at hne
      exact ⟨hne.2, d, (gone.1 d).mpr ⟨hd, hs ▸ hne.1⟩, hdst, hs, hu⟩
    · obtain ⟨hd, hne⟩ := (gone.1 d).mp hd
      rcases hopen d hd hdst with hin | hm
      · exact .inl ((List.mem_cons.mp hin).resolve_left hne)
      · exact .inr hm
  · have hnone : ∀ c ∈ s.claims.places, c.seat = seat → c.stage ≠ .hold := fun c hcm hs hst => hc ⟨c, hcm, hs, hst⟩
    rw [endPlaceHold_none hnone]
    refine ⟨hlen, hseats, hdistinct, hbound, hused, fun m hm => ?_, fun d hd hdst => ?_⟩
    · obtain ⟨hne, hrest⟩ := hheld m hm
      exact ⟨fun hin => hne (List.mem_cons_of_mem _ hin), hrest⟩
    · rcases hopen d hd hdst with hin | hm
      · exact .inl ((List.mem_cons.mp hin).resolve_left fun hs => hnone d hd hs hdst)
      · exact .inr hm

theorem uplinkLaw_endPlaceHolds : ∀ (seats : List Nat) {s : State}, UplinkLawBut seats s →
    UplinkLaw (seats.foldl (fun s' seat => endPlaceHold seat s') s)
  | [], s, law => (uplinkLaw_iff_but s).mpr law
  | _ :: seats, _, law => uplinkLaw_endPlaceHolds seats (uplinkLawBut_endPlaceHold law)

/-- Some mics go, with all that stand at their seats. -/
theorem uplinkLawBut_removeMics {s : State} (law : UplinkLaw s) (p : Mic → Bool) {seats : List Nat}
    (hseats : ∀ m ∈ s.floor.mics, m.seat ∈ seats ↔ p m = true) :
    UplinkLawBut seats { s with floor := { s.floor with mics := s.floor.mics.filter (fun m => !p m) } } := by
  obtain ⟨hlen, hclaims, hdistinct, hbound, hused, hheld, hopen⟩ := law
  refine ⟨hlen, hclaims, hdistinct.sublist (List.filter_sublist.map _), hbound, hused, fun m hm => ?_, fun c hc hst => ?_⟩
  · obtain ⟨hm, hp⟩ := List.mem_filter.mp hm
    exact ⟨fun hin => by simp [(hseats m hm).mp hin] at hp, hheld m hm⟩
  · obtain ⟨m, hm, hs⟩ := hopen c hc hst
    cases hp : p m with
    | true => exact .inl (hs ▸ (hseats m hm).mpr hp)
    | false => exact .inr ⟨m, List.mem_filter.mpr ⟨hm, by simp [hp]⟩, hs⟩

theorem endPlaceHold_count (seat : Nat) (s : State) : (endPlaceHold seat s).dlc.uplinks.length = s.dlc.uplinks.length := by
  unfold endPlaceHold
  exact foldl_keeps (fun u : State => u.dlc.uplinks.length) (fun u (c : PlaceClaim) => by simp) _ _

/-- Some mics go, and the Holds of a list of seats end. -/
theorem keeps_endMics (s : State) (p : Mic → Bool) (seats : List Nat)
    (hseats : (s.floor.mics.map (·.seat)).Nodup → ∀ m ∈ s.floor.mics, m.seat ∈ seats ↔ p m = true) :
    Keeps s (seats.foldl (fun s' seat => endPlaceHold seat s')
      { s with floor := { s.floor with mics := s.floor.mics.filter (fun m => !p m) } }) := by
  refine .of_places (.same (by simp)) (.same (by simp)) (.same (by simp)) ?_ (fun law m hm => ?_) fun law => ?_
  · exact foldl_keeps (fun u : State => u.dlc.uplinks.length) (fun u x => endPlaceHold_count x u) _ _
  · rw [foldl_keeps (fun u : State => u.floor.mics) (fun u x => by simp)] at hm
    exact law m (List.mem_filter.mp hm).1
  · exact uplinkLaw_endPlaceHolds seats (uplinkLawBut_removeMics law p (hseats law.2.2.1))

theorem keeps_removeFaded (s : State) : Keeps s (removeFaded s) := by
  refine keeps_endMics s fadedOut _ fun hdistinct m hm => ?_
  simp only [List.mem_map, List.mem_filter]
  constructor
  · rintro ⟨k, ⟨hk, hp⟩, hs⟩
    rwa [← List.inj_on_of_nodup_map hdistinct hk hm hs]
  · exact fun hp => ⟨m, ⟨hm, hp⟩, rfl⟩

theorem keeps_fadeOutOp (seat : Nat) (s : State) : Keeps s (fadeOutOp seat s) := by
  refine .ite _ (fun _ => ?_) fun _ => .refl s
  have ended := keeps_endMics s (fun m => m.seat == seat) [seat] fun _ m _ => by simp
  simpa [bne] using ended

end Sys2Proof.Machine
end

section
/-! SUPPORT and PROOF. Every command keeps the laws of the tables: the claim work of an own slot, the link failures and
recoveries, the slot close, the switch point and the resets put together; then the three step laws that follow from it. -/

namespace Sys2Proof.Machine

/-! ### The claim work of an own slot -/

/-- Folding the withdrawal of language Intents takes out the Intents of those desks, and no other claim. -/
theorem mem_withdrawLanguages (l : List LanguageClaim) : ∀ (s : State) (x : LanguageClaim),
    x ∈ (l.foldl (fun s' c => withdrawLanguage c s') s).claims.languages ↔
      x ∈ s.claims.languages ∧ ¬ (isIntent x.stage = true ∧ ∃ c ∈ l, c.desk = x.desk) := by
  induction l with
  | nil => simp
  | cons c l ih =>
    intro s x
    have now : x ∈ (withdrawLanguage c s).claims.languages ↔
        x ∈ s.claims.languages ∧ ¬ (x.desk = c.desk ∧ isIntent x.stage = true) := by
      simp [withdrawLanguage, deskWithdrawn, dropLanguageIntent, imp_iff_not_or]
    rw [List.foldl_cons, ih, now]
    simp only [List.mem_cons, exists_eq_or_imp, and_assoc, eq_comm (a := c.desk)]
    generalize (∃ c ∈ l, c.desk = x.desk) = later
    tauto

/-- Folding the withdrawal of place Intents takes out the Intents of those seats, and no other claim. -/
theorem mem_dropPlaceIntents (l : List PlaceClaim) : ∀ (s : State) (x : PlaceClaim),
    x ∈ (l.foldl (fun s' c => dropPlaceIntent c s') s).claims.places ↔
      x ∈ s.claims.places ∧ ¬ (isIntent x.stage = true ∧ ∃ c ∈ l, c.seat = x.seat) := by
  induction l with
  | nil => simp
  | cons c l ih =>
    intro s x
    have now : x ∈ (dropPlaceIntent c s).claims.places ↔
        x ∈ s.claims.places ∧ ¬ (x.seat = c.seat ∧ isIntent x.stage = true) := by
      simp [dropPlaceIntent, setUplink, imp_iff_not_or]
    rw [List.foldl_cons, ih, now]
    simp only [List.mem_cons, exists_eq_or_imp, and_assoc, eq_comm (a := c.seat)]
    generalize (∃ c ∈ l, c.seat = x.seat) = later
    tauto

/-- The withdraw step for the place Intents. -/
def withdrawPlaces (s : State) : State :=
  (s.claims.places.filter (fun c => isMarked c.stage)).foldl (fun s' c => dropPlaceIntent c s') s

/-- The withdraw step for the language Intents. -/
def withdrawLanguages (s : State) : State :=
  (s.claims.languages.filter (fun c => isMarked c.stage)).foldl (fun s' c => withdrawLanguage c s') s

/-- The withdraw step for the lane Intents. -/
def withdrawLanes (s : State) : State :=
  (s.claims.lanes.filter (fun c => isMarked c.stage || (isIntent c.stage && !hasDemand s c.language))).foldl
    (fun s' c => dropLaneIntent c s') s

theorem withdrawStep_eq (marked : List Nat) (s : State) :
    withdrawStep marked s = withdrawLanes (withdrawLanguages (withdrawPlaces (releaseLanes marked s))) := rfl

theorem settleStep_eq (s : State) : settleStep s = settleLanes (settleLanguages (settlePlaces s)) := rfl

theorem raiseStep_eq (s : State) : raiseStep s = raiseLanes (raiseLanguages (raisePlaces (deriveAutoAdvance s))) := rfl

theorem isIntent_of_marked {x : Stage} (h : isMarked x = true) : isIntent x = true := by
  cases x <;> simp_all [isMarked, isIntent]

theorem keeps_withdrawStep (marked : List Nat) (s : State) : Keeps s (withdrawStep marked s) := by
  rw [withdrawStep_eq]
  refine (((keeps_releaseLanes marked s).trans (keeps_dropPlaceIntents _ _ fun _ => isIntent_of_marked)).trans
    (keeps_withdrawLanguages _ _ fun _ => isIntent_of_marked)).trans (keeps_dropLaneIntents _ _ fun c hc => ?_)
  rcases Bool.or_eq_true_iff.mp hc with h | h
  · exact isIntent_of_marked h
  · exact (Bool.and_eq_true_iff.mp h).1

/-- After the withdraw step no language claim is marked. -/
theorem noneMarked_withdrawStep (marked : List Nat) (s : State) : NoneMarked (withdrawStep marked s) := by
  have same : (withdrawStep marked s).claims.languages =
      (withdrawLanguages (withdrawPlaces (releaseLanes marked s))).claims.languages := by
    rw [withdrawStep_eq]
    simp [withdrawLanes]
  intro c hc hst
  rw [same] at hc
  obtain ⟨hmem, hnot⟩ := (mem_withdrawLanguages _ _ c).mp hc
  exact hnot ⟨by simp [hst, isIntent], c, List.mem_filter.mpr ⟨hmem, by simp [hst, isMarked]⟩, rfl⟩

theorem keeps_settleStep {s : State} (unmarked : NoneMarked s) : Keeps s (settleStep s) := by
  have still : NoneMarked (settlePlaces s) := by
    unfold NoneMarked
    have : (settlePlaces s).claims.languages = s.claims.languages := by simp [settlePlaces]
    rwa [this]
  exact ((keeps_settlePlaces s).trans (keeps_settleLanguages still)).trans (keeps_settleLanes _)

theorem keeps_raiseStep (s : State) : Keeps s (raiseStep s) :=
  (((soft_deriveAutoAdvance s).keeps.trans (keeps_raisePlaces _)).trans (keeps_raiseLanguages _)).trans (keeps_raiseLanes _)

theorem keeps_claimWork (marked : List Nat) (s : State) : Keeps s (claimWork marked s) := by
  have work : Keeps s (raiseStep (laneConflictStep (settleStep (withdrawStep marked s)))) :=
    (((keeps_withdrawStep marked s).trans (keeps_settleStep (noneMarked_withdrawStep marked s))).trans
      (keeps_laneConflictStep _)).trans (keeps_raiseStep _)
  unfold claimWork
  split
  · exact work
  · exact work
  · exact (soft_dropWants s).keeps
  · exact .refl s

theorem keeps_ownSlotOp (s : State) : Keeps s (ownSlotOp s) := by
  refine .ite _ (fun _ => .refl s) fun _ => ?_
  exact ((((((soft_roomCommandWork s).keeps.trans (keeps_deskConflictStep _)).trans (keeps_claimWork _ _)).trans
    (soft_sourceStep _).keeps).trans (soft_compose _).keeps).trans (soft_retireCommand _).keeps).trans (soft_evalDemand _).keeps

/-! ### Link failure and recovery -/

theorem keeps_isolateClaims (s : State) : Keeps s (isolateClaims s) :=
  (keeps_dropLaneIntents s _ fun _ h => h).trans
    (keeps_withdrawLanguages _ _ fun _ h => (Bool.and_eq_true_iff.mp h).1)

theorem keeps_enterIsolated (s : State) : Keeps s (enterIsolated s) :=
  (((((soft_isolateLink s).trans (soft_changeState _ _ _)).trans (soft_forgetPeers _)).keeps.trans
    (keeps_isolateClaims _)).trans (keeps_releaseAllLanes _)).trans (soft_isolatePlan _).keeps

theorem keeps_takeLinkFailure (s : State) : Keeps s (takeLinkFailure s) :=
  .ite _ (fun _ => ((soft_raiseIf _ _ s).trans (soft_raiseIf _ _ _)).keeps.trans (keeps_enterIsolated _)) fun _ => .refl s

theorem keeps_withdrawAllIntents (s : State) : Keeps s (withdrawAllIntents s) :=
  ((keeps_dropPlaceIntents s _ fun _ h => h).trans (keeps_withdrawLanguages _ _ fun _ h => h)).trans
    (keeps_dropLaneIntents _ _ fun _ h => h)

theorem keeps_leaveIsolated (s : State) : Keeps s (leaveIsolated s) :=
  (keeps_withdrawAllIntents s).trans
    (((soft_removeCurrent _).trans (soft_forgetPeers _)).trans (soft_enterJoining _)).keeps

theorem keeps_takeLinkRecovery (s : State) : Keeps s (takeLinkRecovery s) :=
  .ite _ (fun _ => keeps_leaveIsolated s) fun _ => .refl s

/-! ### Switch point, slot close, house sync mark -/

theorem keeps_floorSwitchPoint (s : State) : Keeps s (floorSwitchPoint s) :=
  (((soft_advanceMics s).trans (soft_advanceRequests _)).keeps.trans (keeps_removeFaded _)).trans (soft_expireSpeaking _).keeps

theorem keeps_switchPointWork (s : State) : Keeps s (switchPointWork s) := by
  have judged : Soft s (advanceFull (advancePeers { s with lif := evaluateLink s.lif })) :=
    ((soft_lif s _).trans (soft_advancePeers _)).trans (soft_advanceFull _)
  have latched : ∀ u : State, Soft u (forgetLeft (latchPlan (applySources (latchWriteSet u)))) := fun u =>
    (((soft_lif u _).trans (soft_applySources _)).trans (soft_mix _ _)).trans (soft_forgetLeft _)
  exact (judged.keeps.trans (keeps_floorSwitchPoint _)).trans
    (((soft_advanceDesks _).trans (soft_advanceLanes _)).trans (latched _)).keeps

theorem keeps_switchPointOp (s : State) : Keeps s (switchPointOp s) :=
  ((keeps_switchPointWork s).trans (keeps_takeLinkFailure _)).trans (keeps_takeLinkRecovery _)

/-- What an arriving announcement changes before its displacements. -/
theorem soft_peerArrival (t : Nat) (a : Announcement) (s : State) :
    ∃ u, Soft s u ∧ peerArrival t a s = evalDemand (applyTakeovers a (applyOverrides a u)) := by
  refine ⟨_, ?_, rfl⟩
  have taken : Soft s (raiseIf (peerDiffers (peerAt s t) a) .peerChanged (setPeer t (some ⟨0, 0, a⟩) (noteLeft t a s))) :=
    ((soft_noteLeft t a s).trans (soft_setPeer _ _ _)).trans (soft_raiseIf _ _ _)
  have forgotten := taken.trans (.ite (epochDiffers (peerAt s t) a = true) (soft_forgetCommand t _) (.refl _))
  exact ((forgotten.trans (soft_recompute _)).trans (soft_mismatchTest t a _)).trans (soft_commandTest t a _)

theorem keeps_peerArrival (t : Nat) (a : Announcement) (s : State) : Keeps s (peerArrival t a s) := by
  obtain ⟨u, soft, heq⟩ := soft_peerArrival t a s
  rw [heq]
  exact ((soft.trans (soft_applyOverrides a u)).keeps.trans (keeps_applyTakeovers a _)).trans (soft_evalDemand _).keeps

theorem keeps_slotCloseOp (t : Nat) (s : State) : Keeps s (slotCloseOp t s) := by
  have taken := (soft_takeSlot s).keeps
  unfold slotCloseOp
  split
  · refine .ite _ (fun _ => .ite _ (fun _ => ?_) fun _ => taken.trans (soft_setMark _ _ _).keeps) fun _ =>
      .ite _ (fun _ => taken) fun _ => .refl s
    split
    · exact taken.trans (keeps_peerArrival _ _ _)
    · exact taken.trans (soft_peerMissing _ _).keeps
  · exact .refl s

theorem keeps_hsyncOp (u : Option UnitReply) (d : Option DeskReply) (s : State) : Keeps s (hsyncOp u d s) := by
  have acquired : ∀ v : State, Keeps v (acquire v) := fun v => (soft_lif v _).keeps
  unfold hsyncOp
  split
  · exact .ite _ (fun _ => acquired s) fun _ => (((soft_resetPolling u s).keeps.trans (keeps_resetBooth d _)).trans
      (soft_cutShort _).keeps).trans (acquired _)
  · exact .ite _ (fun _ => (soft_lif s _).keeps) fun _ => .refl s

/-! ### The laws after a reset -/

/-- The laws of the tables that no command may break, together. -/
structure TableLaws (s : State) : Prop where
  mic : MicLaw s
  relay : RelayLaw s
  uplink : UplinkLaw s
  lane : LaneLaw s
  desk : DeskLaw s

theorem tableLaws_empty {s : State} (hplaces : s.claims.places = []) (hlanguages : s.claims.languages = [])
    (hlanes : s.claims.lanes = []) (hwants : s.claims.languageWants = []) (hmics : s.floor.mics = [])
    (huplinks : s.dlc.uplinks = List.replicate 6 none) (hholdings : s.lanes.holdings = [])
    (hdesks : ∀ d ∈ s.booth.desks, d.state = .off ∧ d.output = none) : TableLaws s := by
  have off : ∀ e, (deskOf s e).state = .off := fun e => by
    by_cases he : e < s.booth.desks.length
    · have here : deskOf s e = s.booth.desks[e] := by simp [deskOf, List.getD_eq_getElem?_getD, he]
      rw [here]
      exact (hdesks _ (List.getElem_mem he)).1
    · rw [deskOf_of_le (not_lt.mp he)]
      rfl
  refine ⟨by simp [MicLaw, hmics], fun d hd l hl => ?_, ?_, by simp [LaneLaw, hholdings, hlanes], ?_⟩
  · simp [(hdesks d hd).2] at hl
  · refine ⟨by simp [huplinks], by simp [hplaces], by simp [hmics], by simp [hplaces], fun i hi seat hseat => ?_,
      by simp [hmics], by simp [hplaces]⟩
    rw [huplinks, List.getElem?_replicate, if_pos hi] at hseat
    simp at hseat
  · refine ⟨(ownHolders_nodup_iff s).mpr fun e x l _ he => ?_, by simp [hlanguages], fun e _ he => ?_, fun e _ he => ?_,
      by simp [hlanguages], by simp [hlanguages], by simp [hwants]⟩
    all_goals simp [onAirFor, off] at he

theorem restartDesk_off (d : Desk) : (restartDesk d).state = .off ∧ (restartDesk d).output = none := ⟨rfl, rfl⟩

theorem tableLaws_restartTables (s : State) : TableLaws (restartTables s) := by
  refine tableLaws_empty rfl rfl rfl rfl rfl rfl rfl fun d hd => ?_
  obtain ⟨d', -, rfl⟩ := List.mem_map.mp hd
  exact restartDesk_off d'

theorem tableLaws_resetStation (s : State) : TableLaws (resetStation s) := by
  refine tableLaws_empty rfl rfl rfl rfl rfl rfl rfl fun d hd => ?_
  rw [List.eq_of_mem_replicate hd]
  exact ⟨rfl, rfl⟩

theorem sizeLaw_resetStation (s : State) : SizeLaw (resetStation s) := ⟨rfl, rfl, rfl, rfl, rfl, rfl, rfl⟩

theorem sizeLaw_restartTables {s : State} (law : SizeLaw s) : SizeLaw (restartTables s) := by
  obtain ⟨-, -, -, hwalls, -, -, hdesks⟩ := law
  exact ⟨rfl, rfl, rfl, hwalls, rfl, rfl, (List.length_map _).trans hdesks⟩

theorem TableLaws.keeps {s t : State} (laws : TableLaws s) (size : SizeLaw s) (h : Keeps s t) : TableLaws t :=
  ⟨h.mic laws.mic, h.relay laws.relay, h.uplink laws.uplink, h.lane laws.lane, h.desk size laws.desk⟩

/-! ### Every command -/

/-- A command that clears no flag and returns no table keeps all laws. -/
theorem keeps_liveEffect (i : Instr) (s : State) (hpin : i ≠ .pinReset) (hrestart : i ≠ .restart)
    (hclear : ∀ mask, i ≠ .clearEvents mask) : Keeps s (liveEffect i s) := by
  cases i with
  | pinReset => exact absurd rfl hpin
  | resetRelease n c => exact .refl s
  | configMemoryRead record => exact (soft_memoryReadOp record s).keeps
  | frameBoundary f => exact (soft_frameBoundary f s).keeps
  | hlckTimeout => exact (soft_lif s _).keeps
  | hsyncMark u d => exact keeps_hsyncOp u d s
  | switchPoint => exact keeps_switchPointOp s
  | linkFailure => exact keeps_takeLinkFailure s
  | linkRecovery => exact keeps_takeLinkRecovery s
  | fadeInComplete seat => exact (soft_fadeInOp seat s).keeps
  | fadeOutEnd seat => exact keeps_fadeOutOp seat s
  | speakingTimeExpiry seat => exact (soft_speakingExpiryOp seat s).keeps
  | ownSlot => exact keeps_ownSlotOp s
  | slotClose t => exact keeps_slotCloseOp t s
  | peerLoss t => exact (soft_peerLossOp t s).keeps
  | wallSample closed opened => exact (soft_wallSampleOp closed opened s).keeps
  | wallAdoption x => exact (soft_wallAdoptionOp x s).keeps
  | pollWindowClose reply => exact (soft_pollWindowCloseOp reply s).keeps
  | unitAbsent a => exact (soft_unitAbsentOp a s).keeps
  | boothWindowClose reply => exact keeps_boothWindowCloseOp reply s
  | deskAbsent e => exact keeps_deskAbsentOp e s
  | joiningTimerExpiry => exact (soft_takeExpiry s).keeps
  | loadConfig record => exact (soft_loadConfigOp record s).keeps
  | restart => exact absurd rfl hrestart
  | readRecord kind index => exact (soft_readRecordOp kind index s).keeps
  | readEvents => exact (soft_readEventsOp s).keeps
  | clearEvents mask => exact absurd rfl (hclear mask)
  | setEventMask mask => exact (soft_setEventMaskOp mask s).keeps
  | issueRoomCommand kind argument => exact (soft_issueRoomCommandOp kind argument s).keeps
  | setWallOverride input setting => exact (soft_setWallOverrideOp input setting s).keeps
  | closeSeat seat => exact (soft_closeSeatOp seat s).keeps
  | cancelRequest seat => exact (soft_cancelRequestOp seat s).keeps
  | emptyTransaction => exact Soft.keeps (soft_badFrameOp [] s)
  | badCommandFrame frame => exact (soft_badFrameOp frame s).keeps

/-- What every change keeps, holds on at an empty claim table, and does not read the port, a live station keeps by every
command. -/
theorem liveEffect_preserves {P : State → Prop} (keeps : ∀ s t, Keeps s t → P s → P t)
    (port : ∀ (s : State) (p : Port), P s → P { s with port := p })
    (restart : ∀ s, P s → P (restartTables s)) (reset : ∀ s, P s → P (resetStation s)) (i : Instr) (s : State) (hs : P s) :
    P (liveEffect i s) := by
  by_cases hpin : i = .pinReset
  · subst hpin
    exact reset s hs
  · by_cases hrestart : i = .restart
    · subst hrestart
      have answered : ∀ (u : State) code, P u → P (answer 0x02 code u) := fun u code hu => port u _ hu
      simp only [liveEffect, restartOp]
      split
      · exact answered s _ hs
      · exact answered _ _ (port _ _ (keeps _ _ (soft_enterJoining _).keeps (restart s hs)))
    · by_cases hclear : ∃ mask, i = .clearEvents mask
      · obtain ⟨mask, rfl⟩ := hclear
        exact port s _ hs
      · exact keeps _ _ (keeps_liveEffect i s hpin hrestart fun mask h => hclear ⟨mask, h⟩) hs

/-- What every change keeps, holds after the resets, and does not read the port or the commands that wait, every step keeps. -/
theorem step_preserves_of_keeps {P : State → Prop} (keeps : ∀ s t, Keeps s t → P s → P t)
    (port : ∀ (s : State) (p : Port), P s → P { s with port := p })
    (pending : ∀ (s : State) (l : List Instr), P s → P { s with pending := l })
    (restart : ∀ s, P s → P (restartTables s)) (reset : ∀ s, P s → P (resetStation s)) {s t : State} (hs : P s)
    (h : step s = .next t) : P t :=
  step_preserves pending (fun hs h => exec_preserves (fun i s _ hs => liveEffect_preserves keeps port restart reset i s hs)
    reset (fun n c s _ hs => keeps _ _ (soft_releaseReset n c s).keeps hs)
    (fun f s hs => keeps _ _ (soft_bypassFrame f s).keeps hs) hs h) hs h

/-- Settles O55: no change of the tables breaks the law of the mics or that of the relays (`keeps_liveEffect`). -/
theorem stepKeepsMicsAndRelays : Obligations.StepKeepsMicsAndRelays := fun _ _ hmic hrelay h =>
  step_preserves_of_keeps (P := fun s => MicLaw s ∧ RelayLaw s) (fun _ _ k law => ⟨k.mic law.1, k.relay law.2⟩)
    (fun _ _ law => law) (fun _ _ law => law) (fun s _ => ⟨(tableLaws_restartTables s).mic, (tableLaws_restartTables s).relay⟩)
    (fun s _ => ⟨(tableLaws_resetStation s).mic, (tableLaws_resetStation s).relay⟩) ⟨hmic, hrelay⟩ h

/-- Settles O56: no change of the tables breaks the law of the desks or the sizes (`keeps_liveEffect`). -/
theorem stepKeepsDesks : Obligations.StepKeepsDesks := fun _ _ hsize hdesk h =>
  step_preserves_of_keeps (P := fun s => SizeLaw s ∧ DeskLaw s) (fun _ _ k law => ⟨k.size law.1, k.desk law.1 law.2⟩)
    (fun _ _ law => law) (fun _ _ law => law)
    (fun s law => ⟨sizeLaw_restartTables law.1, (tableLaws_restartTables s).desk⟩)
    (fun s _ => ⟨sizeLaw_resetStation s, (tableLaws_resetStation s).desk⟩) ⟨hsize, hdesk⟩ h

/-- Settles O57: no change of the tables breaks the law of the uplink channels or that of the lanes (`keeps_liveEffect`). -/
theorem stepKeepsHoldsAndChannels : Obligations.StepKeepsHoldsAndChannels := fun _ _ huplink hlane h =>
  step_preserves_of_keeps (P := fun s => UplinkLaw s ∧ LaneLaw s) (fun _ _ k law => ⟨k.uplink law.1, k.lane law.2⟩)
    (fun _ _ law => law) (fun _ _ law => law)
    (fun s _ => ⟨(tableLaws_restartTables s).uplink, (tableLaws_restartTables s).lane⟩)
    (fun s _ => ⟨(tableLaws_resetStation s).uplink, (tableLaws_resetStation s).lane⟩) ⟨huplink, hlane⟩ h

end Sys2Proof.Machine
end

section
/-! SUPPORT and PROOF of the seat channels: what assignment, leaving and hand-over do to the channel table, the
assignments and the deferred list (R157 to R161). -/
namespace Sys2Proof.Machine

/-- Downlink channel c carries language l. -/
def Carries (s : State) (c l : Nat) : Prop := (channelOf s c).map (·.language) = some l

/-- The seat channels of s with another channel table, and channel c assigned to unit a. -/
def placedOn (s : State) (a : Nat) (table : List (Option Downlink)) (c : Nat) : SeatChannels :=
  ⟨table, s.seats.assigned.set (a - 1) (some c), s.seats.deferred⟩

theorem carries_iff_any (s : State) (c l : Nat) :
    (channelOf s c).any (fun d => d.language == l) = true ↔ Carries s c l := by
  unfold Carries
  cases channelOf s c <;> simp

theorem carries_iff (s : State) (c l : Nat) : Carries s c l ↔ ∃ d, channelOf s c = some d ∧ d.language = l := by
  simp [Carries]

theorem channelFor_eq_some_iff (s : State) (l c : Nat) : channelFor s l = some c ↔
    Carries s c l ∧ (1 ≤ c ∧ c ≤ 7) ∧ ∀ k, 1 ≤ k → k < c → ¬ Carries s k l := by
  unfold channelFor
  rw [List.find?_range'_eq_some, carries_iff_any, List.mem_range'_1]
  simp only [Bool.not_eq_true', ← Bool.not_eq_true, carries_iff_any]
  exact and_congr_right fun _ => and_congr_left fun _ => by omega

theorem channelFor_eq_none_iff (s : State) (l : Nat) :
    channelFor s l = none ↔ ∀ k, 1 ≤ k → k ≤ 7 → ¬ Carries s k l := by
  unfold channelFor
  simp only [List.find?_range'_eq_none, Bool.not_eq_true', ← Bool.not_eq_true, carries_iff_any]
  exact ⟨fun h k hk h7 => h k hk (by omega), fun h k hk h7 => h k hk (by omega)⟩

theorem freeChannel_eq_some_iff (s : State) (c : Nat) : freeChannel s = some c ↔
    channelOf s c = none ∧ (1 ≤ c ∧ c ≤ 7) ∧ ∀ k, 1 ≤ k → k < c → channelOf s k ≠ none := by
  unfold freeChannel
  rw [List.find?_range'_eq_some, List.mem_range'_1]
  simp only [Option.isNone_iff_eq_none, Bool.not_eq_true', ← Bool.not_eq_true]
  exact and_congr_right fun _ => and_congr_left fun _ => by omega

theorem freeChannel_eq_none_iff (s : State) :
    freeChannel s = none ↔ ∀ k, 1 ≤ k → k ≤ 7 → channelOf s k ≠ none := by
  unfold freeChannel
  simp only [List.find?_range'_eq_none, Bool.not_eq_true', ← Bool.not_eq_true, Option.isNone_iff_eq_none]
  exact ⟨fun h k hk h7 => h k hk (by omega), fun h k hk h7 => h k hk (by omega)⟩

theorem assign_of_pos {a : Nat} (ha : 1 ≤ a) (c : Option Nat) (s : State) :
    assign a c s = { s with seats := { s.seats with assigned := s.seats.assigned.set (a - 1) c } } := by
  simp [assign, Nat.ne_of_gt ha]

section
variable {s : State} {a sel c : Nat}

theorem assignSelection_zero (ha : 1 ≤ a) :
    assignSelection a 0 s = { s with seats := placedOn s a s.seats.channels 0 } := by
  simp [assignSelection, assign_of_pos ha, placedOn]

theorem assignSelection_of_carried (ha : 1 ≤ a) (hsel : sel ≠ 0) {d : Downlink}
    (hc : channelFor s sel = some c) (hd : channelOf s c = some d) : assignSelection a sel s =
      { s with seats := placedOn s a (s.seats.channels.set c (some { d with count := d.count + 1 })) c } := by
  simp [assignSelection, hsel, hc, hd, assign_of_pos ha, setChannel, placedOn]

theorem assignSelection_of_free (ha : 1 ≤ a) (hsel : sel ≠ 0) (hc : channelFor s sel = none)
    (hfree : freeChannel s = some c) : assignSelection a sel s =
      { s with seats := placedOn s a (s.seats.channels.set c (some ⟨sel, 1⟩)) c } := by
  simp [assignSelection, hsel, hc, hfree, assign_of_pos ha, setChannel, placedOn]

theorem assignSelection_of_full (ha : 1 ≤ a) (hsel : sel ≠ 0) (hc : channelFor s sel = none)
    (hfree : freeChannel s = none) : assignSelection a sel s = { s with
      seats := { placedOn s a s.seats.channels 0 with deferred := s.seats.deferred ++ [a] }
      port := { s.port with flags := s.port.flags ||| BitVec.twoPow 16 12 } } := by
  simp [assignSelection, hsel, hc, hfree, assign_of_pos ha, placedOn, raise, flagBit]

/-- The seat channels of s once unit a has no channel any more, before a freed channel is handed over. -/
def withoutUnit (s : State) (a : Nat) : State :=
  { s with seats := { s.seats with assigned := s.seats.assigned.set (a - 1) none } }

theorem dropSelection_of_none (ha : 1 ≤ a) (h : assignmentOf s a = none) : dropSelection a s = withoutUnit s a := by
  simp [dropSelection, leaveAssignment, h, assign_of_pos ha, withoutUnit]

theorem dropSelection_of_zero (ha : 1 ≤ a) (h : assignmentOf s a = some 0) : dropSelection a s =
    { s with seats := ⟨s.seats.channels, s.seats.assigned.set (a - 1) none,
      s.seats.deferred.filter (fun x => x ≠ a)⟩ } := by
  simp [dropSelection, leaveAssignment, h, assign_of_pos ha, bne, beq_eq_decide]

theorem dropSelection_of_shared (ha : 1 ≤ a) (h : assignmentOf s a = some c) (hc : c ≠ 0) {d : Downlink}
    (hd : channelOf s c = some d) (hcount : 2 ≤ d.count) : dropSelection a s =
      { s with seats := ⟨s.seats.channels.set c (some { d with count := d.count - 1 }),
        s.seats.assigned.set (a - 1) none, s.seats.deferred⟩ } := by
  have : ¬ d.count ≤ 1 := by omega
  cases c with
  | zero => exact absurd rfl hc
  | succ c => simp [dropSelection, leaveAssignment, h, hd, assign_of_pos ha, this, setChannel]

theorem dropSelection_of_last (ha : 1 ≤ a) (h : assignmentOf s a = some c) (hc : c ≠ 0) {d : Downlink}
    (hd : channelOf s c = some d) (hcount : d.count ≤ 1) :
    dropSelection a s = grantFreed c (selectionOf s) (withoutUnit s a) := by
  cases c with
  | zero => exact absurd rfl hc
  | succ c => simp [dropSelection, leaveAssignment, h, hd, assign_of_pos ha, hcount, withoutUnit]
end

/-- The assignments with every unit of a list put on channel c. -/
def assignAll (c : Nat) (units : List Nat) (l : List (Option Nat)) : List (Option Nat) :=
  units.foldl (fun l x => if x = 0 then l else l.set (x - 1) (some c)) l

@[simp] theorem assignAll_length (c : Nat) (units : List Nat) (l : List (Option Nat)) :
    (assignAll c units l).length = l.length := by
  induction units generalizing l with
  | nil => rfl
  | cons u rest ih =>
    refine (ih _).trans ?_
    by_cases hu : u = 0 <;> simp [hu]

theorem assignAll_getElem? (c : Nat) (units : List Nat) : ∀ (l : List (Option Nat)) (x : Nat), 1 ≤ x → x ≤ l.length →
    (assignAll c units l)[x - 1]? = if x ∈ units then some (some c) else l[x - 1]? := by
  induction units with
  | nil => intro l x _ _; simp [assignAll]
  | cons u rest ih =>
    intro l x h1 h2
    by_cases hu : u = 0
    · simpa [assignAll, hu, show x ≠ 0 by omega] using ih l x h1 h2
    · have tail := ih (l.set (u - 1) (some c)) x h1 (by simpa using h2)
      have entry : (l.set (u - 1) (some c))[x - 1]? = if x = u then some (some c) else l[x - 1]? := by
        rw [List.getElem?_set]
        by_cases hx : x = u
        · subst hx; simp; omega
        · simp [hx, show ¬ u - 1 = x - 1 by omega]
      have unfolded : assignAll c (u :: rest) l = assignAll c rest (l.set (u - 1) (some c)) := by simp [assignAll, hu]
      rw [unfolded, tail, entry]
      by_cases hx : x = u <;> simp [hx]

theorem foldl_assign (c : Nat) (units : List Nat) : ∀ s : State,
    units.foldl (fun s' x => assign x (some c) s') s =
      { s with seats := { s.seats with assigned := assignAll c units s.seats.assigned } } := by
  induction units with
  | nil => intro s; rfl
  | cons u rest ih =>
    intro s
    rw [List.foldl_cons, ih]
    by_cases hu : u = 0 <;> simp [assign, assignAll, hu]

theorem grantFreed_of_nil {s : State} (c : Nat) (waits : Nat → Nat) (h : s.seats.deferred = []) :
    grantFreed c waits s = setChannel c none s := by
  simp [grantFreed, h]

/-- The units of the deferred list that wait for language l. -/
def waitingFor (waits : Nat → Nat) (l : Nat) (units : List Nat) : List Nat := units.filter (fun x => waits x == l)

theorem grantFreed_of_head {s : State} (c : Nat) (waits : Nat → Nat) {b : Nat} (h : s.seats.deferred.head? = some b) :
    grantFreed c waits s = { s with seats := ⟨
      s.seats.channels.set c (some ⟨waits b, (waitingFor waits (waits b) s.seats.deferred).length⟩),
      assignAll c (waitingFor waits (waits b) s.seats.deferred) s.seats.assigned,
      s.seats.deferred.filter (fun x => waits x != waits b)⟩ } := by
  obtain ⟨rest, hlist⟩ := List.head?_eq_some_iff.mp h
  unfold grantFreed
  rw [hlist]
  exact foldl_assign c _ _

/-- A step that changes no other block answers the state with the new seat channels. -/
theorem eq_with_seats_of_dropSelection (s : State) (a : Nat) :
    dropSelection a s = { s with seats := (dropSelection a s).seats } := by
  have kept := leaveAssignment_keeps a (selectionOf s) s
  generalize ht : leaveAssignment a (selectionOf s) s = t at kept
  unfold dropSelection
  rw [ht]
  cases t
  simp_all

/-- Settles O41. -/
theorem seatChannelsAreHandedOver : Obligations.SeatChannelsAreHandedOver := by
  refine ⟨fun s a sel ha => ⟨?_, ?_, ?_⟩, fun s a h1 _ hlength => ⟨?_, ?_, ?_, ?_⟩, fun _ _ _ => rfl⟩
  case refine_1 =>
    rintro rfl
    exact assignSelection_zero ha
  case refine_2 =>
    intro hsel c hc1 hc7 d hd hlanguage hlowest
    have carried : channelFor s sel = some c :=
      (channelFor_eq_some_iff s sel c).mpr ⟨(carries_iff s c sel).mpr ⟨d, hd, hlanguage⟩, ⟨hc1, hc7⟩, hlowest⟩
    rw [assignSelection_of_carried ha hsel carried hd, ← hlanguage]
    rfl
  case refine_3 =>
    intro hsel hnone
    have uncarried := (channelFor_eq_none_iff s sel).mpr hnone
    refine ⟨fun c hc1 hc7 hfree hlowest => ?_, fun hfull => ?_⟩
    · exact assignSelection_of_free ha hsel uncarried ((freeChannel_eq_some_iff s c).mpr ⟨hfree, ⟨hc1, hc7⟩, hlowest⟩)
    · exact assignSelection_of_full ha hsel uncarried ((freeChannel_eq_none_iff s).mpr hfull)
  case refine_4 => exact eq_with_seats_of_dropSelection s a
  case refine_5 =>
    intro h
    rw [dropSelection_of_none h1 h]
    rfl
  case refine_6 =>
    intro h
    rw [dropSelection_of_zero h1 h]
  case refine_7 =>
    intro c d h hc hd
    refine ⟨fun hcount => ?_, fun hcount hempty => ?_, fun hcount b hb => ?_⟩
    · rw [dropSelection_of_shared h1 h hc hd hcount]
    · rw [dropSelection_of_last h1 h hc hd hcount, grantFreed_of_nil (s := withoutUnit s a) c _ hempty]
      simp [setChannel, withoutUnit, hempty]
    · rw [dropSelection_of_last h1 h hc hd hcount, grantFreed_of_head (s := withoutUnit s a) c _ hb]
      refine ⟨rfl, by simp [withoutUnit, selectionOf, bne, beq_eq_decide], by simpa [withoutUnit] using hlength,
        fun x hx1 hx60 => ?_⟩
      have hwait : x ∈ s.seats.deferred.filter (fun x => (unitOf s x).selection = (unitOf s b).selection) ↔
          x ∈ waitingFor (selectionOf s) (selectionOf s b) s.seats.deferred := by
        simp [waitingFor, selectionOf]
      have assigned := assignAll_getElem? c (waitingFor (selectionOf s) (selectionOf s b) s.seats.deferred)
        (s.seats.assigned.set (a - 1) none) x hx1 (by simpa [hlength] using hx60)
      have left : (s.seats.assigned.set (a - 1) none)[x - 1]? = if x = a then some none else s.seats.assigned[x - 1]? := by
        rw [List.getElem?_set]
        by_cases hx : x = a
        · subst hx; simp; omega
        · simp [hx, show ¬ a - 1 = x - 1 by omega]
      simpa only [hwait, left, withoutUnit] using assigned
end Sys2Proof.Machine
end

section
/-! SUPPORT. The agreement of the seat channels with the units, and that leaving and assignment keep it. -/
namespace Sys2Proof.Machine

/-- Channels, assignments and deferred list of s agree with units of which `present` says which are Present and `sel`
which language each has selected (`SeatLaw`, with the units apart). -/
structure SeatsAgree (s : State) (present : Nat → Bool) (sel : Nat → Nat) : Prop where
  channels : s.seats.channels.length = 8
  assigned : s.seats.assigned.length = 60
  zero : channelOf s 0 = none
  count : ∀ c d, channelOf s c = some d → d.language ≠ 0 ∧ d.count = s.seats.assigned.count (some c) ∧ d.count ≠ 0
  unique : ∀ c c' l, Carries s c l → Carries s c' l → c = c'
  present : ∀ a, 1 ≤ a → a ≤ 60 → present a = (assignmentOf s a).isSome
  carried : ∀ a c, assignmentOf s a = some c → c ≠ 0 → Carries s c (sel a)
  nodup : s.seats.deferred.Nodup
  waits : ∀ a, a ∈ s.seats.deferred ↔ assignmentOf s a = some 0 ∧ sel a ≠ 0
  uncarried : ∀ a ∈ s.seats.deferred, ∀ c, ¬ Carries s c (sel a)
  busy : s.seats.deferred ≠ [] → ∀ c, 1 ≤ c → c ≤ 7 → channelOf s c ≠ none

theorem channelOf_of_le {s : State} (h : s.seats.channels.length = 8) {c : Nat} (hc : 8 ≤ c) : channelOf s c = none := by
  simp [channelOf, List.getElem?_eq_none (show s.seats.channels.length ≤ c by omega)]

theorem channelOf_eq_none_of_le {s : State} (h : s.seats.channels.length = 8) (c : Nat) (hc : channelOf s c ≠ none) :
    c < 8 := by
  by_contra hle
  exact hc (channelOf_of_le h (by omega))

theorem assignmentOf_pos {s : State} {a c : Nat} (h : assignmentOf s a = some c) (hl : s.seats.assigned.length = 60) :
    1 ≤ a ∧ a ≤ 60 ∧ s.seats.assigned[a - 1]? = some (some c) := by
  unfold assignmentOf at h
  split at h
  · cases h
  · next h0 =>
    cases hx : s.seats.assigned[a - 1]? with
    | none => simp [hx] at h
    | some x =>
      have := (List.getElem?_eq_some_iff.mp hx).1
      refine ⟨by omega, by omega, ?_⟩
      simpa [hx] using h

theorem assignmentOf_eq_some_iff {s : State} (hl : s.seats.assigned.length = 60) (a c : Nat) :
    assignmentOf s a = some c ↔ (1 ≤ a ∧ a ≤ 60) ∧ s.seats.assigned[a - 1]? = some (some c) := by
  refine ⟨fun h => ?_, fun ⟨⟨h1, _⟩, h⟩ => ?_⟩
  · obtain ⟨h1, h2, h3⟩ := assignmentOf_pos h hl
    exact ⟨⟨h1, h2⟩, h3⟩
  · simp [assignmentOf, h, show a ≠ 0 by omega]

/-- SeatLaw is the agreement with the units of the state itself. -/
theorem seatLaw_iff (s : State) : SeatLaw s ↔
    s.dlc.units.length = 60 ∧ SeatsAgree s (fun a => (unitOf s a).present) (selectionOf s) := by
  constructor
  · rintro ⟨⟨hchannels, hassigned, hunits, hzero, hcount, hunique, hpresent, hcarried⟩, hnodup, hwaits, huncarried, hbusy⟩
    have small : ∀ c, channelOf s c ≠ none → c < 8 := channelOf_eq_none_of_le hchannels
    refine ⟨hunits, hchannels, hassigned, hzero, fun c d hd => ?_, fun c c' l h h' => ?_,
      fun a h1 h2 => hpresent a (by omega) (by omega), fun a c h hc => ?_, hnodup, fun a => ?_, fun a ha c h => ?_,
      fun h c h1 h7 => ?_⟩
    · exact hcount c (small c (by simp [hd])) d hd
    · obtain ⟨d, hd, hl⟩ := (carries_iff s c l).mp h
      obtain ⟨d', hd', hl'⟩ := (carries_iff s c' l).mp h'
      exact hunique c (small c (by simp [hd])) c' (small c' (by simp [hd'])) d hd d' hd' (hl.trans hl'.symm)
    · obtain ⟨_, h60, _⟩ := assignmentOf_pos h hassigned
      exact (carries_iff_any s c _).mp (hcarried a (by omega) c h hc).2
    · constructor
      · intro ha
        exact (hwaits a (huncarried a ha).1).mp ha
      · intro h
        obtain ⟨_, h60, _⟩ := assignmentOf_pos h.1 hassigned
        exact (hwaits a (by omega)).mpr h
    · obtain ⟨d, hd, hl⟩ := (carries_iff s c _).mp h
      exact (huncarried a ha).2 c (small c (by simp [hd])) d hd hl
    · exact Option.isSome_iff_ne_none.mp (hbusy h c (by omega) (by omega))
  · rintro ⟨hunits, agree⟩
    refine ⟨⟨agree.channels, agree.assigned, hunits, agree.zero, fun c _ d hd => agree.count c d hd, ?_,
      fun a h61 h0 => agree.present a (by omega) (by omega), fun a _ c h hc => ?_⟩, agree.nodup, fun a _ => agree.waits a,
      fun a ha => ⟨?_, fun c _ d hd hl => agree.uncarried a ha c ((carries_iff s c _).mpr ⟨d, hd, hl⟩)⟩,
      fun h c h8 h0 => Option.isSome_iff_ne_none.mpr (agree.busy h c (by omega) (by omega))⟩
    · intro c _ c' _ d hd d' hd' hl
      exact agree.unique c c' _ ((carries_iff s c _).mpr ⟨d, hd, hl⟩) ((carries_iff s c' _).mpr ⟨d', hd', rfl⟩)
    · have carried := agree.carried a c h hc
      obtain ⟨d, hd, _⟩ := (carries_iff s c _).mp carried
      exact ⟨channelOf_eq_none_of_le agree.channels c (by simp [hd]), (carries_iff_any s c _).mpr carried⟩
    · have := assignmentOf_pos ((agree.waits a).mp ha).1 agree.assigned
      omega

theorem Carries.of_seats {s t : State} (h : t.seats = s.seats) (c l : Nat) : Carries t c l ↔ Carries s c l := by
  simp [Carries, channelOf, h]

/-- The agreement reads the seat channels alone, and of the units only those with an assignment. -/
theorem SeatsAgree.congr {s t : State} {present present' : Nat → Bool} {sel sel' : Nat → Nat}
    (agree : SeatsAgree s present sel) (h : t.seats = s.seats) (hpresent : ∀ a, 1 ≤ a → a ≤ 60 → present' a = present a)
    (hsel : ∀ a, assignmentOf s a ≠ none → sel' a = sel a) : SeatsAgree t present' sel' := by
  have channel : ∀ c, channelOf t c = channelOf s c := fun c => by simp [channelOf, h]
  have assignment : ∀ a, assignmentOf t a = assignmentOf s a := fun a => by simp [assignmentOf, h]
  have carries : ∀ c l, Carries t c l ↔ Carries s c l := Carries.of_seats h
  have waits : ∀ a, a ∈ t.seats.deferred ↔ assignmentOf t a = some 0 ∧ sel' a ≠ 0 := fun a => by
    rw [h, agree.waits a, assignment a]
    refine and_congr_right fun ha => ?_
    rw [hsel a (by simp [ha])]
  refine ⟨h ▸ agree.channels, h ▸ agree.assigned, (channel 0).trans agree.zero, ?_, ?_, ?_, ?_, h ▸ agree.nodup, waits, ?_, ?_⟩
  · intro c d hd
    rw [h]
    exact agree.count c d (channel c ▸ hd)
  · intro c c' l hc hc'
    exact agree.unique c c' l ((carries c l).mp hc) ((carries c' l).mp hc')
  · intro a h1 h2
    rw [hpresent a h1 h2, assignment a]
    exact agree.present a h1 h2
  · intro a c ha hc
    rw [assignment a] at ha
    rw [carries, hsel a (by simp [ha])]
    exact agree.carried a c ha hc
  · intro a ha c
    have ha' := (waits a).mp ha
    rw [carries, hsel a (by rw [← assignment a]; simp [ha'.1])]
    exact agree.uncarried a (h ▸ ha) c
  · intro hne c h1 h7
    rw [channel c]
    exact agree.busy (h ▸ hne) c h1 h7

section
variable {s t : State} {a c : Nat} {x : Option Nat} {d : Option Downlink}

theorem assignmentOf_of_set (h : t.seats.assigned = s.seats.assigned.set (a - 1) x) (hl : s.seats.assigned.length = 60)
    (h1 : 1 ≤ a) (h60 : a ≤ 60) (b : Nat) : assignmentOf t b = if b = a then x else assignmentOf s b := by
  unfold assignmentOf
  by_cases h0 : b = 0
  · simp [h0, show 0 ≠ a by omega]
  · by_cases hb : b = a
    · subst hb
      simp [h0, h, hl, show b - 1 < 60 by omega]
    · simp [h0, hb, h, show ¬ a - 1 = b - 1 by omega]

theorem channelOf_of_set (h : t.seats.channels = s.seats.channels.set c d) (hc : c < s.seats.channels.length) (k : Nat) :
    channelOf t k = if k = c then d else channelOf s k := by
  have := channelOf_setChannel c k d s hc
  simpa [channelOf, setChannel, h] using this

theorem carries_of_set (h : t.seats.channels = s.seats.channels.set c d) (hc : c < s.seats.channels.length) (k l : Nat) :
    Carries t k l ↔ if k = c then d.map (·.language) = some l else Carries s k l := by
  unfold Carries
  rw [channelOf_of_set h hc k]
  split <;> rfl

/-- The units on a channel, once unit a has another assignment. -/
theorem count_assigned_set (hl : s.seats.assigned.length = 60) (h1 : 1 ≤ a) (h60 : a ≤ 60) (y : Option Nat) :
    (s.seats.assigned.set (a - 1) x).count y =
      s.seats.assigned.count y - (if assignmentOf s a = y then 1 else 0) + (if x = y then 1 else 0) := by
  have entry : assignmentOf s a = s.seats.assigned[a - 1] := by
    simp [assignmentOf, show a ≠ 0 by omega, List.getElem?_eq_getElem (show a - 1 < s.seats.assigned.length by omega)]
  rw [List.count_set (by omega), entry]
  simp

theorem mem_assigned_of_assignmentOf (hl : s.seats.assigned.length = 60) (h : assignmentOf s a = some c) :
    some c ∈ s.seats.assigned := List.mem_of_getElem? (assignmentOf_pos h hl).2.2

/-- With no unit left on it, a channel is nobody's assignment. -/
theorem assignmentOf_ne_of_count (hl : s.seats.assigned.length = 60) (h : s.seats.assigned.count (some c) = 0) (b : Nat) :
    assignmentOf s b ≠ some c := fun hb => List.count_eq_zero.mp h (mem_assigned_of_assignmentOf hl hb)
end

/-- The units on a channel, once units that were on channel 0 take channel c. -/
theorem count_assignAll {c k : Nat} (hc : c ≠ 0) (hk : k ≠ 0) (units : List Nat) : ∀ l : List (Option Nat),
    (∀ u ∈ units, 1 ≤ u ∧ l[u - 1]? = some (some 0)) → units.Nodup →
    (assignAll c units l).count (some k) = l.count (some k) + if k = c then units.length else 0 := by
  induction units with
  | nil => intro l _ _; simp [assignAll]
  | cons u rest ih =>
    intro l hunits hnodup
    obtain ⟨hu, hrest⟩ := List.nodup_cons.mp hnodup
    obtain ⟨hu1, hlu⟩ := hunits u (by simp)
    obtain ⟨hlt, hentry⟩ := List.getElem?_eq_some_iff.mp hlu
    have unfolded : assignAll c (u :: rest) l = assignAll c rest (l.set (u - 1) (some c)) := by
      simp [assignAll, show u ≠ 0 by omega]
    have tail : ∀ v ∈ rest, 1 ≤ v ∧ (l.set (u - 1) (some c))[v - 1]? = some (some 0) := fun v hv => by
      obtain ⟨hv1, hlv⟩ := hunits v (by simp [hv])
      have : v ≠ u := fun h => hu (h ▸ hv)
      exact ⟨hv1, by rwa [List.getElem?_set_ne (by omega)]⟩
    rw [unfolded, ih _ tail hrest, List.count_set hlt, hentry]
    by_cases hck : k = c
    · simp [hck, Ne.symm hc]
      omega
    · simp [hck, Ne.symm hk, Ne.symm hck]

/-- `present` with unit a Present or Absent. -/
abbrev withPresence (present : Nat → Bool) (a : Nat) (x : Bool) : Nat → Bool := Function.update present a x

section
variable {s : State} {present : Nat → Bool} {sel : Nat → Nat} {a : Nat}

theorem SeatsAgree.channel_pos (agree : SeatsAgree s present sel) {c : Nat} {d : Downlink} (h : channelOf s c = some d) :
    c ≠ 0 := by
  rintro rfl
  rw [agree.zero] at h
  cases h

theorem SeatsAgree.carries_pos (agree : SeatsAgree s present sel) {c l : Nat} (h : Carries s c l) : c ≠ 0 := by
  obtain ⟨d, hd, _⟩ := (carries_iff s c l).mp h
  exact agree.channel_pos hd

/-- The channel of a unit. -/
theorem SeatsAgree.channel_of_assigned (agree : SeatsAgree s present sel) {c : Nat} (h : assignmentOf s a = some c)
    (hc : c ≠ 0) : c < 8 ∧ ∃ d, channelOf s c = some d ∧ d.language = sel a := by
  obtain ⟨d, hd, hl⟩ := (carries_iff s c _).mp (agree.carried a c h hc)
  exact ⟨channelOf_eq_none_of_le agree.channels c (by simp [hd]), d, hd, hl⟩

/-- A unit takes channel 0, its selection being 0, or it joins the deferred list there. -/
theorem SeatsAgree.onZero {t : State} (agree : SeatsAgree s present sel) (h1 : 1 ≤ a) (h60 : a ≤ 60)
    (hnone : assignmentOf s a = none) (hchannels : t.seats.channels = s.seats.channels)
    (hassigned : t.seats.assigned = s.seats.assigned.set (a - 1) (some 0))
    (hdeferred : t.seats.deferred = if sel a = 0 then s.seats.deferred else s.seats.deferred ++ [a])
    (huncarried : sel a ≠ 0 → (∀ c, ¬ Carries s c (sel a)) ∧ ∀ c, 1 ≤ c → c ≤ 7 → channelOf s c ≠ none) :
    SeatsAgree t (withPresence present a true) sel := by
  have assignment := assignmentOf_of_set hassigned agree.assigned h1 h60
  have channel : ∀ c, channelOf t c = channelOf s c := fun c => by simp [channelOf, hchannels]
  have carries : ∀ c l, Carries t c l ↔ Carries s c l := fun c l => by simp [Carries, channel]
  have ha : a ∉ s.seats.deferred := fun h => by simpa [hnone] using (agree.waits a).mp h
  have hmem : ∀ b, b ∈ t.seats.deferred ↔ b ∈ s.seats.deferred ∨ (b = a ∧ sel a ≠ 0) := fun b => by
    rw [hdeferred]
    split <;> simp [*]
  refine ⟨by rw [hchannels]; exact agree.channels, by rw [hassigned, List.length_set]; exact agree.assigned,
    (channel 0).trans agree.zero, ?_, ?_, ?_, ?_, ?_, ?_, ?_, ?_⟩
  · intro c d hd
    rw [channel] at hd
    have hc : (some 0 : Option Nat) ≠ some c := fun h => agree.channel_pos hd (Option.some.inj h).symm
    rw [hassigned, count_assigned_set agree.assigned h1 h60, hnone, if_neg hc]
    exact agree.count c d hd
  · intro c c' l h h'
    exact agree.unique c c' l ((carries c l).mp h) ((carries c' l).mp h')
  · intro b hb1 hb60
    rw [assignment]
    by_cases hb : b = a
    · simp [withPresence, hb]
    · simp [withPresence, hb, agree.present b hb1 hb60]
  · intro b c hb hc
    rw [assignment] at hb
    rw [carries]
    by_cases hab : b = a
    · rw [if_pos hab] at hb
      exact absurd (Option.some.inj hb).symm hc
    · rw [if_neg hab] at hb
      exact agree.carried b c hb hc
  · rw [hdeferred]
    split
    · exact agree.nodup
    · exact List.nodup_append.mpr ⟨agree.nodup, by simp, by rintro x hx y hy rfl; simp at hy; exact ha (hy ▸ hx)⟩
  · intro b
    rw [hmem, assignment]
    by_cases hb : b = a
    · subst hb; simp [ha]
    · simp [hb, agree.waits b]
  · intro b hb c
    rw [carries]
    rcases (hmem b).mp hb with hb | ⟨rfl, hsel⟩
    · exact agree.uncarried b hb c
    · exact (huncarried hsel).1 c
  · intro hne c hc1 hc7
    rw [channel]
    rw [hdeferred] at hne
    by_cases hsel : sel a = 0
    · rw [if_pos hsel] at hne
      exact agree.busy hne c hc1 hc7
    · exact (huncarried hsel).2 c hc1 hc7

/-- A unit takes a channel of 1..7 that carries its selection, then one unit more. -/
theorem SeatsAgree.onChannel {t : State} (agree : SeatsAgree s present sel) (h1 : 1 ≤ a) (h60 : a ≤ 60)
    (hnone : assignmentOf s a = none) (hsel : sel a ≠ 0) {c : Nat} (hc1 : 1 ≤ c) (hc7 : c ≤ 7)
    (hchannels : t.seats.channels = s.seats.channels.set c (some ⟨sel a, s.seats.assigned.count (some c) + 1⟩))
    (hassigned : t.seats.assigned = s.seats.assigned.set (a - 1) (some c))
    (hdeferred : t.seats.deferred = s.seats.deferred)
    (hthere : Carries s c (sel a) ∨ (channelOf s c = none ∧ ∀ k, ¬ Carries s k (sel a))) :
    SeatsAgree t (withPresence present a true) sel := by
  have hlength : c < s.seats.channels.length := by rw [agree.channels]; omega
  have assignment := assignmentOf_of_set hassigned agree.assigned h1 h60
  have channel := channelOf_of_set hchannels hlength
  have carries : ∀ k l, Carries t k l ↔ if k = c then sel a = l else Carries s k l := fun k l => by
    rw [carries_of_set hchannels hlength]; simp
  have elsewhere : ∀ k, k ≠ c → ¬ Carries s k (sel a) := fun k hk h => by
    rcases hthere with hc | ⟨_, hall⟩
    · exact hk (agree.unique k c _ h hc)
    · exact hall k h
  have there : ∀ l, Carries s c l → l = sel a := fun l h => by
    rcases hthere with hc | ⟨hc, _⟩
    · exact Option.some.inj (h.symm.trans hc)
    · simp [Carries, hc] at h
  refine ⟨by simp [hchannels, agree.channels], by simp [hassigned, agree.assigned], ?_, ?_, ?_, ?_, ?_, ?_, ?_, ?_, ?_⟩
  · rw [channel, if_neg (by omega)]
    exact agree.zero
  · intro k d hd
    rw [channel] at hd
    rw [hassigned, count_assigned_set agree.assigned h1 h60, hnone]
    by_cases hk : k = c
    · subst hk
      simp only [if_true, Option.some.injEq] at hd
      subst hd
      simp [hsel]
    · simpa [hk, show c ≠ k from fun h => hk h.symm] using agree.count k d (by simpa [hk] using hd)
  · intro k k' l h h'
    rw [carries] at h h'
    by_cases hk : k = c <;> by_cases hk' : k' = c <;> simp only [hk, hk', if_true, if_false] at h h' ⊢
    · exact absurd h' (h ▸ elsewhere k' hk')
    · exact absurd h (h' ▸ elsewhere k hk)
    · exact agree.unique k k' l h h'
  · intro b hb1 hb60
    rw [assignment]
    by_cases hb : b = a
    · simp [withPresence, hb]
    · simp [withPresence, hb, agree.present b hb1 hb60]
  · intro b k hb hk
    rw [assignment] at hb
    rw [carries]
    by_cases hab : b = a
    · rw [if_pos hab] at hb
      rw [if_pos (Option.some.inj hb).symm, hab]
    · rw [if_neg hab] at hb
      have old := agree.carried b k hb hk
      by_cases hkc : k = c
      · subst hkc
        rw [if_pos rfl, there _ old]
      · rwa [if_neg hkc]
  · rw [hdeferred]
    exact agree.nodup
  · intro b
    rw [hdeferred, assignment, agree.waits b]
    by_cases hb : b = a
    · subst hb; simp [hnone]; omega
    · simp [hb]
  · intro b hb k hk
    rw [hdeferred] at hb
    rw [carries] at hk
    rcases hthere with hc | ⟨hc, _⟩
    · split at hk
      · exact agree.uncarried b hb c (hk ▸ hc)
      · exact agree.uncarried b hb k hk
    · exact absurd hc (agree.busy (List.ne_nil_of_mem hb) c hc1 hc7)
  · intro hne k hk1 hk7
    rw [channel]
    split
    · simp
    · exact agree.busy (hdeferred ▸ hne) k hk1 hk7

/-- An Absent unit becomes Present with its selection. -/
theorem SeatsAgree.assigned_selection (agree : SeatsAgree s present sel) (h1 : 1 ≤ a) (h60 : a ≤ 60)
    (hnone : assignmentOf s a = none) : SeatsAgree (assignSelection a (sel a) s) (withPresence present a true) sel := by
  by_cases hsel : sel a = 0
  · rw [hsel, assignSelection_zero h1]
    exact agree.onZero h1 h60 hnone rfl rfl (by rw [if_pos hsel]; rfl) (fun h => absurd hsel h)
  · cases hfor : channelFor s (sel a) with
    | some c =>
      obtain ⟨hc, ⟨hc1, hc7⟩, _⟩ := (channelFor_eq_some_iff s _ c).mp hfor
      obtain ⟨d, hd, hl⟩ := (carries_iff s c _).mp hc
      rw [assignSelection_of_carried h1 hsel hfor hd, hl, (agree.count c d hd).2.1]
      exact agree.onChannel h1 h60 hnone hsel hc1 hc7 rfl rfl rfl (.inl hc)
    | none =>
      have hnot : ∀ k, ¬ Carries s k (sel a) := fun k h => by
        obtain ⟨d, hd, _⟩ := (carries_iff s k _).mp h
        have := channelOf_eq_none_of_le agree.channels k (by simp [hd])
        have := agree.carries_pos h
        exact (channelFor_eq_none_iff s _).mp hfor k (by omega) (by omega) h
      cases hfree : freeChannel s with
      | some c =>
        obtain ⟨hc, ⟨hc1, hc7⟩, _⟩ := (freeChannel_eq_some_iff s c).mp hfree
        have nobody : s.seats.assigned.count (some c) = 0 := by
          refine List.count_eq_zero.mpr fun hmem => ?_
          obtain ⟨i, hi, hx⟩ := List.getElem_of_mem hmem
          have : assignmentOf s (i + 1) = some c := by simp [assignmentOf, hi, hx]
          obtain ⟨_, d, hd, _⟩ := agree.channel_of_assigned this (by omega)
          simp [hc] at hd
        rw [assignSelection_of_free h1 hsel hfor hfree]
        exact agree.onChannel h1 h60 hnone hsel hc1 hc7 (by simp [placedOn, nobody]) rfl rfl (.inr ⟨hc, hnot⟩)
      | none =>
        rw [assignSelection_of_full h1 hsel hfor hfree]
        exact agree.onZero h1 h60 hnone rfl rfl (by simp [hsel])
          (fun _ => ⟨hnot, (freeChannel_eq_none_iff s).mp hfree⟩)

/-- A unit on channel 0, or without a channel, has none any more; the unit leaves the deferred list. -/
theorem SeatsAgree.offZero {t : State} (agree : SeatsAgree s present sel) (h1 : 1 ≤ a) (h60 : a ≤ 60)
    (hzero : ∀ c, assignmentOf s a = some c → c = 0) (hchannels : t.seats.channels = s.seats.channels)
    (hassigned : t.seats.assigned = s.seats.assigned.set (a - 1) none)
    (hnodup : t.seats.deferred.Nodup)
    (hdeferred : ∀ b, b ∈ t.seats.deferred ↔ b ∈ s.seats.deferred ∧ b ≠ a) :
    SeatsAgree t (withPresence present a false) sel := by
  have assignment := assignmentOf_of_set hassigned agree.assigned h1 h60
  have channel : ∀ c, channelOf t c = channelOf s c := fun c => by simp [channelOf, hchannels]
  have carries : ∀ c l, Carries t c l ↔ Carries s c l := fun c l => by simp [Carries, channel]
  refine ⟨by rw [hchannels]; exact agree.channels, by rw [hassigned, List.length_set]; exact agree.assigned,
    (channel 0).trans agree.zero, ?_, ?_, ?_, ?_, hnodup, ?_, ?_, ?_⟩
  · intro c d hd
    rw [channel] at hd
    have hc : assignmentOf s a ≠ some c := fun h => agree.channel_pos hd (hzero c h)
    rw [hassigned, count_assigned_set agree.assigned h1 h60, if_neg hc, if_neg (by simp)]
    exact agree.count c d hd
  · intro c c' l h h'
    exact agree.unique c c' l ((carries c l).mp h) ((carries c' l).mp h')
  · intro b hb1 hb60
    rw [assignment]
    by_cases hb : b = a
    · simp [withPresence, hb]
    · simp [withPresence, hb, agree.present b hb1 hb60]
  · intro b c hb hc
    rw [assignment] at hb
    rw [carries]
    by_cases hab : b = a
    · simp [hab] at hb
    · rw [if_neg hab] at hb
      exact agree.carried b c hb hc
  · intro b
    rw [hdeferred, assignment]
    by_cases hb : b = a
    · simp [hb]
    · simp [hb, agree.waits b]
  · intro b hb c
    rw [carries]
    exact agree.uncarried b ((hdeferred b).mp hb).1 c
  · intro hne c hc1 hc7
    rw [channel]
    obtain ⟨b, hb⟩ := List.exists_mem_of_ne_nil _ hne
    exact agree.busy (List.ne_nil_of_mem ((hdeferred b).mp hb).1) c hc1 hc7

/-- A unit leaves a channel that others are on, too. -/
theorem SeatsAgree.offShared {t : State} (agree : SeatsAgree s present sel) (h1 : 1 ≤ a) (h60 : a ≤ 60) {c : Nat}
    (hc : assignmentOf s a = some c) (hpos : c ≠ 0) {d : Downlink} (hd : channelOf s c = some d) (hcount : 2 ≤ d.count)
    (hchannels : t.seats.channels = s.seats.channels.set c (some { d with count := d.count - 1 }))
    (hassigned : t.seats.assigned = s.seats.assigned.set (a - 1) none) (hdeferred : t.seats.deferred = s.seats.deferred) :
    SeatsAgree t (withPresence present a false) sel := by
  have hlength : c < s.seats.channels.length := by
    rw [agree.channels]
    exact (agree.channel_of_assigned hc hpos).1
  have assignment := assignmentOf_of_set hassigned agree.assigned h1 h60
  have channel := channelOf_of_set hchannels hlength
  have carries : ∀ k l, Carries t k l ↔ Carries s k l := fun k l => by
    rw [carries_of_set hchannels hlength]
    by_cases hk : k = c
    · simp [hk, Carries, hd]
    · simp [hk]
  refine ⟨by simp [hchannels, agree.channels], by simp [hassigned, agree.assigned], ?_, ?_, ?_, ?_, ?_, ?_, ?_, ?_, ?_⟩
  · rw [channel, if_neg (Ne.symm hpos)]
    exact agree.zero
  · intro k x hx
    rw [channel] at hx
    rw [hassigned, count_assigned_set agree.assigned h1 h60, hc]
    by_cases hk : k = c
    · subst hk
      obtain ⟨hl, hn, _⟩ := agree.count k d hd
      simp only [if_true, Option.some.injEq] at hx
      subst hx
      refine ⟨hl, by simp [hn], ?_⟩
      show d.count - 1 ≠ 0
      omega
    · simpa [hk, show c ≠ k from fun h => hk h.symm] using agree.count k x (by simpa [hk] using hx)
  · intro k k' l h h'
    exact agree.unique k k' l ((carries k l).mp h) ((carries k' l).mp h')
  · intro b hb1 hb60
    rw [assignment]
    by_cases hb : b = a
    · simp [withPresence, hb]
    · simp [withPresence, hb, agree.present b hb1 hb60]
  · intro b k hb hk
    rw [assignment] at hb
    rw [carries]
    by_cases hab : b = a
    · simp [hab] at hb
    · rw [if_neg hab] at hb
      exact agree.carried b k hb hk
  · rw [hdeferred]
    exact agree.nodup
  · intro b
    rw [hdeferred, assignment, agree.waits b]
    by_cases hb : b = a
    · simp [hb, hc, hpos]
    · simp [hb]
  · intro b hb k
    rw [carries]
    exact agree.uncarried b (hdeferred ▸ hb) k
  · intro hne k hk1 hk7
    rw [channel]
    split
    · simp
    · exact agree.busy (hdeferred ▸ hne) k hk1 hk7

/-- The last unit leaves its channel c: the channel is set to x, and the units of `waiting`, which wait for what it carries
now, take it. -/
theorem SeatsAgree.offLast {t : State} (agree : SeatsAgree s present sel) (h1 : 1 ≤ a) (h60 : a ≤ 60) {c : Nat}
    (hc : assignmentOf s a = some c) (hpos : c ≠ 0) {d : Downlink} (hd : channelOf s c = some d) (hcount : d.count ≤ 1)
    {x : Option Downlink} {waiting : List Nat} (hchannels : t.seats.channels = s.seats.channels.set c x)
    (hassigned : t.seats.assigned = assignAll c waiting (s.seats.assigned.set (a - 1) none))
    (hdeferred : t.seats.deferred = s.seats.deferred.filter (fun b => decide (b ∉ waiting)))
    (hwaiting : ∀ b ∈ waiting, b ∈ s.seats.deferred) (hnodup : waiting.Nodup)
    (hgrant : (s.seats.deferred = [] ∧ x = none ∧ waiting = []) ∨
      ∃ l, l ≠ 0 ∧ waiting ≠ [] ∧ x = some ⟨l, waiting.length⟩ ∧ ∀ b ∈ s.seats.deferred, b ∈ waiting ↔ sel b = l) :
    SeatsAgree t (withPresence present a false) sel := by
  have hlength : c < s.seats.channels.length := by
    rw [agree.channels]
    exact (agree.channel_of_assigned hc hpos).1
  have channel := channelOf_of_set hchannels hlength
  have zeroOf : ∀ b ∈ waiting, assignmentOf s b = some 0 ∧ sel b ≠ 0 := fun b hb => (agree.waits b).mp (hwaiting b hb)
  have ha : a ∉ waiting := fun h => hpos (by simpa [hc] using (zeroOf a h).1)
  have setLength : (s.seats.assigned.set (a - 1) none).length = 60 := by simp [agree.assigned]
  have left : ∀ b, assignmentOf { s with seats.assigned := s.seats.assigned.set (a - 1) none } b =
      if b = a then none else assignmentOf s b := assignmentOf_of_set rfl agree.assigned h1 h60
  have assignment : ∀ b, assignmentOf t b = if b ∈ waiting then some c else if b = a then none else assignmentOf s b := by
    intro b
    rw [← left b]
    unfold assignmentOf
    by_cases hb : b = 0
    · have : b ∉ waiting := fun h => by simpa [hb, assignmentOf] using (zeroOf b h).1
      simp [hb, show 0 ∉ waiting from hb ▸ this]
    · by_cases h61 : b ≤ 60
      · have entry := assignAll_getElem? c waiting (s.seats.assigned.set (a - 1) none) b (by omega) (by omega)
        simp only [hb, if_false, hassigned, List.getD_eq_getElem?_getD, entry]
        split <;> rfl
      · have : b ∉ waiting := fun h => h61 (assignmentOf_pos (zeroOf b h).1 agree.assigned).2.1
        have hset : (s.seats.assigned.set (a - 1) none)[b - 1]? = none := List.getElem?_eq_none (by omega)
        have hall : (assignAll c waiting (s.seats.assigned.set (a - 1) none))[b - 1]? = none :=
          List.getElem?_eq_none (by rw [assignAll_length]; omega)
        simp only [hb, if_false, hassigned, List.getD_eq_getElem?_getD, hset, hall, this]
  have count : ∀ k, k ≠ 0 → t.seats.assigned.count (some k) =
      s.seats.assigned.count (some k) - (if c = k then 1 else 0) + if k = c then waiting.length else 0 := fun k hk => by
    rw [hassigned, count_assignAll hpos hk _ _ (fun u hu => ?_) hnodup, count_assigned_set agree.assigned h1 h60, hc]
    · simp
    · obtain ⟨hu1, _, hu0⟩ := assignmentOf_pos (zeroOf u hu).1 agree.assigned
      have : u ≠ a := fun h => ha (h ▸ hu)
      exact ⟨hu1, by rwa [List.getElem?_set_ne (by omega)]⟩
  have one := agree.count c d hd
  have alone : ∀ b, b ≠ a → assignmentOf s b ≠ some c := fun b hb h => by
    have none := count_assigned_set (x := none) agree.assigned h1 h60 (some c)
    rw [hc, if_pos rfl] at none
    refine assignmentOf_ne_of_count (s := { s with seats.assigned := s.seats.assigned.set (a - 1) Option.none }) setLength
      (c := c) (by simp only [none]; simp; omega) b ?_
    rw [left, if_neg hb, h]
  have carries : ∀ k l, Carries t k l → (k ≠ c ∧ Carries s k l) ∨ (k = c ∧ x = some ⟨l, waiting.length⟩) := by
    intro k l h
    rw [carries_of_set hchannels hlength] at h
    by_cases hk : k = c
    · rw [if_pos hk] at h
      rcases hgrant with ⟨_, rfl, _⟩ | ⟨l', _, _, rfl, _⟩
      · cases h
      · exact .inr ⟨hk, by simpa using h⟩
    · rw [if_neg hk] at h
      exact .inl ⟨hk, h⟩
  have granted : ∀ l, x = some ⟨l, waiting.length⟩ → l ≠ 0 ∧ waiting ≠ [] ∧ ∀ b ∈ s.seats.deferred, b ∈ waiting ↔ sel b = l := by
    rintro l rfl
    rcases hgrant with ⟨_, h, _⟩ | ⟨l', h0, hne, h, hall⟩
    · cases h
    · obtain rfl : l = l' := congrArg Downlink.language (Option.some.inj h)
      exact ⟨h0, hne, hall⟩
  have untaken : ∀ l, x = some ⟨l, waiting.length⟩ → ∀ k, ¬ Carries s k l := by
    intro l hx k h
    obtain ⟨_, hne, hall⟩ := granted l hx
    obtain ⟨b, hb⟩ := List.exists_mem_of_ne_nil _ hne
    exact agree.uncarried b (hwaiting b hb) k (((hall b (hwaiting b hb)).mp hb) ▸ h)
  refine ⟨by simp [hchannels, agree.channels], by simp [hassigned, agree.assigned], ?_, ?_, ?_, ?_, ?_, ?_, ?_, ?_, ?_⟩
  · rw [channel, if_neg (Ne.symm hpos)]
    exact agree.zero
  · intro k y hy
    rw [channel] at hy
    by_cases hk : k = c
    · rw [if_pos hk] at hy
      rcases hgrant with ⟨_, rfl, _⟩ | ⟨l, h0, hne, rfl, _⟩
      · cases hy
      · obtain rfl := (Option.some.inj hy).symm
        refine ⟨h0, ?_, fun h => hne (List.eq_nil_of_length_eq_zero h)⟩
        rw [count k (hk ▸ hpos)]
        simp [hk]
        omega
    · rw [if_neg hk] at hy
      rw [count k (agree.channel_pos hy)]
      simpa [hk, show c ≠ k from fun h => hk h.symm] using agree.count k y hy
  · intro k k' l h h'
    rcases carries k l h with ⟨_, hs⟩ | ⟨hk, hx⟩ <;> rcases carries k' l h' with ⟨_, hs'⟩ | ⟨hk', hx'⟩
    · exact agree.unique k k' l hs hs'
    · exact absurd hs (untaken l hx' k)
    · exact absurd hs' (untaken l hx k')
    · rw [hk, hk']
  · intro b hb1 hb60
    rw [assignment]
    by_cases hb : b = a
    · simp [withPresence, hb, ha]
    · by_cases hw : b ∈ waiting
      · simp [withPresence, hb, hw, agree.present b hb1 hb60, (zeroOf b hw).1]
      · simp [withPresence, hb, hw, agree.present b hb1 hb60]
  · intro b k hb hk
    rw [assignment] at hb
    rw [carries_of_set hchannels hlength]
    by_cases hw : b ∈ waiting
    · rw [if_pos hw] at hb
      rcases hgrant with ⟨_, _, rfl⟩ | ⟨l, _, _, rfl, hall⟩
      · cases hw
      · rw [if_pos (Option.some.inj hb).symm, (hall b (hwaiting b hw)).mp hw]
        rfl
    · rw [if_neg hw] at hb
      by_cases hab : b = a
      · simp [hab] at hb
      · rw [if_neg hab] at hb
        rw [if_neg (fun h : k = c => alone b hab (h ▸ hb))]
        exact agree.carried b k hb hk
  · rw [hdeferred]
    exact agree.nodup.filter _
  · intro b
    rw [hdeferred, assignment, List.mem_filter, agree.waits b]
    by_cases hw : b ∈ waiting
    · simp [hw, hpos]
    · by_cases hb : b = a
      · simp [hb, hc, hpos, ha]
      · simp [hw, hb]
  · intro b hb k h
    rw [hdeferred, List.mem_filter] at hb
    rcases carries k _ h with ⟨_, hs⟩ | ⟨_, hx⟩
    · exact agree.uncarried b hb.1 k hs
    · exact of_decide_eq_true hb.2 (((granted _ hx).2.2 b hb.1).mpr rfl)
  · intro hne k hk1 hk7
    rw [channel]
    rcases hgrant with ⟨hnil, _⟩ | ⟨l, _, _, rfl, _⟩
    · simp [hdeferred, hnil] at hne
    · split
      · simp
      · refine agree.busy (fun h => hne (by simp [hdeferred, h])) k hk1 hk7

/-- A unit leaves its channel. -/
theorem SeatsAgree.dropped (agree : SeatsAgree s present (selectionOf s)) (h1 : 1 ≤ a) (h60 : a ≤ 60) :
    SeatsAgree (dropSelection a s) (withPresence present a false) (selectionOf s) := by
  cases hx : assignmentOf s a with
  | none =>
    have ha : a ∉ s.seats.deferred := fun h => by simpa [hx] using (agree.waits a).mp h
    rw [dropSelection_of_none h1 hx]
    refine agree.offZero h1 h60 (by simp [hx]) rfl rfl agree.nodup fun b => ?_
    exact ⟨fun h => ⟨h, fun hb => ha (hb ▸ h)⟩, And.left⟩
  | some c =>
    by_cases hc : c = 0
    · subst hc
      rw [dropSelection_of_zero h1 hx]
      exact agree.offZero h1 h60 (by simp [hx]) rfl rfl (agree.nodup.filter _) (by simp)
    · obtain ⟨_, d, hd, _⟩ := agree.channel_of_assigned hx hc
      by_cases hcount : d.count ≤ 1
      · rw [dropSelection_of_last h1 hx hc hd hcount]
        cases hhead : s.seats.deferred.head? with
        | none =>
          have hnil : s.seats.deferred = [] := List.head?_eq_none_iff.mp hhead
          rw [grantFreed_of_nil (s := withoutUnit s a) c _ hnil]
          exact agree.offLast h1 h60 hx hc hd hcount (x := none) (waiting := []) rfl rfl
            (by simp [setChannel, withoutUnit]) (by simp) (by simp) (.inl ⟨hnil, rfl, rfl⟩)
        | some b =>
          have hb : b ∈ s.seats.deferred := List.mem_of_head? hhead
          rw [grantFreed_of_head (s := withoutUnit s a) c _ hhead]
          refine agree.offLast h1 h60 hx hc hd hcount rfl rfl ?_ (fun u hu => (List.mem_filter.mp hu).1)
            (agree.nodup.filter _) (.inr ⟨selectionOf s b, ((agree.waits b).mp hb).2, ?_, rfl, ?_⟩)
          · refine List.filter_congr fun u hu => ?_
            simp [waitingFor, withoutUnit, show u ∈ s.seats.deferred from hu, bne, beq_eq_decide]
          · exact List.ne_nil_of_mem (List.mem_filter.mpr ⟨hb, by simp⟩)
          · intro u hu
            simp [waitingFor, withoutUnit, hu]
      · rw [dropSelection_of_shared h1 hx hc hd (by omega)]
        exact agree.offShared h1 h60 hx hc hd (by omega) rfl rfl rfl
end
end Sys2Proof.Machine
end

section
/-! SUPPORT. No operation but the replies of a unit changes who is Present and what is selected. -/
namespace Sys2Proof.Machine

/-- What the seat channels read of a unit. -/
def unitView (u : UnitEntry) : Bool × Nat := (u.present, u.selection)

theorem map_modify_of_same {α β : Type} (g : α → β) (f : α → α) (h : ∀ x, g (f x) = g x) (l : List α) (i : Nat) :
    (l.modify i f).map g = l.map g := by
  refine List.ext_getElem? fun j => ?_
  simp only [List.getElem?_map, List.getElem?_modify]
  split
  · cases l[j]? <;> simp [h]
  · simp

theorem views_modifyUnit (a : Nat) {f : UnitEntry → UnitEntry} (h : ∀ u, unitView (f u) = unitView u) (s : State) :
    (modifyUnit a f s).dlc.units.map unitView = s.dlc.units.map unitView := by
  unfold modifyUnit
  split
  · rfl
  · exact map_modify_of_same unitView f h _ _

@[simp] theorem views_foldl {β : Type} (g : State → β → State)
    (h : ∀ s x, (g s x).dlc.units.map unitView = s.dlc.units.map unitView) (l : List β) (s : State) :
    (l.foldl g s).dlc.units.map unitView = s.dlc.units.map unitView := foldl_keeps (fun s => s.dlc.units.map unitView) h l s

@[simp] theorem views_showFull (seat : Nat) (s : State) :
    (showFull seat s).dlc.units.map unitView = s.dlc.units.map unitView := by
  refine views_modifyUnit seat (fun u => ?_) s
  split <;> rfl

@[simp] theorem views_clearFull (seat : Nat) (s : State) :
    (clearFull seat s).dlc.units.map unitView = s.dlc.units.map unitView := by
  refine views_modifyUnit seat (fun u => ?_) s
  rfl

@[simp] theorem views_refusePress (seat : Nat) (s : State) :
    (refusePress seat s).dlc.units.map unitView = s.dlc.units.map unitView := by simp [refusePress]

@[simp] theorem views_filePlaceWant (w : PlaceWant) (s : State) :
    (filePlaceWant w s).dlc.units.map unitView = s.dlc.units.map unitView := by
  simp only [filePlaceWant]
  repeat' split
  all_goals simp

@[simp] theorem views_createRequest (seat : Nat) (s : State) :
    (createRequest seat s).dlc.units.map unitView = s.dlc.units.map unitView := by simp [createRequest]

@[simp] theorem views_pressIdleFree (seat : Nat) (s : State) :
    (pressIdleFree seat s).dlc.units.map unitView = s.dlc.units.map unitView := by
  simp only [pressIdleFree]
  repeat' split
  all_goals simp

@[simp] theorem views_pressIdleQueue (seat : Nat) (s : State) :
    (pressIdleQueue seat s).dlc.units.map unitView = s.dlc.units.map unitView := by
  simp only [pressIdleQueue]
  repeat' split
  all_goals simp

@[simp] theorem views_pressIdleOverride (seat : Nat) (s : State) :
    (pressIdleOverride seat s).dlc.units.map unitView = s.dlc.units.map unitView := by
  simp only [pressIdleOverride]
  repeat' split
  all_goals simp

@[simp] theorem views_pressIdle (seat : Nat) (s : State) :
    (pressIdle seat s).dlc.units.map unitView = s.dlc.units.map unitView := by
  simp only [pressIdle]
  repeat' split
  all_goals simp

@[simp] theorem views_micPress (seat : Nat) (s : State) :
    (micPress seat s).dlc.units.map unitView = s.dlc.units.map unitView := by
  simp only [micPress]
  repeat' split
  all_goals simp

@[simp] theorem views_placeRefused (origin : Origin) (seat : Nat) (s : State) :
    (placeRefused origin seat s).dlc.units.map unitView = s.dlc.units.map unitView := by
  simp only [placeRefused]
  repeat' split
  all_goals simp

@[simp] theorem views_placeWon (c : PlaceClaim) (s : State) :
    (placeWon c s).dlc.units.map unitView = s.dlc.units.map unitView := by
  simp only [placeWon]
  repeat' split
  all_goals simp

@[simp] theorem views_wantRanked (n : Nat) (origin : Origin) (s : State) :
    (wantRanked n origin s).dlc.units.map unitView = s.dlc.units.map unitView := by simp [wantRanked]

@[simp] theorem views_actGrantNext (c : Nat) (s : State) :
    (actGrantNext c s).dlc.units.map unitView = s.dlc.units.map unitView := by simp [actGrantNext]

@[simp] theorem views_actOn (c : RoomCommand) (s : State) :
    (actOn c s).dlc.units.map unitView = s.dlc.units.map unitView := by
  simp only [actOn]
  repeat' split
  all_goals simp

@[simp] theorem views_makeCurrent (c : RoomCommand) (s : State) :
    (makeCurrent c s).dlc.units.map unitView = s.dlc.units.map unitView := by simp [makeCurrent]

@[simp] theorem views_roomCommandWork (s : State) :
    (roomCommandWork s).dlc.units.map unitView = s.dlc.units.map unitView := by
  simp only [roomCommandWork]
  repeat' split
  all_goals simp

@[simp] theorem views_commandTest (t : Nat) (a : Announcement) (s : State) :
    (commandTest t a s).dlc.units.map unitView = s.dlc.units.map unitView := by
  simp only [commandTest]
  repeat' split
  all_goals simp

@[simp] theorem views_settlePlace (s : State) (c : PlaceClaim) :
    (settlePlace s c).dlc.units.map unitView = s.dlc.units.map unitView := by
  simp only [settlePlace]
  repeat' split
  all_goals simp

@[simp] theorem views_settleStep (s : State) :
    (settleStep s).dlc.units.map unitView = s.dlc.units.map unitView := by simp [settleStep]

@[simp] theorem views_deriveAutoAdvance (s : State) :
    (deriveAutoAdvance s).dlc.units.map unitView = s.dlc.units.map unitView := by
  simp only [deriveAutoAdvance]
  repeat' split
  all_goals simp

@[simp] theorem views_raisePlace (s : State) (w : PlaceWant) :
    (raisePlace s w).dlc.units.map unitView = s.dlc.units.map unitView := by
  simp only [raisePlace]
  repeat' split
  all_goals simp

@[simp] theorem views_raisePlaces (s : State) :
    (raisePlaces s).dlc.units.map unitView = s.dlc.units.map unitView := by simp [raisePlaces]

@[simp] theorem views_raiseStep (s : State) :
    (raiseStep s).dlc.units.map unitView = s.dlc.units.map unitView := by simp [raiseStep]

@[simp] theorem views_dropWants (s : State) :
    (dropWants s).dlc.units.map unitView = s.dlc.units.map unitView := by simp [dropWants]

@[simp] theorem views_claimWork (marked : List Nat) (s : State) :
    (claimWork marked s).dlc.units.map unitView = s.dlc.units.map unitView := by
  simp only [claimWork]
  repeat' split
  all_goals simp

@[simp] theorem views_sendPoll (s : State) :
    (sendPoll s).dlc.units.map unitView = s.dlc.units.map unitView := by
  refine views_modifyUnit s.dlc.pointer (fun u => ?_) s
  rfl

@[simp] theorem views_pollAt (f : Nat) (s : State) :
    (pollAt f s).dlc.units.map unitView = s.dlc.units.map unitView := by
  simp only [pollAt]
  repeat' split
  all_goals simp

@[simp] theorem views_dispatchKeys (a : Nat) (k : Keys) (s : State) :
    (dispatchKeys a k s).dlc.units.map unitView = s.dlc.units.map unitView := by
  simp only [dispatchKeys]
  repeat' split
  all_goals simp

@[simp] theorem views_takeTag (a tag : Nat) (s : State) :
    (takeTag a tag s).dlc.units.map unitView = s.dlc.units.map unitView := by
  unfold takeTag
  split
  · rfl
  · refine Eq.trans (by simp) (views_modifyUnit a (f := fun u => { u with tag := some tag }) (fun u => ?_) s)
    rfl

@[simp] theorem views_takeWindow (s : State) :
    (takeWindow s).dlc.units.map unitView = s.dlc.units.map unitView := by
  simp only [takeWindow]
  repeat' split
  all_goals simp

@[simp] theorem views_advanceFull (s : State) :
    (advanceFull s).dlc.units.map unitView = s.dlc.units.map unitView := by
  simp [advanceFull, unitView]

@[simp] theorem views_leaveIsolated (s : State) :
    (leaveIsolated s).dlc.units.map unitView = s.dlc.units.map unitView := by simp [leaveIsolated]

@[simp] theorem views_takeLinkRecovery (s : State) :
    (takeLinkRecovery s).dlc.units.map unitView = s.dlc.units.map unitView := by
  simp only [takeLinkRecovery]
  repeat' split
  all_goals simp

@[simp] theorem views_deliver (f : FrameIn) (s : State) :
    (deliver f s).dlc.units.map unitView = s.dlc.units.map unitView := by simp [deliver]

@[simp] theorem views_endFrame (f : FrameIn) (s : State) :
    (endFrame f s).dlc.units.map unitView = s.dlc.units.map unitView := by simp [endFrame]

@[simp] theorem views_beginFrame (f : FrameIn) (s : State) :
    (beginFrame f s).dlc.units.map unitView = s.dlc.units.map unitView := by simp [beginFrame]

@[simp] theorem views_frameBoundaryOp (f : FrameIn) (s : State) :
    (frameBoundaryOp f s).dlc.units.map unitView = s.dlc.units.map unitView := by
  simp only [frameBoundaryOp]
  repeat' split
  all_goals simp

@[simp] theorem views_switchPointWork (s : State) :
    (switchPointWork s).dlc.units.map unitView = s.dlc.units.map unitView := by simp [switchPointWork]

@[simp] theorem views_switchPointOp (s : State) :
    (switchPointOp s).dlc.units.map unitView = s.dlc.units.map unitView := by simp [switchPointOp]

@[simp] theorem views_fadeOutOp (seat : Nat) (s : State) :
    (fadeOutOp seat s).dlc.units.map unitView = s.dlc.units.map unitView := by simp [fadeOutOp]

@[simp] theorem views_ownSlotOp (s : State) :
    (ownSlotOp s).dlc.units.map unitView = s.dlc.units.map unitView := by
  simp only [ownSlotOp]
  repeat' split
  all_goals simp

@[simp] theorem views_peerArrival (t : Nat) (a : Announcement) (s : State) :
    (peerArrival t a s).dlc.units.map unitView = s.dlc.units.map unitView := by simp [peerArrival]

@[simp] theorem views_slotCloseOp (t : Nat) (s : State) :
    (slotCloseOp t s).dlc.units.map unitView = s.dlc.units.map unitView := by
  simp only [slotCloseOp]
  repeat' split
  all_goals simp

end Sys2Proof.Machine
end

section
/-! PROOF. The seat channels under every step (O58). -/
namespace Sys2Proof.Machine

/-- The laws of polls and seat channels. -/
def Seated (s : State) : Prop := PollLaw s ∧ SeatLaw s

/-- t has the seat channels of s, and of the units who is Present, what is selected and whom to poll. -/
@[simp] def SameSeats (s t : State) : Prop :=
  t.seats = s.seats ∧ t.dlc.units.map unitView = s.dlc.units.map unitView ∧ t.dlc.pointer = s.dlc.pointer ∧
  t.dlc.window = s.dlc.window ∧ t.dlc.dueWindow = s.dlc.dueWindow ∧ t.station.config = s.station.config

theorem unitView_unitOf {s t : State} (h : t.dlc.units.map unitView = s.dlc.units.map unitView) (a : Nat) :
    unitView (unitOf t a) = unitView (unitOf s a) := by
  have entries : (t.dlc.units.map unitView)[a - 1]? = (s.dlc.units.map unitView)[a - 1]? := by rw [h]
  unfold unitOf
  split
  · rfl
  · simp only [List.getElem?_map] at entries
    simp only [List.getD_eq_getElem?_getD]
    cases ht : t.dlc.units[a - 1]? <;> cases hs : s.dlc.units[a - 1]? <;> simp_all

theorem seatLaw_of_views {s t : State} (law : SeatLaw s) (hseats : t.seats = s.seats)
    (hviews : t.dlc.units.map unitView = s.dlc.units.map unitView) : SeatLaw t := by
  obtain ⟨hunits, agree⟩ := (seatLaw_iff s).mp law
  have view := unitView_unitOf hviews
  refine (seatLaw_iff t).mpr ⟨?_, agree.congr hseats (fun a _ _ => congrArg Prod.fst (view a))
    (fun a _ => congrArg Prod.snd (view a))⟩
  simpa [hunits] using congrArg List.length hviews

theorem Seated.of_same {s t : State} (law : Seated s) (same : SameSeats s t) : Seated t := by
  obtain ⟨hpoll, hseat⟩ := law
  obtain ⟨hseats, hviews, hpointer, hwindow, hdue, hconfig⟩ := same
  refine ⟨?_, seatLaw_of_views hseat hseats hviews⟩
  unfold PollLaw seatCount at *
  rw [hpointer, hwindow, hdue, hconfig]
  exact hpoll

theorem pos_of_present {s : State} (hl : s.dlc.units.length = 60) {a : Nat} (h : (unitOf s a).present = true) :
    1 ≤ a ∧ a ≤ 60 := by
  unfold unitOf at h
  split at h
  · cases h
  · by_contra hne
    rw [List.getD_eq_default _ _ (by omega)] at h
    cases h

/-- A unit takes a new selection, or its first: it leaves its channel, and gets one for the selection. -/
theorem seatLaw_takeSelection {s : State} {present : Nat → Bool} {a sel : Nat} (h1 : 1 ≤ a) (h60 : a ≤ 60)
    (hunits : s.dlc.units.length = 60) (agree : SeatsAgree s present (selectionOf s)) (fresh : Bool)
    (hpresent : ∀ b, (unitOf s b).present = withPresence present a true b)
    (hfresh : fresh = false → present a = true) : SeatLaw (takeSelection a sel fresh s) := by
  unfold takeSelection
  split
  · have dropped := agree.dropped h1 h60
    have hnone : assignmentOf (dropSelection a s) a = none := by
      have := dropped.present a h1 h60
      simpa [withPresence] using this.symm
    have chosen : SeatsAgree (dropSelection a s) (withPresence present a false) (Function.update (selectionOf s) a sel) := by
      refine dropped.congr rfl (fun _ _ _ => rfl) fun b hb => Function.update_of_ne ?_ _ _
      rintro rfl
      exact hb hnone
    have assigned := chosen.assigned_selection h1 h60 hnone
    rw [Function.update_self] at assigned
    have units : (handOverSelection a sel s).dlc = s.dlc := by simp
    have unit : ∀ b, unitOf (handOverSelection a sel s) b = unitOf s b := fun b => by simp [unitOf]
    refine (seatLaw_iff _).mpr ⟨by simp [hunits], assigned.congr (by simp; rfl) (fun b hb1 _ => ?_) fun b hb => ?_⟩
    · rw [unitOf_modifyUnit a b _ _ h1 hb1 (by simp [hunits, h60])]
      by_cases hb : b = a
      · simp [hb, unit, hpresent, withPresence]
      · simp [hb, unit, hpresent, withPresence]
    · obtain ⟨c, hc⟩ := Option.ne_none_iff_exists'.mp hb
      have hb1 := (assignmentOf_pos hc assigned.assigned).1
      unfold selectionOf
      rw [unitOf_modifyUnit a b _ _ h1 hb1 (by simp [hunits, h60])]
      by_cases hb : b = a
      · simp [hb]
      · simp [hb, unit]
  · next hold =>
    have hf : fresh = false := by cases fresh <;> simp_all
    refine (seatLaw_iff s).mpr ⟨hunits, agree.congr rfl (fun b _ _ => ?_) (fun _ _ => rfl)⟩
    rw [hpresent]
    by_cases hb : b = a
    · simp [withPresence, hb, hfresh hf]
    · simp [withPresence, hb]

/-- A good reply, but for tag, selection and keys: the unit is Present, without misses, and its report is acknowledged. -/
def heardUnit (a : Nat) (c : ReplyClass) (s : State) : State :=
  raiseIf (!(unitOf s a).present) .unitChanged (modifyUnit a (fun u =>
    { u with miss := 0, noise := noiseAfter c u.noise, present := true, ack := !u.ack }) s)

/-- A good reply up to the dispatch of its keys. -/
def reportedUnit (a : Nat) (c : ReplyClass) (r : UnitContent) (s : State) : State :=
  modifyUnit a (fun u => { u with keys := r.keys })
    (takeTag a r.tag (takeSelection a r.selection (!(unitOf s a).present) (heardUnit a c s)))

theorem goodReply_eq (a : Nat) (c : ReplyClass) (r : UnitContent) (s : State) :
    goodReply a c r s = dispatchKeys a r.keys (reportedUnit a c r s) := rfl

/-- The unit of three missing replies, and its flag. -/
def absentUnit (a : Nat) (s : State) : State :=
  raise .unitChanged (modifyUnit a (fun u =>
    { u with present := false, miss := Config.missLimit, fullTimer := 0, keys := Keys.empty }) s)

/-- A unit lost, before its seat channel is left. -/
def abandonedSeat (a : Nat) (s : State) : State :=
  closeSeatMic a (removeRequest a (withdrawSeat true a (absentUnit a s)))

theorem loseUnit_eq (a : Nat) (s : State) : loseUnit a s = dropSelection a (abandonedSeat a s) := rfl

section
variable {s : State} {a : Nat}

theorem unitOf_heardUnit (h1 : 1 ≤ a) (h60 : a ≤ s.dlc.units.length) (c : ReplyClass) (b : Nat) :
    unitOf (heardUnit a c s) b = if b = a then { unitOf s a with
      miss := 0, noise := noiseAfter c (unitOf s a).noise, present := true, ack := !(unitOf s a).ack } else unitOf s b := by
  by_cases hb : b = 0
  · simp [hb, unitOf, show 0 ≠ a by omega]
  · rw [← unitOf_modifyUnit a b (fun u => { u with
      miss := 0, noise := noiseAfter c u.noise, present := true, ack := !u.ack }) s h1 (by omega) h60]
    simp [unitOf, heardUnit]

theorem unitOf_absentUnit (h1 : 1 ≤ a) (h60 : a ≤ s.dlc.units.length) (b : Nat) :
    unitOf (absentUnit a s) b = if b = a then { unitOf s a with
      present := false, miss := Config.missLimit, fullTimer := 0, keys := Keys.empty } else unitOf s b := by
  by_cases hb : b = 0
  · simp [hb, unitOf, show 0 ≠ a by omega]
  · rw [← unitOf_modifyUnit a b (fun u => { u with
      present := false, miss := Config.missLimit, fullTimer := 0, keys := Keys.empty }) s h1 (by omega) h60]
    simp [unitOf, absentUnit]

theorem unitOf_abandonedSeat (a : Nat) (s : State) (b : Nat) : unitOf (abandonedSeat a s) b = unitOf (absentUnit a s) b := by
  simp [abandonedSeat, unitOf]
end

theorem seatLaw_goodReply {s : State} (law : SeatLaw s) {a : Nat} (h1 : 1 ≤ a) (h60 : a ≤ 60) (c : ReplyClass)
    (r : UnitContent) : SeatLaw (goodReply a c r s) := by
  obtain ⟨hunits, agree⟩ := (seatLaw_iff s).mp law
  have units : (heardUnit a c s).dlc.units.length = 60 := by simp [heardUnit, hunits]
  have seats : (heardUnit a c s).seats = s.seats := by simp [heardUnit]
  have unit := unitOf_heardUnit (s := s) h1 (by omega) c
  have selection : selectionOf (heardUnit a c s) = selectionOf s := by
    funext b
    unfold selectionOf
    rw [unit]
    by_cases hb : b = a <;> simp [hb]
  have chosen : SeatLaw (takeSelection a r.selection (!(unitOf s a).present) (heardUnit a c s)) := by
    refine seatLaw_takeSelection (present := fun b => (unitOf s b).present) h1 h60 units
      (selection ▸ agree.congr seats (fun _ _ _ => rfl) (fun _ _ => rfl)) _ (fun b => ?_) (fun h => by simpa using h)
    rw [unit]
    by_cases hb : b = a <;> simp [withPresence, hb]
  rw [goodReply_eq]
  refine seatLaw_of_views chosen (by simp [reportedUnit]) ?_
  rw [views_dispatchKeys, ← views_takeTag a r.tag (takeSelection a r.selection (!(unitOf s a).present) (heardUnit a c s))]
  refine views_modifyUnit a (fun u => ?_) _
  rfl

theorem seatLaw_loseUnit {s : State} (law : SeatLaw s) {a : Nat} (h1 : 1 ≤ a) (h60 : a ≤ 60) :
    SeatLaw (loseUnit a s) := by
  obtain ⟨hunits, agree⟩ := (seatLaw_iff s).mp law
  have unit : ∀ b, unitOf (abandonedSeat a s) b = if b = a then { unitOf s a with
      present := false, miss := Config.missLimit, fullTimer := 0, keys := Keys.empty } else unitOf s b := fun b => by
    rw [unitOf_abandonedSeat, unitOf_absentUnit h1 (by omega)]
  have selection : selectionOf (abandonedSeat a s) = selectionOf s := by
    funext b
    unfold selectionOf
    rw [unit]
    by_cases hb : b = a <;> simp [hb]
  have seats : (abandonedSeat a s).seats = s.seats := by simp [abandonedSeat, absentUnit]
  have units : (abandonedSeat a s).dlc.units.length = 60 := by simp [abandonedSeat, absentUnit, hunits]
  have dropped := SeatsAgree.dropped (s := abandonedSeat a s) (present := fun b => (unitOf s b).present)
    (selection ▸ agree.congr seats (fun _ _ _ => rfl) (fun _ _ => rfl)) h1 h60
  have left : ∀ b, unitOf (dropSelection a (abandonedSeat a s)) b = unitOf (abandonedSeat a s) b := fun b => by
    simp [dropSelection, unitOf]
  rw [loseUnit_eq]
  refine (seatLaw_iff _).mpr ⟨by simp [dropSelection, units], dropped.congr rfl (fun b _ _ => ?_) (fun b _ => ?_)⟩
  · rw [left, unit]
    by_cases hb : b = a <;> simp [withPresence, hb]
  · unfold selectionOf
    rw [left]
end Sys2Proof.Machine
end

section
/-! PROOF. The seat channels under every step (O58). -/
namespace Sys2Proof.Machine

@[simp] theorem advanceFull_polls (s : State) :
    (advanceFull s).dlc.pointer = s.dlc.pointer ∧ (advanceFull s).dlc.window = s.dlc.window ∧
    (advanceFull s).dlc.dueWindow = s.dlc.dueWindow := by
  simp [advanceFull]

@[simp] theorem leaveIsolated_polls (s : State) :
    (leaveIsolated s).dlc.pointer = s.dlc.pointer ∧ (leaveIsolated s).dlc.window = s.dlc.window ∧
    (leaveIsolated s).dlc.dueWindow = s.dlc.dueWindow := by
  simp [leaveIsolated]

@[simp] theorem takeLinkRecovery_polls (s : State) :
    (takeLinkRecovery s).dlc.pointer = s.dlc.pointer ∧ (takeLinkRecovery s).dlc.window = s.dlc.window ∧
    (takeLinkRecovery s).dlc.dueWindow = s.dlc.dueWindow := by
  unfold takeLinkRecovery
  split <;> simp

@[simp] theorem deliver_polls (f : FrameIn) (s : State) :
    (deliver f s).dlc.pointer = s.dlc.pointer ∧ (deliver f s).dlc.window = s.dlc.window ∧
    (deliver f s).dlc.dueWindow = s.dlc.dueWindow := by
  simp [deliver]

@[simp] theorem endFrame_polls (f : FrameIn) (s : State) :
    (endFrame f s).dlc.pointer = s.dlc.pointer ∧ (endFrame f s).dlc.window = s.dlc.window ∧
    (endFrame f s).dlc.dueWindow = s.dlc.dueWindow := by
  unfold endFrame
  split <;> simp

@[simp] theorem switchPointWork_polls (s : State) :
    (switchPointWork s).dlc.pointer = s.dlc.pointer ∧ (switchPointWork s).dlc.window = s.dlc.window ∧
    (switchPointWork s).dlc.dueWindow = s.dlc.dueWindow := by
  simp [switchPointWork]

@[simp] theorem switchPointOp_polls (s : State) :
    (switchPointOp s).dlc.pointer = s.dlc.pointer ∧ (switchPointOp s).dlc.window = s.dlc.window ∧
    (switchPointOp s).dlc.dueWindow = s.dlc.dueWindow := by
  simp [switchPointOp]

@[simp] theorem fadeOutOp_polls (seat : Nat) (s : State) :
    (fadeOutOp seat s).dlc.pointer = s.dlc.pointer ∧ (fadeOutOp seat s).dlc.window = s.dlc.window ∧
    (fadeOutOp seat s).dlc.dueWindow = s.dlc.dueWindow := by
  unfold fadeOutOp
  split <;> simp

@[simp] theorem ownSlotOp_polls (s : State) :
    (ownSlotOp s).dlc.pointer = s.dlc.pointer ∧ (ownSlotOp s).dlc.window = s.dlc.window ∧
    (ownSlotOp s).dlc.dueWindow = s.dlc.dueWindow := by
  unfold ownSlotOp
  split <;> simp

@[simp] theorem peerArrival_polls (t : Nat) (a : Announcement) (s : State) :
    (peerArrival t a s).dlc.pointer = s.dlc.pointer ∧ (peerArrival t a s).dlc.window = s.dlc.window ∧
    (peerArrival t a s).dlc.dueWindow = s.dlc.dueWindow := by
  simp [peerArrival]

@[simp] theorem slotCloseOp_polls (t : Nat) (s : State) :
    (slotCloseOp t s).dlc.pointer = s.dlc.pointer ∧ (slotCloseOp t s).dlc.window = s.dlc.window ∧
    (slotCloseOp t s).dlc.dueWindow = s.dlc.dueWindow := by
  unfold slotCloseOp
  repeat' split
  all_goals simp

@[simp] theorem changeState_config (st : StationState) (timer : Option Nat) (s : State) :
    (changeState st timer s).station.config = s.station.config := by
  simp [changeState]

@[simp] theorem enterJoining_config (s : State) :
    (enterJoining s).station.config = s.station.config := by
  simp [enterJoining]

@[simp] theorem enterRunning_config (s : State) :
    (enterRunning s).station.config = s.station.config := by
  simp [enterRunning]

@[simp] theorem takeExpiry_config (s : State) :
    (takeExpiry s).station.config = s.station.config := by
  unfold takeExpiry
  split <;> simp

@[simp] theorem enterIsolated_config (s : State) :
    (enterIsolated s).station.config = s.station.config := by
  simp [enterIsolated]

@[simp] theorem takeLinkFailure_config (s : State) :
    (takeLinkFailure s).station.config = s.station.config := by
  unfold takeLinkFailure
  split <;> simp

@[simp] theorem leaveIsolated_config (s : State) :
    (leaveIsolated s).station.config = s.station.config := by
  simp [leaveIsolated]

@[simp] theorem takeLinkRecovery_config (s : State) :
    (takeLinkRecovery s).station.config = s.station.config := by
  unfold takeLinkRecovery
  split <;> simp

@[simp] theorem advanceTimer_config (s : State) :
    (advanceTimer s).station.config = s.station.config := by
  rfl

@[simp] theorem switchPointOp_config (s : State) :
    (switchPointOp s).station.config = s.station.config := by
  simp [switchPointOp]

@[simp] theorem restartStation_config (s : State) :
    (restartStation s).station.config = s.station.config := by
  simp [restartStation]

theorem Seated.of_port {s : State} (law : Seated s) (p : Port) : Seated { s with port := p } := law

theorem seated_closeWindow {s : State} (law : Seated s) {a : Nat} (h1 : 1 ≤ a) (h60 : a ≤ 60)
    (reply : Option UnitReply) : Seated (closeWindow a reply s) := by
  obtain ⟨hpoll, hseat⟩ := law
  have good : ∀ c r, Seated (goodReply a c r s) := fun c r => by
    refine ⟨?_, seatLaw_goodReply hseat h1 h60 c r⟩
    simpa [PollLaw, seatCount, goodReply_eq, reportedUnit, heardUnit] using hpoll
  unfold closeWindow
  split
  · exact good _ _
  · exact good _ _
  · unfold badReply
    split
    · exact ⟨hpoll, hseat⟩
    · split
      · refine ⟨?_, seatLaw_loseUnit hseat h1 h60⟩
        simpa [PollLaw, seatCount, loseUnit_eq, dropSelection, abandonedSeat, absentUnit] using hpoll
      · refine Seated.of_same ⟨hpoll, hseat⟩ ⟨by simp, views_modifyUnit a (fun u => ?_) s, by simp⟩
        rfl

theorem Seated.of_windows {s t : State} (law : Seated s) (hseats : t.seats = s.seats) (hunits : t.dlc.units = s.dlc.units)
    (hpointer : t.dlc.pointer = s.dlc.pointer) (hwindow : t.dlc.window = s.dlc.window ∨ t.dlc.window = none)
    (hdue : t.dlc.dueWindow = s.dlc.dueWindow ∨ t.dlc.dueWindow = none) (hconfig : t.station.config = s.station.config) :
    Seated t := by
  obtain ⟨⟨h1, h60, hw, hd, hcount⟩, hseat⟩ := law
  refine ⟨⟨by rwa [hpointer], by rwa [hpointer], ?_, ?_, by simpa [seatCount, hconfig] using hcount⟩,
    seatLaw_of_views hseat hseats (by rw [hunits])⟩
  · rcases hwindow with h | h
    · rwa [h]
    · simp [h]
  · rcases hdue with h | h
    · rwa [h]
    · simp [h]

theorem seated_takeWindow {s : State} (law : Seated s) : Seated (takeWindow s) := by
  unfold takeWindow
  split
  · exact law.of_windows rfl rfl rfl (.inl rfl) (.inr rfl) rfl
  · exact law.of_windows rfl rfl rfl (.inr rfl) (.inl rfl) rfl

theorem closingWindow_range {s : State} (law : PollLaw s) {a : Nat} (h : closingWindow s = some a) : 1 ≤ a ∧ a ≤ 60 := by
  obtain ⟨-, -, hw, hd, -⟩ := law
  unfold closingWindow at h
  split at h
  · next hdue =>
    cases h
    exact hd _ hdue
  · split at h
    · cases h
    · exact hw a h

theorem seated_pollWindowCloseOp {s : State} (law : Seated s) (reply : Option UnitReply) :
    Seated (pollWindowCloseOp reply s) := by
  unfold pollWindowCloseOp
  split
  · next a ha =>
    obtain ⟨h1, h60⟩ := closingWindow_range law.1 ha
    exact seated_closeWindow (seated_takeWindow law) h1 h60 reply
  · exact law

theorem seated_unitAbsentOp {s : State} (law : Seated s) (a : Nat) : Seated (unitAbsentOp a s) := by
  unfold unitAbsentOp
  split
  · next h =>
    have present : (unitOf s a).present = true := by simp_all
    obtain ⟨h1, h60⟩ := pos_of_present law.2.1.2.2.1 present
    have taken : Seated (if closingWindow s = some a then takeWindow s else s) := by
      split
      · exact seated_takeWindow law
      · exact law
    refine ⟨?_, seatLaw_loseUnit taken.2 h1 h60⟩
    simpa [PollLaw, seatCount, loseUnit_eq, dropSelection, abandonedSeat, absentUnit] using taken.1
  · exact law

theorem seated_sendPoll {s : State} (law : Seated s) : Seated (sendPoll s) := by
  obtain ⟨⟨h1, h60, hw, hd, hcount⟩, hseat⟩ := law
  refine ⟨?_, seatLaw_of_views hseat (by simp) (by simp)⟩
  unfold PollLaw
  have count : seatCount (sendPoll s) = seatCount s := by simp [seatCount]
  rw [count]
  refine ⟨?_, ?_, ?_, ?_, hcount⟩ <;> simp only [sendPoll, modifyUnit_fields]
  · split <;> omega
  · split <;> omega
  · simpa using ⟨h1, h60⟩
  · exact hw

theorem seated_pollAt {s : State} (law : Seated s) (f : Nat) : Seated (pollAt f s) := by
  unfold pollAt
  split
  · exact seated_sendPoll law
  · exact law

theorem seated_resetPolling {s : State} (law : Seated s) (reply : Option UnitReply) : Seated (resetPolling reply s) := by
  obtain ⟨-, -, hw, hd, -⟩ := law.1
  have closed : Seated { s with dlc := { s.dlc with window := none } } :=
    law.of_windows rfl rfl rfl (.inr rfl) (.inl rfl) rfl
  have dueClosed : Seated { s with dlc := { s.dlc with dueWindow := none } } :=
    law.of_windows rfl rfl rfl (.inl rfl) (.inr rfl) rfl
  unfold resetPolling
  split
  · split
    · next a ha => exact seated_closeWindow dueClosed (hd a ha).1 (hd a ha).2 reply
    · exact law
  · refine seated_pollAt ?_ 0
    split
    · next a ha => exact seated_closeWindow closed (hw a ha).1 (hw a ha).2 reply
    · exact law

theorem seated_hsyncOp {s : State} (law : Seated s) (u : Option UnitReply) (d : Option DeskReply) :
    Seated (hsyncOp u d s) := by
  have acquired : ∀ t, Seated t → Seated (acquire t) := fun t ht => ht
  unfold hsyncOp
  split
  · split
    · exact acquired s law
    · exact acquired _ ((seated_resetPolling law u).of_same (by simp [cutShort]))
  · split
    · exact law
    · exact law

theorem seated_acceptConfig {s : State} (law : Seated s) {c : Configuration} (h : c.seatCount ≤ 60) :
    Seated (acceptConfig c s) := by
  obtain ⟨⟨h1, h60, hw, hd, hcount⟩, hseat⟩ := law
  refine ⟨?_, seatLaw_of_views hseat (by simp) (by simp)⟩
  have count : seatCount (acceptConfig c s) = c.seatCount := by simp [seatCount, acceptConfig, enterJoining]
  unfold PollLaw
  rw [count]
  exact ⟨by simpa using h1, by simpa using h60, by simpa using hw, by simpa using hd, h⟩

theorem seatCount_of_accepted {n : Nat} {record : List Byte} (h : rejection n record = none) :
    (recordConfig record).seatCount ≤ 60 := (configLaw_of_accepted h).2.1

theorem seated_memoryReadOp {s : State} (law : Seated s) (record : List Byte) : Seated (memoryReadOp record s) := by
  have read : Seated { s with station := { s.station with memoryReading := false } } := law
  rcases memoryReadOp_cases record s with ⟨_, h⟩ | ⟨_, r, _, h⟩ | ⟨_, hnone, h⟩
  · rw [h]
    exact law
  · rw [h]
    exact read
  · rw [h]
    exact seated_acceptConfig read (seatCount_of_accepted hnone)

theorem seated_loadConfigOp {s : State} (law : Seated s) (record : List Byte) : Seated (loadConfigOp record s) := by
  rcases loadConfigOp_cases record s with ⟨_, h⟩ | ⟨_, _, r, _, h⟩ | ⟨_, _, hnone, h⟩
  · rw [h]
    exact law
  · rw [h]
    exact law
  · rw [h]
    exact (seated_acceptConfig law (seatCount_of_accepted hnone)).of_port _

theorem seatLaw_initial {s : State} (hunits : s.dlc.units = List.replicate 60 UnitEntry.initial)
    (hseats : s.seats = SeatChannels.initial) : SeatLaw s := by
  have empty : ∀ {β : Type} (n i : Nat), (List.replicate n (none : Option β)).getD i none = none := fun n i => by
    simp only [List.getD_eq_getElem?_getD, List.getElem?_replicate]
    split <;> rfl
  have channel : ∀ c, channelOf s c = none := fun c => by
    unfold channelOf
    rw [hseats]
    exact empty 8 c
  have assignment : ∀ a, assignmentOf s a = none := fun a => by
    unfold assignmentOf
    rw [hseats]
    split
    · rfl
    · exact empty 60 _
  have absent : ∀ a, (unitOf s a).present = false := fun a => by
    unfold unitOf
    rw [hunits]
    split
    · rfl
    · simp only [List.getD_eq_getElem?_getD, List.getElem?_replicate]
      split <;> rfl
  have hnil : s.seats.deferred = [] := by rw [hseats]; rfl
  refine (seatLaw_iff s).mpr ⟨by simp [hunits], by rw [hseats]; rfl, by rw [hseats]; rfl, channel 0, ?_, ?_, ?_, ?_, ?_, ?_, ?_, ?_⟩
  · simp [channel]
  · simp [Carries, channel]
  · simp [absent, assignment]
  · simp [assignment]
  · simp [hnil]
  · simp [hnil, assignment]
  · simp [hnil]
  · simp [hnil]

theorem seated_restartTables {s : State} (law : Seated s) : Seated (restartTables s) := by
  obtain ⟨⟨_, _, _, _, hcount⟩, _⟩ := law
  exact ⟨⟨Nat.le_refl 1, (by decide : 1 ≤ 60), by simp [restartTables, Dlc.initial], by simp [restartTables, Dlc.initial], hcount⟩,
    seatLaw_initial rfl rfl⟩

theorem seated_resetStation (s : State) : Seated (resetStation s) :=
  ⟨⟨Nat.le_refl 1, (by decide : 1 ≤ 60), by simp [resetStation, State.reset, Dlc.initial], by simp [resetStation, State.reset, Dlc.initial],
    by simp [resetStation, seatCount, State.reset, Station.initial]⟩, seatLaw_initial rfl rfl⟩

theorem seated_liveEffect (i : Instr) {s : State} (law : Seated s) : Seated (liveEffect i s) := by
  cases i with
  | pinReset => exact seated_resetStation s
  | resetRelease n c => exact law
  | configMemoryRead record => exact seated_memoryReadOp law record
  | frameBoundary f =>
    have ended : Seated (latchFrame (advanceTimer (advanceFrame f (endFrame f (takeExpiry s))))) :=
      law.of_same (by simp)
    exact (seated_pollAt ended (latchFrame (advanceTimer (advanceFrame f (endFrame f (takeExpiry s))))).lif.frame).of_same
      (by simp [liveEffect, beginFrame])
  | hlckTimeout => exact law
  | hsyncMark u d => exact seated_hsyncOp law u d
  | switchPoint => exact law.of_same (by simp [liveEffect])
  | linkFailure => exact law.of_same (by simp [liveEffect])
  | linkRecovery => exact law.of_same (by simp [liveEffect])
  | fadeInComplete seat => exact law.of_same (by simp [liveEffect])
  | fadeOutEnd seat => exact law.of_same (by simp [liveEffect])
  | speakingTimeExpiry seat => exact law.of_same (by simp [liveEffect])
  | ownSlot => exact law.of_same (by simp [liveEffect])
  | slotClose t => exact law.of_same (by simp [liveEffect])
  | peerLoss t => exact law.of_same (by simp [liveEffect])
  | wallSample closed opened => exact law.of_same (by simp [liveEffect])
  | wallAdoption x => exact law.of_same (by simp [liveEffect])
  | pollWindowClose reply => exact seated_pollWindowCloseOp law reply
  | unitAbsent a => exact seated_unitAbsentOp law a
  | boothWindowClose reply => exact law.of_same (by simp [liveEffect])
  | deskAbsent e => exact law.of_same (by simp [liveEffect])
  | joiningTimerExpiry => exact law.of_same (by simp [liveEffect])
  | loadConfig record => exact seated_loadConfigOp law record
  | restart =>
    unfold liveEffect
    simp only [restartOp]
    split
    · exact law.of_port _
    · exact (seated_restartTables law).of_same (by simp [restartStation])
  | readRecord kind index => exact law.of_same (by simp [liveEffect])
  | readEvents => exact law
  | clearEvents mask => exact law
  | setEventMask mask => exact law
  | issueRoomCommand kind argument => exact law.of_same (by simp [liveEffect])
  | setWallOverride input setting => exact law.of_same (by simp [liveEffect])
  | closeSeat seat => exact law.of_same (by simp [liveEffect])
  | cancelRequest seat => exact law.of_same (by simp [liveEffect])
  | emptyTransaction => exact law
  | badCommandFrame frame => exact law.of_same (by simp [liveEffect])

/-- Settles O58: every command keeps the laws of polls and seat channels (`seated_liveEffect`), and the sizes. -/
theorem stepKeepsSeatChannels : Obligations.StepKeepsSeatChannels := by
  intro s t hsize hpoll hseat h
  have seated : Seated t := step_preserves (P := Seated) (fun _ _ law => law)
    (exec_preserves (fun i _ _ law => seated_liveEffect i law) (fun s _ => seated_resetStation s)
      (fun n c s _ law => law.of_same (by unfold releaseReset; split <;> simp))
      (fun f s law => law.of_same (by simp [bypassFrame]))) ⟨hpoll, hseat⟩ h
  have size : SizeLaw t := step_preserves_of_keeps (P := SizeLaw) (fun _ _ k law => k.size law) (fun _ _ law => law)
    (fun _ _ law => law) (fun _ law => sizeLaw_restartTables law) (fun s _ => sizeLaw_resetStation s) hsize h
  exact ⟨size, seated⟩
end Sys2Proof.Machine
end

section
/-! PROOF. Membership, head and adopted context under every step (O54): a recomputation puts them in place, and no other
operation touches what they speak of. -/
namespace Sys2Proof.Machine

/-- The laws of the room, at a station number of the hall. -/
def Roomed (s : State) : Prop := s.station.number < 16 ∧ RoomLaw s ∧ ContextLaw s

/-- What a peer announces, for each entry of the Peer Table. -/
def announced (peers : List (Option PeerEntry)) : List (Option Announcement) := peers.map (Option.map (·.content))

/-- t has all that the laws of the room read as s has it. -/
@[simp] def SameRoom (s t : State) : Prop :=
  t.station.number = s.station.number ∧ t.station.state = s.station.state ∧ t.station.config = s.station.config ∧
  announced t.peers = announced s.peers ∧ t.room.members = s.room.members ∧ t.room.head = s.room.head ∧
  t.room.adopted = s.room.adopted ∧ t.floor.level = s.floor.level

theorem peerAt_content (s : State) (m : Nat) : (peerAt s m).map (·.content) = (announced s.peers).getD m none := by
  simp only [peerAt, announced, List.getD_eq_getElem?_getD, List.getElem?_map]
  cases s.peers[m]? <;> rfl

theorem any_content {s t : State} (h : announced t.peers = announced s.peers) (p : Announcement → Bool) (m : Nat) :
    (peerAt t m).any (fun e => p e.content) = (peerAt s m).any (fun e => p e.content) := by
  have same : (peerAt t m).map (·.content) = (peerAt s m).map (·.content) := by rw [peerAt_content, peerAt_content, h]
  cases ht : peerAt t m <;> cases hs : peerAt s m <;> simp_all

theorem Roomed.of_same {s t : State} (law : Roomed s) (same : SameRoom s t) : Roomed t := by
  obtain ⟨hn, hroom, hcontext⟩ := law
  obtain ⟨hnumber, hstate, hconfig, hpeers, hmembers, hhead, hadopted, hlevel⟩ := same
  refine ⟨hnumber ▸ hn, ?_, ?_⟩
  · unfold RoomLaw at *
    simp only [hnumber, hstate, hmembers, hhead, any_content hpeers (·.running)]
    exact hroom
  · unfold ContextLaw homeContext at *
    simp only [hnumber, hconfig, hhead, hadopted, hlevel,
      any_content hpeers (fun a => s.room.adopted == some a.context && s.floor.level == a.context.level)]
    exact hcontext

theorem mem_membershipOf {s : State} (hn : s.station.number < 16) {m : Nat} (h : m ∈ membershipOf s) :
    m = s.station.number ∨ (peerAt s m).any (fun e => e.content.running) = true := by
  unfold membershipOf at h
  split at h
  · rcases (mem_candidates s hn m).mp (memberPasses_subset_candidates hn 15 h) with hself | ⟨_, e, he, hrunning⟩
    · exact .inl hself
    · exact .inr (by simp [he, hrunning])
  · exact .inl (List.mem_singleton.mp h)

theorem self_mem_membershipOf {s : State} (hn : s.station.number < 16) : s.station.number ∈ membershipOf s := by
  unfold membershipOf
  split
  · exact self_mem_memberPasses hn 15
  · simp

/-- A recomputation puts the room in place, whatever it was. -/
theorem roomed_recompute {s : State} (hn : s.station.number < 16) : Roomed (recompute s) := by
  obtain ⟨hmembers, hhead, hadopted⟩ := recompute_room s
  obtain ⟨hmem, hle⟩ := headOf_spec s (membershipOf s)
  have self := self_mem_membershipOf hn
  have hin : headOf s (membershipOf s) ∈ membershipOf s := by
    rcases List.mem_cons.mp hmem with h | h
    · rw [h]
      exact self
    · exact h
  have peer : ∀ m, peerAt (recompute s) m = peerAt s m := fun m => by simp [peerAt]
  have level : (recompute s).floor.level = (recomposed s).floor.level := by
    unfold recompute
    simp only [presentContextChange_fields]
    split <;> simp
  refine ⟨by simpa using hn, ⟨by simpa [hmembers] using self, ?_, by rwa [hhead, hmembers], ?_, ?_⟩, ?_⟩
  · intro m hm
    rw [hmembers] at hm
    simpa [peer] using mem_membershipOf hn hm
  · rw [hmembers, hhead]
    exact fun m hm => hle m (List.mem_cons_of_mem _ hm)
  · intro hstate
    have : s.station.state ≠ .running := by simpa using hstate
    simp [hmembers, membershipOf, this]
  · unfold ContextLaw
    rw [hhead, hadopted, level]
    by_cases hself : headOf s (membershipOf s) = s.station.number
    · simp [hself, adoptedUnder, homeContext, level, recomposed]
    · rcases mem_membershipOf hn hin with h | h
      · exact absurd h hself
      · cases he : peerAt s (headOf s (membershipOf s)) with
        | none => simp [he] at h
        | some e => simp [hself, peer, he, adoptedUnder, recomposed]

theorem roomed_evalDemand {s : State} (law : Roomed s) : Roomed (evalDemand s) := law.of_same (by simp)

theorem roomed_changeState {s : State} (hn : s.station.number < 16) (st : StationState) (timer : Option Nat) :
    Roomed (changeState st timer s) := roomed_evalDemand (roomed_recompute hn)

theorem roomed_enterJoining {s : State} (hn : s.station.number < 16) : Roomed (enterJoining s) :=
  roomed_changeState (s := { s with lif := { s.lif with epoch := (s.lif.epoch + 1) % 256 } }) hn _ _

theorem roomed_takeExpiry {s : State} (law : Roomed s) : Roomed (takeExpiry s) := by
  unfold takeExpiry
  split
  · exact roomed_changeState law.1 _ _
  · exact law

theorem roomed_acceptConfig {s : State} (hn : s.station.number < 16) (c : Configuration) : Roomed (acceptConfig c s) :=
  roomed_enterJoining hn

theorem roomed_enterIsolated {s : State} (hn : s.station.number < 16) : Roomed (enterIsolated s) := by
  have changed : Roomed (changeState .isolated none (isolateLink s)) :=
    roomed_changeState (s := isolateLink s) hn _ _
  exact changed.of_same (by simp [enterIsolated, forgetPeers])

theorem roomed_takeLinkFailure {s : State} (law : Roomed s) : Roomed (takeLinkFailure s) := by
  unfold takeLinkFailure
  split
  · exact roomed_enterIsolated (by simpa using law.1)
  · exact law

theorem roomed_takeLinkRecovery {s : State} (law : Roomed s) : Roomed (takeLinkRecovery s) := by
  unfold takeLinkRecovery
  split
  · exact roomed_enterJoining (by simpa using law.1)
  · exact law

theorem roomed_actOn {s : State} (law : Roomed s) (c : RoomCommand) : Roomed (actOn c s) := by
  unfold actOn
  split
  · exact law.of_same (by simp)
  · exact law.of_same (by simp)
  · exact law.of_same (by simp)
  · unfold actSetFloorLevel
    split
    · exact roomed_recompute law.1
    · exact law

theorem roomed_roomCommandWork {s : State} (law : Roomed s) : Roomed (roomCommandWork s) := by
  have made : ∀ c, Roomed (makeCurrent c s) := fun c => by
    have counted : Roomed { s with room :=
        { s.room with counter := (s.room.counter + 1) % 16, current := some ⟨(s.room.counter + 1) % 16, 1⟩ } } := law
    exact roomed_actOn counted c
  unfold roomCommandWork
  repeat' split
  · exact law
  · exact law
  · exact made _
  · exact law
  · exact law
  · exact made _
  · exact law
  · exact law

theorem roomed_ownSlotOp {s : State} (law : Roomed s) : Roomed (ownSlotOp s) := by
  unfold ownSlotOp
  split
  · exact law
  · exact (roomed_roomCommandWork law).of_same (by simp)

theorem roomed_commandTest {s : State} (law : Roomed s) (t : Nat) (a : Announcement) : Roomed (commandTest t a s) := by
  have acted : Roomed (match a.command with
      | some c => if testsCommand s t a then actOn c s else s
      | none => s) := by
    repeat' split
    · exact roomed_actOn law _
    · exact law
    · exact law
  exact acted

theorem roomed_peerArrival {s : State} (hn : s.station.number < 16) (t : Nat) (a : Announcement) :
    Roomed (peerArrival t a s) := by
  unfold peerArrival
  have formed : ∀ u : State, u.station.number = s.station.number →
      Roomed (evalDemand (applyTakeovers a (applyOverrides a (commandTest t a (mismatchTest t a (recompute u)))))) :=
    fun u hu => (roomed_commandTest ((roomed_recompute (hu ▸ hn)).of_same
      (t := mismatchTest t a (recompute u)) (by unfold mismatchTest; split <;> simp [setMark])) t a).of_same (by simp)
  exact formed _ (by split <;> simp)

theorem roomed_losePeer {s : State} (hn : s.station.number < 16) (t : Nat) : Roomed (losePeer t s) :=
  roomed_evalDemand (roomed_recompute hn)

theorem announced_set {peers : List (Option PeerEntry)} {t : Nat} {e : PeerEntry} (h : peers.getD t none = some e) (n : Nat) :
    announced (peers.set t (some { e with miss := n })) = announced peers := by
  refine List.ext_getElem? fun i => ?_
  simp only [announced, List.getElem?_map, List.getElem?_set]
  split
  · next hi =>
    subst hi
    rw [List.getD_eq_getElem?_getD] at h
    cases hp : peers[t]? with
    | none => simp [hp] at h
    | some x =>
      have hlt := (List.getElem?_eq_some_iff.mp hp).1
      simp [hlt, show x = some e by simpa [hp] using h]
  · rfl

theorem roomed_peerMissing {s : State} (law : Roomed s) (t : Nat) : Roomed (peerMissing t s) := by
  have marked : ∀ u : State, Roomed u → Roomed (setMark t false u) := fun u hu => hu
  refine marked _ ?_
  split
  · exact law
  · next e he =>
    split
    · exact roomed_losePeer law.1 t
    · exact law.of_same (by simp [setPeer, announced_set he])

theorem roomed_slotCloseOp {s : State} (law : Roomed s) (t : Nat) : Roomed (slotCloseOp t s) := by
  have taken : Roomed (takeSlot s) := law
  have arrived : ∀ a, Roomed (peerArrival t a (takeSlot s)) := fun a => roomed_peerArrival taken.1 t a
  have missed : Roomed (peerMissing t (takeSlot s)) := roomed_peerMissing taken t
  unfold slotCloseOp
  simp only []
  repeat' split
  · exact arrived _
  · exact missed
  · exact taken
  · exact taken
  · exact law
  · exact law

theorem roomed_peerLossOp {s : State} (law : Roomed s) (t : Nat) : Roomed (peerLossOp t s) := by
  unfold peerLossOp
  split
  · refine roomed_peerMissing ?_ t
    split
    · exact law
    · exact law
  · exact law

theorem roomed_handWallOn {s : State} (law : Roomed s) (before after : Wall) : Roomed (handWallOn before after s) := by
  unfold handWallOn
  split
  · exact law
  · exact roomed_evalDemand (roomed_recompute law.1)

theorem roomed_adoptWall {s : State} (law : Roomed s) (x : Nat) (c : WallState) : Roomed (adoptWall x c s) :=
  roomed_handWallOn (law.of_same (by simp)) _ _

theorem roomed_sampleWall {s : State} (law : Roomed s) (sample : Bool × Bool) (x : Nat) : Roomed (sampleWall sample x s) := by
  have evaluated : ∀ (u : State) d, Roomed u → Roomed (evaluateWall x d u) := fun u d hu => by
    simp only [evaluateWall]
    split
    · exact roomed_adoptWall (hu.of_same (by simp)) x _
    · exact hu
  simp only [sampleWall]
  repeat' split
  · exact law
  · exact law
  · exact evaluated _ _ law
  · exact law
  · exact law

theorem roomed_wallSampleOp {s : State} (law : Roomed s) (closed opened : BitVec 4) : Roomed (wallSampleOp closed opened s) :=
  foldl_preserves (P := Roomed) (fun _ _ hu => roomed_sampleWall hu _ _) _ law

theorem roomed_wallAdoptionOp {s : State} (law : Roomed s) (x : Nat) : Roomed (wallAdoptionOp x s) := by
  unfold wallAdoptionOp
  repeat' split
  · exact roomed_adoptWall law x _
  · exact law
  · exact law

theorem roomed_setWallOverrideOp {s : State} (law : Roomed s) (input setting : Byte) :
    Roomed (setWallOverrideOp input setting s) := by
  have overridden : ∀ o, Roomed (overrideWall input.toNat o s) := fun o =>
    roomed_handWallOn (law.of_same (by simp)) _ _
  unfold setWallOverrideOp
  repeat' split
  · exact overridden _
  · exact law
  · exact law

theorem roomed_memoryReadOp {s : State} (law : Roomed s) (record : List Byte) : Roomed (memoryReadOp record s) := by
  rcases memoryReadOp_cases record s with ⟨_, h⟩ | ⟨_, r, _, h⟩ | ⟨_, _, h⟩
  · rw [h]
    exact law
  · rw [h]
    exact law.of_same (by simp [rejectConfig])
  · rw [h]
    exact roomed_acceptConfig (s := { s with station := { s.station with memoryReading := false } }) law.1 _

theorem roomed_loadConfigOp {s : State} (law : Roomed s) (record : List Byte) : Roomed (loadConfigOp record s) := by
  rcases loadConfigOp_cases record s with ⟨_, h⟩ | ⟨_, _, r, _, h⟩ | ⟨_, _, _, h⟩
  · rw [h]
    exact law
  · rw [h]
    exact law
  · rw [h]
    exact (roomed_acceptConfig law.1 (recordConfig record)).of_same (by simp)

theorem roomed_resetStation (s : State) : Roomed (resetStation s) := by
  refine ⟨(by decide : 0 < 16), ?_, rfl⟩
  unfold RoomLaw
  simp [resetStation, State.reset, Room.initial, Station.initial]

theorem roomed_restartOp {s : State} (law : Roomed s) : Roomed (restartOp s) := by
  simp only [restartOp]
  split
  · exact law
  · have joined : Roomed (enterJoining (restartTables s)) := roomed_enterJoining law.1
    exact joined.of_same (by simp [restartStation])

@[simp] theorem enqueue_room (c : RoomCommand) (s : State) :
    (enqueue c s).room.members = s.room.members ∧ (enqueue c s).room.head = s.room.head ∧
    (enqueue c s).room.adopted = s.room.adopted ∧ (enqueue c s).floor.level = s.floor.level := by
  simp [enqueue]

@[simp] theorem chairRequest_room (c : RoomCommand) (s : State) :
    (chairRequest c s).room.members = s.room.members ∧ (chairRequest c s).room.head = s.room.head ∧
    (chairRequest c s).room.adopted = s.room.adopted ∧ (chairRequest c s).floor.level = s.floor.level := by
  simp only [chairRequest]
  repeat' split
  all_goals simp

@[simp] theorem dispatchKeys_room (a : Nat) (k : Keys) (s : State) :
    (dispatchKeys a k s).room.members = s.room.members ∧ (dispatchKeys a k s).room.head = s.room.head ∧
    (dispatchKeys a k s).room.adopted = s.room.adopted ∧ (dispatchKeys a k s).floor.level = s.floor.level := by
  simp only [dispatchKeys]
  repeat' split
  all_goals simp

@[simp] theorem goodReply_room (a : Nat) (c : ReplyClass) (r : UnitContent) (s : State) :
    (goodReply a c r s).room.members = s.room.members ∧ (goodReply a c r s).room.head = s.room.head ∧
    (goodReply a c r s).room.adopted = s.room.adopted ∧ (goodReply a c r s).floor.level = s.floor.level := by
  simp [goodReply]

@[simp] theorem loseUnit_room (a : Nat) (s : State) :
    (loseUnit a s).room.members = s.room.members ∧ (loseUnit a s).room.head = s.room.head ∧
    (loseUnit a s).room.adopted = s.room.adopted ∧ (loseUnit a s).floor.level = s.floor.level := by
  simp [loseUnit]

@[simp] theorem badReply_room (a : Nat) (s : State) :
    (badReply a s).room.members = s.room.members ∧ (badReply a s).room.head = s.room.head ∧
    (badReply a s).room.adopted = s.room.adopted ∧ (badReply a s).floor.level = s.floor.level := by
  simp only [badReply]
  repeat' split
  all_goals simp

@[simp] theorem closeWindow_room (a : Nat) (reply : Option UnitReply) (s : State) :
    (closeWindow a reply s).room.members = s.room.members ∧ (closeWindow a reply s).room.head = s.room.head ∧
    (closeWindow a reply s).room.adopted = s.room.adopted ∧ (closeWindow a reply s).floor.level = s.floor.level := by
  simp only [closeWindow]
  repeat' split
  all_goals simp

@[simp] theorem pollWindowCloseOp_room (reply : Option UnitReply) (s : State) :
    (pollWindowCloseOp reply s).room.members = s.room.members ∧ (pollWindowCloseOp reply s).room.head = s.room.head ∧
    (pollWindowCloseOp reply s).room.adopted = s.room.adopted ∧ (pollWindowCloseOp reply s).floor.level = s.floor.level := by
  simp only [pollWindowCloseOp]
  repeat' split
  all_goals simp

@[simp] theorem unitAbsentOp_room (a : Nat) (s : State) :
    (unitAbsentOp a s).room.members = s.room.members ∧ (unitAbsentOp a s).room.head = s.room.head ∧
    (unitAbsentOp a s).room.adopted = s.room.adopted ∧ (unitAbsentOp a s).floor.level = s.floor.level := by
  simp only [unitAbsentOp]
  repeat' split
  all_goals simp

@[simp] theorem resetPolling_room (reply : Option UnitReply) (s : State) :
    (resetPolling reply s).room.members = s.room.members ∧ (resetPolling reply s).room.head = s.room.head ∧
    (resetPolling reply s).room.adopted = s.room.adopted ∧ (resetPolling reply s).floor.level = s.floor.level := by
  simp only [resetPolling]
  repeat' split
  all_goals simp

@[simp] theorem cutShort_room (s : State) :
    (cutShort s).room.members = s.room.members ∧ (cutShort s).room.head = s.room.head ∧
    (cutShort s).room.adopted = s.room.adopted ∧ (cutShort s).floor.level = s.floor.level := by
  simp [cutShort]

@[simp] theorem acquire_room (s : State) :
    (acquire s).room.members = s.room.members ∧ (acquire s).room.head = s.room.head ∧
    (acquire s).room.adopted = s.room.adopted ∧ (acquire s).floor.level = s.floor.level := by
  simp [acquire]

@[simp] theorem hsyncOp_room (u : Option UnitReply) (d : Option DeskReply) (s : State) :
    (hsyncOp u d s).room.members = s.room.members ∧ (hsyncOp u d s).room.head = s.room.head ∧
    (hsyncOp u d s).room.adopted = s.room.adopted ∧ (hsyncOp u d s).floor.level = s.floor.level := by
  simp only [hsyncOp]
  repeat' split
  all_goals simp

@[simp] theorem fadeInOp_room (seat : Nat) (s : State) :
    (fadeInOp seat s).room.members = s.room.members ∧ (fadeInOp seat s).room.head = s.room.head ∧
    (fadeInOp seat s).room.adopted = s.room.adopted ∧ (fadeInOp seat s).floor.level = s.floor.level := by
  simp [fadeInOp]

@[simp] theorem fadeOutOp_room (seat : Nat) (s : State) :
    (fadeOutOp seat s).room.members = s.room.members ∧ (fadeOutOp seat s).room.head = s.room.head ∧
    (fadeOutOp seat s).room.adopted = s.room.adopted ∧ (fadeOutOp seat s).floor.level = s.floor.level := by
  simp only [fadeOutOp]
  repeat' split
  all_goals simp

@[simp] theorem speakingExpiryOp_room (seat : Nat) (s : State) :
    (speakingExpiryOp seat s).room.members = s.room.members ∧ (speakingExpiryOp seat s).room.head = s.room.head ∧
    (speakingExpiryOp seat s).room.adopted = s.room.adopted ∧ (speakingExpiryOp seat s).floor.level = s.floor.level := by
  simp [speakingExpiryOp]

@[simp] theorem closeSeatOp_room (seat : Byte) (s : State) :
    (closeSeatOp seat s).room.members = s.room.members ∧ (closeSeatOp seat s).room.head = s.room.head ∧
    (closeSeatOp seat s).room.adopted = s.room.adopted ∧ (closeSeatOp seat s).floor.level = s.floor.level := by
  simp only [closeSeatOp]
  repeat' split
  all_goals simp

@[simp] theorem cancelRequestOp_room (seat : Byte) (s : State) :
    (cancelRequestOp seat s).room.members = s.room.members ∧ (cancelRequestOp seat s).room.head = s.room.head ∧
    (cancelRequestOp seat s).room.adopted = s.room.adopted ∧ (cancelRequestOp seat s).floor.level = s.floor.level := by
  simp only [cancelRequestOp]
  repeat' split
  all_goals simp

@[simp] theorem issueRoomCommandOp_room (kind argument : Byte) (s : State) :
    (issueRoomCommandOp kind argument s).room.members = s.room.members ∧ (issueRoomCommandOp kind argument s).room.head = s.room.head ∧
    (issueRoomCommandOp kind argument s).room.adopted = s.room.adopted ∧ (issueRoomCommandOp kind argument s).floor.level = s.floor.level := by
  simp only [issueRoomCommandOp]
  repeat' split
  all_goals simp

theorem announced_advancePeers (s : State) : announced (advancePeers s).peers = announced s.peers := by
  simp only [advancePeers, announced, List.map_map]
  refine List.map_congr_left fun e _ => ?_
  cases e <;> rfl

theorem roomed_liveEffect (i : Instr) {s : State} (law : Roomed s) : Roomed (liveEffect i s) := by
  cases i with
  | pinReset => exact roomed_resetStation s
  | resetRelease n c => exact law
  | configMemoryRead record => exact roomed_memoryReadOp law record
  | frameBoundary f => exact (roomed_takeExpiry law).of_same (by simp [liveEffect, beginFrame, advanceTimer])
  | hlckTimeout => exact law
  | hsyncMark u d => exact law.of_same (by simp [liveEffect])
  | switchPoint =>
    have work : Roomed (switchPointWork s) := law.of_same (by simp [switchPointWork, announced_advancePeers])
    exact roomed_takeLinkRecovery (roomed_takeLinkFailure work)
  | linkFailure => exact roomed_takeLinkFailure law
  | linkRecovery => exact roomed_takeLinkRecovery law
  | fadeInComplete seat => exact law.of_same (by simp [liveEffect])
  | fadeOutEnd seat => exact law.of_same (by simp [liveEffect])
  | speakingTimeExpiry seat => exact law.of_same (by simp [liveEffect])
  | ownSlot => exact roomed_ownSlotOp law
  | slotClose t => exact roomed_slotCloseOp law t
  | peerLoss t => exact roomed_peerLossOp law t
  | wallSample closed opened => exact roomed_wallSampleOp law closed opened
  | wallAdoption x => exact roomed_wallAdoptionOp law x
  | pollWindowClose reply => exact law.of_same (by simp [liveEffect])
  | unitAbsent a => exact law.of_same (by simp [liveEffect])
  | boothWindowClose reply => exact law.of_same (by simp [liveEffect])
  | deskAbsent e => exact law.of_same (by simp [liveEffect])
  | joiningTimerExpiry => exact roomed_takeExpiry law
  | loadConfig record => exact roomed_loadConfigOp law record
  | restart => exact roomed_restartOp law
  | readRecord kind index => exact law.of_same (by simp [liveEffect])
  | readEvents => exact law
  | clearEvents mask => exact law
  | setEventMask mask => exact law
  | issueRoomCommand kind argument => exact law.of_same (by simp [liveEffect])
  | setWallOverride input setting => exact roomed_setWallOverrideOp law input setting
  | closeSeat seat => exact law.of_same (by simp [liveEffect])
  | cancelRequest seat => exact law.of_same (by simp [liveEffect])
  | emptyTransaction => exact law
  | badCommandFrame frame => exact law.of_same (by simp [liveEffect])

theorem roomed_releaseReset {s : State} (law : StationLaw s) (hreset : s.station.inReset = true) (n : BitVec 4)
    (source : ConfigSource) : Roomed (releaseReset n source s) := by
  obtain ⟨-, hr, haccepted, hunconfigured, -⟩ := law
  have unconfigured := (hr hreset).1
  have noConfig : s.station.config = none := by
    have := haccepted.symm.trans (hunconfigured.mpr unconfigured)
    simpa using this
  unfold Roomed RoomLaw ContextLaw
  have := n.isLt
  simp [releaseReset, hreset, Room.initial, unconfigured, homeContext, noConfig]
  omega

/-- Settles O54. -/
theorem stepKeepsTheRoom : Obligations.StepKeepsTheRoom := by
  intro s t hstation hroom hcontext h
  have law : Roomed s := ⟨hstation.1, hroom, hcontext⟩
  have kept : ∀ (i : Instr) (u t : State), StationLaw u → Roomed u → exec i u = .next t → Roomed t := by
    intro i u t hu law h
    cases hr : u.station.inReset with
    | false =>
      rw [exec_of_live i u hr] at h
      cases h
      exact roomed_liveEffect i law
    | true =>
      rw [exec_of_inReset i u hr] at h
      cases h
      split
      · exact roomed_resetStation u
      · exact roomed_releaseReset hu hr _ _
      · exact law.of_same (by simp [bypassFrame])
      · exact law
  have next : Roomed t := by
    unfold step at h
    split at h
    · cases h
      exact law
    · next i rest _ => exact kept i { s with pending := rest } t hstation law h
  exact next.2

end Sys2Proof.Machine
end

section
/-! PROOF. The queue of commands, and the blocks that each command leaves alone (O1, O2, O60). -/
namespace Sys2Proof.Machine

/-- Settles O1: `step` says it. -/
theorem stepTakesTheFrontCommand : Obligations.StepTakesTheFrontCommand := by
  refine ⟨fun c rest s h => ?_, fun s h => ?_⟩ <;> simp only [step, h]

/-- The next state after a command, whether the station is live or held in reset. -/
def effect (i : Instr) (s : State) : State :=
  match s.station.inReset, i with
  | false, i => liveEffect i s
  | true, .pinReset => resetStation s
  | true, .resetRelease n c => releaseReset n c s
  | true, .frameBoundary f => bypassFrame f s
  | true, _ => s

theorem exec_eq_effect (i : Instr) (s : State) : exec i s = .next (effect i s) := by
  cases hr : s.station.inReset with
  | false => simp only [exec_of_live i s hr, effect, hr]
  | true =>
    rw [exec_of_inReset i s hr]
    cases i <;> simp only [effect, hr]

@[simp] theorem resetStation_pending (s : State) : (resetStation s).pending = s.pending := rfl

theorem liveEffect_pending (i : Instr) (s : State) : (liveEffect i s).pending = s.pending := by
  cases i <;> simp [liveEffect]

/-- Settles O2. -/
theorem everyCommandCompletes : Obligations.EveryCommandCompletes := by
  intro i s
  refine ⟨effect i s, exec_eq_effect i s, ?_⟩
  unfold effect
  split
  · exact liveEffect_pending _ s
  · rfl
  · simp
  · simp [bypassFrame]
  · rfl

/-- A state is its blocks. -/
theorem State.eq_iff (s t : State) : s = t ↔
    s.station = t.station ∧ s.lif = t.lif ∧ s.peers = t.peers ∧ s.walls = t.walls ∧ s.room = t.room ∧
    s.claims = t.claims ∧ s.dlc = t.dlc ∧ s.floor = t.floor ∧ s.booth = t.booth ∧ s.lanes = t.lanes ∧
    s.seats = t.seats ∧ s.mix = t.mix ∧ s.port = t.port ∧ s.pending = t.pending := by
  cases s; cases t; simp

/-- A port that differs in its flags alone. -/
theorem Port.eq_flagged_iff (p q : Port) : p = { q with flags := p.flags } ↔
    p.mask = q.mask ∧ p.response = q.response ∧ p.shifted = q.shifted := by
  cases p; cases q; simp

/-! ### What the commands of the port leave of the port -/

theorem readRecordOp_mix (kind index : Byte) (s : State) :
    (readRecordOp kind index s).mix = { s.mix with clip := (readRecordOp kind index s).mix.clip } := by
  unfold readRecordOp
  split
  · unfold clearClip
    split <;> rfl
  · rfl

theorem readRecordOp_flags (kind index : Byte) (s : State) : (readRecordOp kind index s).port.flags = s.port.flags := by
  unfold readRecordOp
  split
  · unfold clearClip
    split <;> rfl
  · rfl

theorem issueRoomCommandOp_flags (kind argument : Byte) (s : State) :
    (issueRoomCommandOp kind argument s).port.flags = s.port.flags := by
  unfold issueRoomCommandOp
  repeat' split
  all_goals rfl

theorem setWallOverrideOp_mask (input setting : Byte) (s : State) :
    (setWallOverrideOp input setting s).port.mask = s.port.mask := by
  unfold setWallOverrideOp
  repeat' split
  all_goals simp [answer, respond]

theorem closeSeatOp_flags (seat : Byte) (s : State) : (closeSeatOp seat s).port.flags = s.port.flags := by
  unfold closeSeatOp
  repeat' split
  all_goals simp [answer, respond]

theorem cancelRequestOp_flags (seat : Byte) (s : State) : (cancelRequestOp seat s).port.flags = s.port.flags := by
  unfold cancelRequestOp
  repeat' split
  all_goals simp [answer, respond]

/-- Settles O60. -/
theorem commandsKeepOtherBlocks : Obligations.CommandsKeepOtherBlocks := by
  intro i s t h
  rw [exec_eq_effect] at h
  cases h
  cases hr : s.station.inReset with
  | true => cases i <;> simp [effect, hr, State.eq_iff, bypassFrame]
  | false => cases i <;> simp [effect, hr, liveEffect, State.eq_iff, Port.eq_flagged_iff, issueRoomCommandOp_flags,
      setWallOverrideOp_mask, closeSeatOp_flags, cancelRequestOp_flags, ← readRecordOp_mix, readRecordOp_flags]
end Sys2Proof.Machine
end

section
/-! PROOF. What only some commands change (O59). -/
namespace Sys2Proof.Machine

@[simp] theorem changeState_latched (st : StationState) (timer : Option Nat) (s : State) :
    (changeState st timer s).station.number = s.station.number ∧ (changeState st timer s).station.source = s.station.source := by
  simp [changeState]

@[simp] theorem enterJoining_latched (s : State) :
    (enterJoining s).station.number = s.station.number ∧ (enterJoining s).station.source = s.station.source := by
  simp [enterJoining]

@[simp] theorem enterRunning_latched (s : State) :
    (enterRunning s).station.number = s.station.number ∧ (enterRunning s).station.source = s.station.source := by
  simp [enterRunning]

@[simp] theorem takeExpiry_latched (s : State) :
    (takeExpiry s).station.number = s.station.number ∧ (takeExpiry s).station.source = s.station.source := by
  simp only [takeExpiry]
  repeat' split
  all_goals simp

@[simp] theorem acceptConfig_latched (c : Configuration) (s : State) :
    (acceptConfig c s).station.number = s.station.number ∧ (acceptConfig c s).station.source = s.station.source := by
  simp [acceptConfig]

@[simp] theorem rejectConfig_latched (r : RejectReason) (s : State) :
    (rejectConfig r s).station.number = s.station.number ∧ (rejectConfig r s).station.source = s.station.source := by
  simp [rejectConfig]

@[simp] theorem memoryReadOp_latched (record : List Byte) (s : State) :
    (memoryReadOp record s).station.number = s.station.number ∧ (memoryReadOp record s).station.source = s.station.source := by
  simp only [memoryReadOp]
  repeat' split
  all_goals simp

@[simp] theorem enterIsolated_latched (s : State) :
    (enterIsolated s).station.number = s.station.number ∧ (enterIsolated s).station.source = s.station.source := by
  simp [enterIsolated]

@[simp] theorem takeLinkFailure_latched (s : State) :
    (takeLinkFailure s).station.number = s.station.number ∧ (takeLinkFailure s).station.source = s.station.source := by
  simp only [takeLinkFailure]
  repeat' split
  all_goals simp

@[simp] theorem leaveIsolated_latched (s : State) :
    (leaveIsolated s).station.number = s.station.number ∧ (leaveIsolated s).station.source = s.station.source := by
  simp [leaveIsolated]

@[simp] theorem takeLinkRecovery_latched (s : State) :
    (takeLinkRecovery s).station.number = s.station.number ∧ (takeLinkRecovery s).station.source = s.station.source := by
  simp only [takeLinkRecovery]
  repeat' split
  all_goals simp

@[simp] theorem restartStation_latched (s : State) :
    (restartStation s).station.number = s.station.number ∧ (restartStation s).station.source = s.station.source := by
  simp [restartStation]

@[simp] theorem advanceTimer_latched (s : State) :
    (advanceTimer s).station.number = s.station.number ∧ (advanceTimer s).station.source = s.station.source := by
  simp [advanceTimer]

@[simp] theorem switchPointOp_latched (s : State) :
    (switchPointOp s).station.number = s.station.number ∧ (switchPointOp s).station.source = s.station.source := by
  simp [switchPointOp]

@[simp] theorem loadConfigOp_latched (record : List Byte) (s : State) :
    (loadConfigOp record s).station.number = s.station.number ∧ (loadConfigOp record s).station.source = s.station.source := by
  simp only [loadConfigOp]
  repeat' split
  all_goals simp

@[simp] theorem restartOp_latched (s : State) :
    (restartOp s).station.number = s.station.number ∧ (restartOp s).station.source = s.station.source := by
  simp only [restartOp]
  repeat' split
  all_goals simp

@[simp] theorem changeState_accepted (st : StationState) (timer : Option Nat) (s : State) :
    (changeState st timer s).station.accepted = s.station.accepted ∧ (changeState st timer s).station.config = s.station.config := by
  simp [changeState]

@[simp] theorem enterJoining_accepted (s : State) :
    (enterJoining s).station.accepted = s.station.accepted ∧ (enterJoining s).station.config = s.station.config := by
  simp [enterJoining]

@[simp] theorem enterRunning_accepted (s : State) :
    (enterRunning s).station.accepted = s.station.accepted ∧ (enterRunning s).station.config = s.station.config := by
  simp [enterRunning]

@[simp] theorem takeExpiry_accepted (s : State) :
    (takeExpiry s).station.accepted = s.station.accepted ∧ (takeExpiry s).station.config = s.station.config := by
  simp only [takeExpiry]
  repeat' split
  all_goals simp

@[simp] theorem enterIsolated_accepted (s : State) :
    (enterIsolated s).station.accepted = s.station.accepted ∧ (enterIsolated s).station.config = s.station.config := by
  simp [enterIsolated]

@[simp] theorem takeLinkFailure_accepted (s : State) :
    (takeLinkFailure s).station.accepted = s.station.accepted ∧ (takeLinkFailure s).station.config = s.station.config := by
  simp only [takeLinkFailure]
  repeat' split
  all_goals simp

@[simp] theorem leaveIsolated_accepted (s : State) :
    (leaveIsolated s).station.accepted = s.station.accepted ∧ (leaveIsolated s).station.config = s.station.config := by
  simp [leaveIsolated]

@[simp] theorem takeLinkRecovery_accepted (s : State) :
    (takeLinkRecovery s).station.accepted = s.station.accepted ∧ (takeLinkRecovery s).station.config = s.station.config := by
  simp only [takeLinkRecovery]
  repeat' split
  all_goals simp

@[simp] theorem restartStation_accepted (s : State) :
    (restartStation s).station.accepted = s.station.accepted ∧ (restartStation s).station.config = s.station.config := by
  simp [restartStation]

@[simp] theorem advanceTimer_accepted (s : State) :
    (advanceTimer s).station.accepted = s.station.accepted ∧ (advanceTimer s).station.config = s.station.config := by
  simp [advanceTimer]

@[simp] theorem switchPointOp_accepted (s : State) :
    (switchPointOp s).station.accepted = s.station.accepted ∧ (switchPointOp s).station.config = s.station.config := by
  simp [switchPointOp]

@[simp] theorem restartOp_accepted (s : State) :
    (restartOp s).station.accepted = s.station.accepted ∧ (restartOp s).station.config = s.station.config := by
  simp only [restartOp]
  repeat' split
  all_goals simp

@[simp] theorem loadConfigOp_mask (record : List Byte) (s : State) :
    (loadConfigOp record s).port.mask = s.port.mask := by
  simp only [loadConfigOp]
  repeat' split
  all_goals simp

@[simp] theorem readRecordOp_mask (kind index : Byte) (s : State) :
    (readRecordOp kind index s).port.mask = s.port.mask := by
  simp only [readRecordOp, clearClip]
  repeat' split
  all_goals rfl

@[simp] theorem readEventsOp_mask (s : State) :
    (readEventsOp s).port.mask = s.port.mask := by
  simp [readEventsOp]

@[simp] theorem clearEventsOp_mask (mask : BitVec 16) (s : State) :
    (clearEventsOp mask s).port.mask = s.port.mask := rfl

@[simp] theorem issueRoomCommandOp_mask (kind argument : Byte) (s : State) :
    (issueRoomCommandOp kind argument s).port.mask = s.port.mask := by
  simp only [issueRoomCommandOp]
  repeat' split
  all_goals simp

@[simp] theorem closeSeatOp_mask (seat : Byte) (s : State) :
    (closeSeatOp seat s).port.mask = s.port.mask := by
  simp only [closeSeatOp]
  repeat' split
  all_goals simp

@[simp] theorem cancelRequestOp_mask (seat : Byte) (s : State) :
    (cancelRequestOp seat s).port.mask = s.port.mask := by
  simp only [cancelRequestOp]
  repeat' split
  all_goals simp

@[simp] theorem emptyTransactionOp_mask (s : State) :
    (emptyTransactionOp s).port.mask = s.port.mask := by
  simp [emptyTransactionOp]

@[simp] theorem badFrameOp_mask (frame : List Byte) (s : State) :
    (badFrameOp frame s).port.mask = s.port.mask := by
  simp only [badFrameOp]
  repeat' split
  all_goals simp


theorem map_setting_set {walls : List Wall} {x : Nat} {w : Wall} (h : w.setting = (walls.getD x Wall.initial).setting) :
    (walls.set x w).map (·.setting) = walls.map (·.setting) := by
  refine List.ext_getElem? fun i => ?_
  simp only [List.getElem?_map, List.getElem?_set]
  split
  · next hi =>
    subst hi
    by_cases hlt : x < walls.length
    · simp [hlt, h]
    · simp [hlt]
  · rfl

theorem map_setting_zipIdx (f : Wall × Nat → Wall) (h : ∀ p, (f p).setting = p.1.setting) (walls : List Wall) :
    (walls.zipIdx.map f).map (·.setting) = walls.map (·.setting) := by
  have same : (fun w => Wall.setting w) ∘ f = (fun w => w.setting) ∘ Prod.fst := funext h
  rw [List.map_map, same, ← List.map_map, List.zipIdx_map_fst]

theorem settings_setWall {x : Nat} {w : Wall} {s : State} (h : w.setting = (wallOf s x).setting) :
    (setWall x w s).walls.map (·.setting) = s.walls.map (·.setting) := map_setting_set h

@[simp] theorem debounceStep_setting (w : Wall) : (debounceStep w).setting = w.setting := by
  unfold debounceStep
  repeat' split
  all_goals rfl

@[simp] theorem settings_adoptWall (x : Nat) (c : WallState) (s : State) :
    (adoptWall x c s).walls.map (·.setting) = s.walls.map (·.setting) := by
  simp only [adoptWall, handWallOn_keeps, raiseIf_keeps]
  exact settings_setWall rfl

theorem settings_evaluateWall {x : Nat} (d : WallState × Bool) {s : State} :
    (evaluateWall x d s).walls.map (·.setting) = s.walls.map (·.setting) := by
  simp only [evaluateWall]
  split
  · rw [settings_adoptWall]
    exact settings_setWall (by simp)
  · exact settings_setWall (by simp)

@[simp] theorem settings_sampleWall (sample : Bool × Bool) (x : Nat) (s : State) :
    (sampleWall sample x s).walls.map (·.setting) = s.walls.map (·.setting) := by
  simp only [sampleWall]
  repeat' split
  · exact settings_setWall rfl
  · exact settings_setWall rfl
  · rw [settings_evaluateWall]
    exact settings_setWall rfl
  · rfl
  · rfl

@[simp] theorem settings_wallSampleOp (closed opened : BitVec 4) (s : State) :
    (wallSampleOp closed opened s).walls.map (·.setting) = s.walls.map (·.setting) :=
  foldl_keeps (fun u : State => u.walls.map (·.setting)) (fun _ _ => settings_sampleWall _ _ _) _ s

@[simp] theorem settings_wallAdoptionOp (x : Nat) (s : State) :
    (wallAdoptionOp x s).walls.map (·.setting) = s.walls.map (·.setting) := by
  unfold wallAdoptionOp
  repeat' split
  all_goals simp

theorem settings_nameWalls (c : Configuration) (s : State) :
    (nameWalls c s).walls.map (·.setting) = s.walls.map (·.setting) := by
  unfold nameWalls
  refine map_setting_zipIdx _ (fun (w, x) => ?_) s.walls
  dsimp only
  split <;> rfl

@[simp] theorem settings_acceptConfig (c : Configuration) (s : State) :
    (acceptConfig c s).walls.map (·.setting) = s.walls.map (·.setting) := by
  simp [acceptConfig, settings_nameWalls]

@[simp] theorem settings_memoryReadOp (record : List Byte) (s : State) :
    (memoryReadOp record s).walls.map (·.setting) = s.walls.map (·.setting) := by
  simp only [memoryReadOp]
  repeat' split
  all_goals simp

@[simp] theorem settings_loadConfigOp (record : List Byte) (s : State) :
    (loadConfigOp record s).walls.map (·.setting) = s.walls.map (·.setting) := by
  unfold loadConfigOp
  repeat' split
  all_goals simp

@[simp] theorem settings_hsyncOp (u : Option UnitReply) (d : Option DeskReply) (s : State) :
    (hsyncOp u d s).walls.map (·.setting) = s.walls.map (·.setting) := by
  simp only [hsyncOp]
  repeat' split
  all_goals simp [acquire, cutShort]

/-! ### The clip counter -/

theorem clip_computeFrame (s : State) : min s.mix.clip 65535 ≤ (computeFrame s).mix.clip := by
  have clip : (computeFrame s).mix.clip = if floorClamped s then satInc 65535 s.mix.clip else s.mix.clip := by
    simp [computeFrame]
  rw [clip, satInc]
  split <;> omega

/-- The clip counter never falls in a frame. -/
theorem clip_endFrame (f : FrameIn) (s : State) : min s.mix.clip 65535 ≤ (endFrame f s).mix.clip := by
  have delivered : ∀ u : State, (deliver f (receiveControl f (takeAnnounced u))).mix.clip = u.mix.clip := fun u => by
    have announced : (takeAnnounced u).mix.clip = u.mix.clip := by
      unfold takeAnnounced
      split <;> rfl
    simpa using announced
  simp only [endFrame, delivered]
  split
  · simpa using clip_computeFrame (putOut f s)
  · exact Nat.min_le_left _ _

@[simp] theorem latchPlan_clip (s : State) : (latchPlan s).mix.clip = s.mix.clip := rfl

@[simp] theorem enterIsolated_clip (s : State) : (enterIsolated s).mix.clip = s.mix.clip := by
  simp [enterIsolated, isolatePlan]

@[simp] theorem takeLinkFailure_clip (s : State) : (takeLinkFailure s).mix.clip = s.mix.clip := by
  unfold takeLinkFailure
  split <;> simp

@[simp] theorem switchPointOp_clip (s : State) : (switchPointOp s).mix.clip = s.mix.clip := by
  simp [switchPointOp, switchPointWork]

/-! ### Command by command -/

section
variable {i : Instr} {s : State}

theorem liveEffect_latched (hpin : i ≠ .pinReset) :
    (liveEffect i s).station.number = s.station.number ∧ (liveEffect i s).station.source = s.station.source := by
  cases i <;> simp [liveEffect] at *

theorem liveEffect_accepted (law : StationLaw s) (haccepted : s.station.accepted = true) (hpin : i ≠ .pinReset) :
    (liveEffect i s).station.accepted = true ∧ (liveEffect i s).station.config = s.station.config := by
  have idle : s.station.memoryReading = false := by
    obtain ⟨-, -, -, -, hreading, -⟩ := law
    by_contra h
    simp [hreading (by simpa using h)] at haccepted
  cases i with
  | configMemoryRead record => simp [liveEffect, memoryReadOp, idle, haccepted]
  | loadConfig record =>
    simp only [liveEffect, loadConfigOp, haccepted, if_true]
    split <;> exact ⟨haccepted, rfl⟩
  | _ => simp [liveEffect, haccepted] at *

theorem liveEffect_mask (hpin : i ≠ .pinReset) (hmask : ∀ m, i ≠ .setEventMask m) :
    (liveEffect i s).port.mask = s.port.mask := by
  cases i <;> simp [liveEffect, setWallOverrideOp_mask] at *

theorem liveEffect_settings (hpin : i ≠ .pinReset) (hover : ∀ x o, i ≠ .setWallOverride x o) :
    (liveEffect i s).walls.map (·.setting) = s.walls.map (·.setting) := by
  cases i <;> simp [liveEffect] at *

theorem liveEffect_clip (hpin : i ≠ .pinReset) (hrestart : i ≠ .restart) (hread : ∀ k x, i ≠ .readRecord k x) :
    min s.mix.clip 65535 ≤ (liveEffect i s).mix.clip := by
  cases i with
  | frameBoundary f => simpa [liveEffect] using clip_endFrame f (takeExpiry s)
  | _ => simp [liveEffect] at *
end

/-- Settles O59. -/
theorem onlyTheseCommandsChange : Obligations.OnlyTheseCommandsChange := by
  refine ⟨fun i s t h hpin => ?_, fun i s t h hpin hrestart => ?_⟩
  all_goals
    rw [exec_eq_effect] at h
    cases h
    cases hr : s.station.inReset
  case refine_1.refl.false =>
    have live : effect i s = liveEffect i s := by simp [effect, hr]
    rw [live]
    exact ⟨fun _ => liveEffect_latched hpin, fun law haccepted => liveEffect_accepted law haccepted hpin,
      liveEffect_mask hpin, liveEffect_settings hpin⟩
  case refine_1.refl.true =>
    refine ⟨fun hlatch => ?_, fun law haccepted => ?_, fun _ => ?_, fun _ => ?_⟩
    · cases i with
      | resetRelease n c => exact absurd (hlatch.resolve_left fun h => h n c rfl) (by simp [hr])
      | _ => simp [effect, hr, bypassFrame] at *
    · obtain ⟨-, hreset, -, hunconfigured, -⟩ := law
      simp [hunconfigured.mpr (hreset hr).1] at haccepted
    · cases i <;> simp [effect, hr, bypassFrame] at *
    · cases i <;> simp [effect, hr, bypassFrame] at *
  case refine_2.refl.false =>
    have live : effect i s = liveEffect i s := by simp [effect, hr]
    rw [live]
    exact ⟨fun hclear => (keeps_liveEffect i s hpin hrestart hclear).flags, liveEffect_clip hpin hrestart⟩
  case refine_2.refl.true =>
    refine ⟨fun _ => ?_, fun _ => ?_⟩
    · cases i <;> simp [effect, hr, bypassFrame] at *
    · cases i <;> simp [effect, hr, bypassFrame, releaseReset] at *
end Sys2Proof.Machine
end

section
/-! PROOF. The commands of the management port: reads, flags, frames that are no command, and the operator's commands
(O48, O50). -/
namespace Sys2Proof.Machine

/-! ### ReadRecord -/

/-- Kinds and indices of Table 12-2. -/
def KnownRecord (kind index : Nat) : Prop :=
  kind ∈ [0, 2, 3, 5, 6, 8, 9, 10, 12] ∧ index = 0 ∨ kind = 1 ∧ index ≤ 15 ∨
    kind ∈ [4, 7] ∧ index ≤ 3 ∨ kind = 11 ∧ 1 ≤ index ∧ index ≤ 60

theorem unindexed_isSome (index : Nat) (r : Record) : (unindexed index r).isSome = true ↔ index = 0 := by
  unfold unindexed
  split <;> simp [*]

theorem recordOf_isSome_iff (s : State) (kind index : Nat) :
    (recordOf s kind index).isSome = true ↔ KnownRecord kind index := by
  unfold recordOf KnownRecord
  split
  case h_14 => simp_all
  all_goals simp [unindexed_isSome]

theorem readRecordOp_of_unknown {s : State} {kind index : Byte} (h : ¬ KnownRecord kind.toNat index.toNat) :
    readRecordOp kind index s = answer 0x03 .badArgument s := by
  have : recordOf s kind.toNat index.toNat = none := by
    rw [← Option.not_isSome_iff_eq_none, recordOf_isSome_iff]
    exact h
  simp only [readRecordOp, this]

theorem readRecordOp_of_known {s : State} {kind index : Byte} {r : Record}
    (h : recordOf s kind.toNat index.toNat = some r) : readRecordOp kind index s = { s with
      mix := { s.mix with clip := if kind.toNat = 12 then 0 else s.mix.clip }
      port := { s.port with shifted := s.port.response, response := some ⟨0x03, .ok, .record r⟩ } } := by
  simp only [readRecordOp, h, clearClip]
  split <;> rfl

theorem channelView_floor (d : Option Downlink) : channelView 0 d = .floor := rfl

/-- The record of the downlink channels: channel 0 carries the floor, the others what the channel table says. -/
theorem downlinks_view (s : State) : ∃ rest, recordOf s 9 0 = some (.downlinks rest) ∧
    rest.length = s.seats.channels.length ∧ (0 < rest.length → rest[0]? = some .floor) ∧
    ∀ c, 1 ≤ c → c < rest.length → rest[c]? = some (match channelOf s c with
      | none => .free
      | some d => .allocated d.language d.count) := by
  refine ⟨s.seats.channels.zipIdx.map (fun (d, c) => channelView c d), rfl, by simp, fun h => ?_, fun c hc h => ?_⟩
  · simp only [List.length_map, List.length_zipIdx] at h
    simp [h, channelView]
  · simp only [List.length_map, List.length_zipIdx] at h
    have c0 : c ≠ 0 := by omega
    simp only [List.getElem?_map, List.getElem?_zipIdx, channelOf, List.getD_eq_getElem?_getD, List.getElem?_eq_getElem h,
      Option.map_some, Option.getD_some, Nat.zero_add, channelView, c0, if_false]
    cases s.seats.channels[c] <;> rfl

theorem peerRecord_view (s : State) {index : Nat} (h : index ≤ 15) : recordOf s 1 index = some (match peerAt s index with
    | none => .peerEntry .absent 0 none none (s.room.marks.getD index false)
    | some e => .peerEntry (if e.content.running then .running else .joining) e.miss (some e.content.epoch)
        (some ⟨e.content.head, e.content.mics.length, e.content.requests.length, e.content.desks.length,
          e.content.lanes.length⟩) (s.room.marks.getD index false)) := by
  simp only [recordOf, h, if_true]
  cases peerAt s index <;> rfl

theorem getLsbD_clearFlags (mask : BitVec 16) (s : State) {n : Nat} (h : n < 16) :
    (clearFlags mask s).port.flags.getLsbD n = true ↔ s.port.flags.getLsbD n = true ∧ mask.getLsbD n = false := by
  simp [h]

/-- Settles O48. -/
theorem portReadsAndOtherFrames : Obligations.PortReadsAndOtherFrames := by
  refine ⟨fun s kind index hs => ?_, fun s mask hs => ⟨?_, ?_⟩, fun s hs => ⟨?_, fun code rest => ?_⟩⟩
  · refine ⟨fun h => ?_, fun h => ?_, rfl, rfl, peerRecord_view s, downlinks_view s, rfl, fun h => ?_⟩
    · rw [exec_of_live _ s hs]
      exact congrArg _ (readRecordOp_of_unknown h)
    · obtain ⟨r, hr⟩ := Option.isSome_iff_exists.mp ((recordOf_isSome_iff s _ _).mpr h)
      refine ⟨r, hr, ?_⟩
      rw [exec_of_live _ s hs]
      exact congrArg _ (readRecordOp_of_known hr)
    · simp [recordOf, h]
  · rw [exec_of_live _ s hs]
    rfl
  · refine ⟨clearEventsOp mask s, exec_of_live _ s hs, rfl, fun n hn => getLsbD_clearFlags mask s hn⟩
  · exact exec_of_live _ s hs
  · exact exec_of_live _ s hs

/-! ### The operator's commands -/

theorem requestOf_eq_none_iff (s : State) (seat : Nat) :
    requestOf s seat = none ↔ ∀ r ∈ s.floor.requests, r.seat ≠ seat := by
  simp [requestOf]

/-- Removing a request removes that of the seat alone. -/
theorem removeRequest_floor (seat : Nat) (s : State) : (removeRequest seat s).floor =
    { s.floor with requests := s.floor.requests.filter (fun r => r.seat ≠ seat) } := by
  unfold removeRequest
  split
  · simp [dropRequest, bne, beq_eq_decide]
  · next h =>
    have none := (requestOf_eq_none_iff s seat).mp (by simpa using h)
    have all : s.floor.requests.filter (fun r => decide (r.seat ≠ seat)) = s.floor.requests :=
      List.filter_eq_self.mpr fun r hr => by simpa using none r hr
    rw [all]

/-- CancelRequest removes the request of the seat and withdraws its pending claim. -/
theorem cancelSeat_spec (seat : Nat) (s : State) : (cancelSeat seat s).floor =
      { s.floor with requests := s.floor.requests.filter (fun r => r.seat ≠ seat) } ∧
    pendingPlace (cancelSeat seat s) seat = false := by
  simp only [cancelSeat]
  split
  · exact ⟨by simpa using removeRequest_floor seat s, pendingPlace_withdrawSeat seat _⟩
  · next h => exact ⟨removeRequest_floor seat s, by simpa using h⟩

/-- CloseSeat closes the mic of the seat and withdraws its pending claim. -/
theorem closeSeatCommand_spec (seat : Nat) (s : State) : (closeSeatCommand seat s).floor =
      { s.floor with mics := s.floor.mics.map (fun m => if m.seat = seat then { m with phase := .closing } else m) } ∧
    pendingPlace (closeSeatCommand seat s) seat = false := by
  have floor : (closeSeatMic seat s).floor =
      { s.floor with mics := s.floor.mics.map (fun m => if m.seat = seat then { m with phase := .closing } else m) } := by
    simp [closeSeatMic, closeMics, closed_eq]
  simp only [closeSeatCommand]
  split
  · exact ⟨by simpa using floor, pendingPlace_withdrawSeat seat _⟩
  · next h => exact ⟨floor, by simpa using h⟩

section
variable {s : State} {kind argument seat : Byte}

theorem kindOfCode_eq_none_iff (n : Nat) : kindOfCode n = none ↔ n = 0 ∨ 4 < n := by
  unfold kindOfCode
  split
  case h_5 h1 h2 h3 h4 =>
    have : n ≠ 1 ∧ n ≠ 2 ∧ n ≠ 3 ∧ n ≠ 4 := ⟨h1, h2, h3, h4⟩
    simp only [true_iff]
    omega
  all_goals simp

theorem badSeat_iff : badSeat s seat = true ↔ seat.toNat = 0 ∨ seatCount s < seat.toNat := by
  simp [badSeat, BitVec.toNat_eq]

theorem issueRoomCommandOp_of_unconfigured (h : s.station.state = .unconfigured) :
    issueRoomCommandOp kind argument s = answer 0x07 .notConfigured s := by
  simp [issueRoomCommandOp, h]

theorem issueRoomCommandOp_of_bad (h : s.station.state ≠ .unconfigured)
    (hbad : kind.toNat = 0 ∨ 4 < kind.toNat ∨ kind.toNat = 4 ∧ 3 < argument.toNat) :
    issueRoomCommandOp kind argument s = answer 0x07 .badArgument s := by
  unfold issueRoomCommandOp
  rw [if_neg h]
  by_cases hkind : kind.toNat = 0 ∨ 4 < kind.toNat
  · rw [(kindOfCode_eq_none_iff _).mpr hkind]
  · obtain ⟨h4, h3⟩ : kind.toNat = 4 ∧ 3 < argument.toNat := by omega
    simp [h4, h3, kindOfCode]

/-- The command that code and argument name, with the argument that R100 stores. -/
def storedCommand (kind argument : Nat) : RoomCommand :=
  if kind = 1 then ⟨.priorityMute, 0⟩
  else if kind = 2 then ⟨.grantNext, if 1 ≤ argument ∧ argument ≤ 6 then argument else 6⟩
  else if kind = 3 then ⟨.cancelAll, 0⟩
  else ⟨.setFloorLevel, argument⟩

theorem kindOfCode_storedCommand {kind argument : Nat} (h1 : 1 ≤ kind) (h4 : kind ≤ 4) :
    ∃ k, kindOfCode kind = some k ∧ (k = .setFloorLevel ↔ kind = 4) ∧
      ⟨k, storedArgument k argument⟩ = storedCommand kind argument := by
  obtain rfl | rfl | rfl | rfl : kind = 1 ∨ kind = 2 ∨ kind = 3 ∨ kind = 4 := by omega
  · exact ⟨.priorityMute, rfl, by decide, rfl⟩
  · exact ⟨.grantNext, rfl, by decide, by simp [storedCommand, storedArgument]⟩
  · exact ⟨.cancelAll, rfl, by decide, rfl⟩
  · exact ⟨.setFloorLevel, rfl, by decide, rfl⟩

theorem issueRoomCommandOp_of_good (h : s.station.state ≠ .unconfigured) (h1 : 1 ≤ kind.toNat) (h4 : kind.toNat ≤ 4)
    (harg : kind.toNat = 4 → argument.toNat ≤ 3) : issueRoomCommandOp kind argument s =
      if 4 ≤ s.room.queue.length then answer 0x07 .busy s
      else answer 0x07 .ok (enqueue (storedCommand kind.toNat argument.toNat) s) := by
  obtain ⟨k, hk, hlevel, hstored⟩ := kindOfCode_storedCommand (argument := argument.toNat) h1 h4
  have inRange : ¬ (k = .setFloorLevel ∧ 3 < argument.toNat) := fun ⟨hk4, h3⟩ => by
    have := harg (hlevel.mp hk4)
    omega
  unfold issueRoomCommandOp
  rw [if_neg h, hk, ← hstored]
  simp [inRange, Config.queueEntries]
end

/-- Settles O50. -/
theorem operatorCommandsAct : Obligations.OperatorCommandsAct := by
  refine ⟨fun s kind argument hs => ⟨fun h => ?_, fun h => ⟨fun hbad => ?_, fun h1 h4 harg => ⟨fun hfull => ?_, fun hroom => ?_⟩⟩⟩,
    fun s seat hs => ⟨fun h => ?_, fun h hbad => ?_, fun h h1 hcount => ?_⟩⟩
  · rw [exec_of_live _ s hs]
    exact congrArg _ (issueRoomCommandOp_of_unconfigured h)
  · rw [exec_of_live _ s hs]
    exact congrArg _ (issueRoomCommandOp_of_bad h hbad)
  · rw [exec_of_live _ s hs]
    exact congrArg _ ((issueRoomCommandOp_of_good h h1 h4 harg).trans (if_pos hfull))
  · rw [exec_of_live _ s hs]
    exact congrArg _ ((issueRoomCommandOp_of_good h h1 h4 harg).trans (if_neg (by omega)))
  · simp only [exec_of_live _ s hs, liveEffect, closeSeatOp, cancelRequestOp, h, if_true]
    exact ⟨rfl, rfl⟩
  · simp only [exec_of_live _ s hs, liveEffect, closeSeatOp, cancelRequestOp, h, if_false, badSeat_iff.mpr hbad, if_true]
    exact ⟨rfl, rfl⟩
  · have good : badSeat s seat = false := by
      rw [← Bool.not_eq_true, badSeat_iff]
      omega
    obtain ⟨closedFloor, closedPending⟩ := closeSeatCommand_spec seat.toNat s
    obtain ⟨cancelFloor, cancelPending⟩ := cancelSeat_spec seat.toNat s
    simp only [exec_of_live _ s hs, liveEffect, closeSeatOp, cancelRequestOp, h, if_false, good]
    refine ⟨⟨_, rfl, rfl, congrArg _ closedFloor, congrArg (·.requests) closedFloor, closedPending, ?_⟩,
      ⟨_, rfl, rfl, cancelFloor, cancelPending, ?_⟩⟩
    · simp
    · simp
end Sys2Proof.Machine
end

section
/-! PROOF. Power-on, pin reset and reset release (O3, O4). -/
namespace Sys2Proof.Machine

theorem sizeLaw_reset : SizeLaw State.reset := ⟨rfl, rfl, rfl, rfl, rfl, rfl, rfl⟩

theorem roomed_reset : Roomed State.reset := by
  refine ⟨(by decide : 0 < 16), ?_, rfl⟩
  unfold RoomLaw
  simp [State.reset, Room.initial, Station.initial]

theorem seated_reset : Seated State.reset :=
  ⟨⟨Nat.le_refl 1, (by decide : 1 ≤ 60), by simp [State.reset, Dlc.initial], by simp [State.reset, Dlc.initial],
    by simp [seatCount, State.reset, Station.initial]⟩, seatLaw_initial rfl rfl⟩

theorem tableLaws_reset : TableLaws State.reset := by
  refine tableLaws_empty rfl rfl rfl rfl rfl rfl rfl fun d hd => ?_
  rw [List.eq_of_mem_replicate hd]
  exact ⟨rfl, rfl⟩

/-- Settles O3. -/
theorem powerOnValues : Obligations.PowerOnValues := by
  obtain ⟨hstation, hconfig⟩ := soundStation_reset
  obtain ⟨-, hroom, hcontext⟩ := roomed_reset
  obtain ⟨hpoll, hseat⟩ := seated_reset
  have tables := tableLaws_reset
  refine ⟨?_, hstation, linkLaw_reset, hroom, hcontext, sizeLaw_reset, tables.mic, tables.uplink, tables.lane, tables.relay,
    tables.desk, hpoll, hseat, hconfig⟩
  and_intros <;> rfl

/-! ### Pin reset, the frame in progress, and the straps -/

/-- The sample of lane n in the frame that ends: a fixed one, the own partial, a language, or what is received. -/
theorem lanesOut_getElem? (s : State) (received : List Sample) (hl : received.length = 64) {n : Nat} (hn : n < 64) :
    (lanesOut s received)[n]? = (match s.lif.latch.fixed.find? (fun x => x.lane == n) with
      | some x => some x.sample
      | none =>
        if s.lif.latch.ownLane = true ∧ n = s.station.number then some (BitVec.ofInt 24 (ownPartialNow s))
        else match s.lif.latch.lanes.find? (fun u => u.lane == n) with
          | some u => some (BitVec.ofInt 24 (languageSample s u.language))
          | none => received[n]?) := by
  have received_n : received[n]? = some received[n] := List.getElem?_eq_getElem (by omega)
  simp only [lanesOut, List.getElem?_map, List.getElem?_range hn, Option.map_some, laneOut, substituted, toSample,
    List.getD_eq_getElem?_getD, received_n, Option.getD_some]
  cases s.lif.latch.fixed.find? (fun x => x.lane == n) with
  | some x => rfl
  | none =>
    dsimp only
    by_cases hown : s.lif.latch.ownLane = true ∧ n = s.station.number
    · simp [hown]
    · have hown' : (s.lif.latch.ownLane && n == s.station.number) = false := by simpa using hown
      rw [if_neg hown, hown', if_neg (by simp)]
      cases s.lif.latch.lanes.find? (fun u => u.lane == n) <;> rfl

/-- The frame in progress goes out after a pin reset as it would have without one. -/
theorem lanesOut_resetStation (s : State) (received : List Sample) :
    lanesOut (resetStation s) received = lanesOut s received := by
  refine List.map_congr_left fun n hn => ?_
  rw [laneOut, laneOut, substituted_resetStation s n (List.mem_range.mp hn)]

theorem lanesOut_bypass {s : State} (h : s.lif.latch = FrameLatch.bypass) {received : List Sample}
    (hl : received.length = 64) : lanesOut s received = received := by
  refine List.ext_getElem? fun n => ?_
  by_cases hn : n < 64
  · rw [lanesOut_getElem? s received hl hn, h]
    simp [FrameLatch.bypass]
  · rw [List.getElem?_eq_none (by simp [lanesOut]; omega), List.getElem?_eq_none (by omega)]

/-- Settles O4. -/
theorem resetAndRelease : Obligations.ResetAndRelease := by
  refine ⟨fun s => ?_, fun s hs => ⟨fun i hpin hrelease hframe => ?_, fun f => ?_⟩, fun s number source hs => ?_⟩
  · refine ⟨resetStation s, rfl, rfl, ⟨rfl, rfl, rfl, rfl⟩, fun f hf => ?_⟩
    refine ⟨bypassFrame f (resetStation s), exec_of_inReset _ _ rfl, rfl, rfl, fun n hn => ?_⟩
    refine Eq.trans ?_ (lanesOut_getElem? s f.lanes hf hn)
    exact congrArg (·[n]?) (lanesOut_resetStation s f.lanes)
  · rw [exec_of_inReset i s hs]
    cases i with
    | pinReset => exact absurd rfl hpin
    | resetRelease n c => exact absurd rfl (hrelease n c)
    | frameBoundary f => exact absurd rfl (hframe f)
    | _ => rfl
  · refine ⟨bypassFrame f s, exec_of_inReset _ s hs, rfl, rfl, fun hlatch hf => ⟨lanesOut_bypass hlatch hf, ?_⟩⟩
    simp [bypassFrame, putOut, controlOut, hlatch]
  · rw [exec_of_inReset _ s hs]
    simp [releaseReset, hs, Room.initial, Plan.initial]
end Sys2Proof.Machine
end

section
/-! PROOF. Command frames of the management port (O51). -/
namespace Sys2Proof.Machine

@[simp] theorem word16_bytes16 (w : BitVec 16) : word16 (w.extractLsb' 8 8) (w.extractLsb' 0 8) = w := by
  unfold word16
  ext i hi
  simp only [BitVec.getElem_append, BitVec.getElem_extractLsb']
  by_cases h : i < 8
  · simp [h, BitVec.getLsbD_eq_getElem hi]
  · simp [h, show 8 + (i - 8) = i by omega, BitVec.getLsbD_eq_getElem hi]

@[simp] theorem bytes16_word16 (hi lo : Byte) : bytes16 (word16 hi lo) = [hi, lo] := by
  have high : (hi ++ lo).extractLsb' 8 8 = hi := by
    ext i h
    rw [BitVec.getElem_extractLsb']
    exact (BitVec.getLsbD_append (x := hi) (y := lo)).trans (by simp [BitVec.getLsbD_eq_getElem h])
  have low : (hi ++ lo).extractLsb' 0 8 = lo := by
    ext i h
    rw [BitVec.getElem_extractLsb']
    exact (BitVec.getLsbD_append (x := hi) (y := lo)).trans (by simp [h])
  simp [bytes16, word16, high, low]

/-- Decoding the frame of a command gives the command. -/
theorem decode_encode {i : Instr} {frame : List Byte} (hwf : i.wf = true) (h : encodePortFrame i = some frame) :
    decodePortFrame frame = some i := by
  cases i <;> simp only [encodePortFrame, reduceCtorEq, Option.some.injEq] at h <;> subst h
  case loadConfig record =>
    have : record.length = Config.recordBytes := by simpa [Instr.wf] using hwf
    simp [decodePortFrame, this]
  all_goals simp [decodePortFrame, bytes16]

/-- Every frame that decodes is the frame of its command. -/
theorem encode_decode {i : Instr} {frame : List Byte} (h : decodePortFrame frame = some i) :
    encodePortFrame i = some frame ∧ i.wf = true := by
  unfold decodePortFrame at h
  split at h
  · cases h
  · next code args =>
    have named : ∀ n, code.toNat = n → code = BitVec.ofNat 8 n := fun n hn => by rw [← hn, BitVec.ofNat_toNat, BitVec.setWidth_eq]
    split at h
    case h_1 record hcode =>
      split at h
      · next hl =>
        cases h
        exact ⟨by rw [named _ hcode]; rfl, by simp [Instr.wf, hl]⟩
      · cases h
    case h_11 => cases h
    all_goals
      next hcode =>
      cases h
      refine ⟨?_, rfl⟩
      rw [named _ hcode]
      simp [encodePortFrame]

/-- Settles O51. -/
theorem commandFramesDecode : Obligations.CommandFramesDecode := by
  refine ⟨fun _ _ => decode_encode, fun _ _ => encode_decode, fun frame => ?_⟩
  simp [Instr.wf]
end Sys2Proof.Machine
end

section
/-! SUPPORT and PROOF. Start-up and Restart (O6, O7). -/
namespace Sys2Proof.Machine

/-! ### A recomputation -/

section
variable {s : State}

theorem membershipOf_of_not_running (h : s.station.state ≠ .running) : membershipOf s = [s.station.number] := if_neg h

theorem headOf_self (s : State) : headOf s [s.station.number] = s.station.number := by simp [headOf]

theorem adoptedUnder_self (s : State) : adoptedUnder s s.station.number = homeContext s := if_pos rfl

theorem recompute_level (s : State) : (recompute s).floor.level = (recomposed s).floor.level := by
  unfold recompute
  simp only [presentContextChange_fields]
  split <;> simp

/-- Outside Running a recomputation leaves the station alone, under its home context. -/
theorem recompute_of_not_running (h : s.station.state ≠ .running) :
    (recompute s).room.members = [s.station.number] ∧ (recompute s).room.head = s.station.number ∧
    (recompute s).room.adopted = homeContext s ∧ (recompute s).floor.level = s.floor.level := by
  obtain ⟨hmembers, hhead, hadopted⟩ := recompute_room s
  rw [membershipOf_of_not_running h] at hmembers hhead hadopted
  rw [headOf_self] at hhead hadopted
  rw [adoptedUnder_self] at hadopted
  refine ⟨hmembers, hhead, hadopted, ?_⟩
  rw [recompute_level]
  simp [recomposed, membershipOf_of_not_running h, headOf_self]

/-- Of a station that was alone with no context, a recomputation changes the head and the context alone. -/
theorem recompute_of_fresh (h : s.station.state ≠ .running) (hmembers : s.room.members = [s.station.number])
    (hadopted : s.room.adopted = none) :
    recompute s = { s with room := { s.room with head := s.station.number, adopted := homeContext s } } := by
  simp [recompute, recomposed, membershipOf_of_not_running h, headOf_self, adoptedUnder_self, hmembers, hadopted,
    presentContextChange]
end

/-- The fitting of a desk, as the configuration has it. -/
def deskFit (d : Desk) : Bool × List Nat := (d.fitted, d.understood)

theorem fits_workOutSources (s : State) : (workOutSources s).booth.desks.map deskFit = s.booth.desks.map deskFit := by
  simp [workOutSources, deskFit]

theorem fits_presentContextChange (before after : Option Context) (s : State) :
    (presentContextChange before after s).booth.desks.map deskFit = s.booth.desks.map deskFit := by
  unfold presentContextChange
  repeat' split
  · rfl
  · simp [presentContext, fits_workOutSources]
  · rfl

theorem fits_recompute (s : State) : (recompute s).booth.desks.map deskFit = s.booth.desks.map deskFit := by
  simp only [recompute, fits_presentContextChange]
  split <;> simp

/-! ### Entering Joining and accepting a configuration -/

section
variable (s : State)

theorem enterJoining_room : (enterJoining s).room.members = [s.station.number] ∧
    (enterJoining s).room.head = s.station.number ∧ (enterJoining s).room.adopted = homeContext s ∧
    (enterJoining s).floor.level = s.floor.level := by
  obtain ⟨hmembers, hhead, hadopted, hlevel⟩ := recompute_of_not_running (s := { s with
    lif := { s.lif with epoch := (s.lif.epoch + 1) % 256 }
    station := { s.station with state := .joining, joinTimer := some Config.joiningFrames } }) (by simp)
  exact ⟨hmembers, hhead, hadopted, hlevel⟩

theorem fits_enterJoining : (enterJoining s).booth.desks.map deskFit = s.booth.desks.map deskFit := by
  simp [enterJoining, changeState, fits_recompute]

theorem fits_fitDesks (c : Configuration) : (fitDesks c s).booth.desks.map deskFit = s.booth.desks.zipIdx.map (fun (_, e) =>
    match c.desks.find? (fun x => x.desk = e) with
    | some x => (x.present, x.languages)
    | none => (false, [])) := by
  simp only [fitDesks, List.map_map]
  refine List.map_congr_left fun (d, e) _ => ?_
  simp only [Function.comp_apply]
  cases c.desks.find? (fun x => x.desk = e) <;> rfl

variable (c : Configuration)

theorem acceptConfig_walls : (acceptConfig c s).walls = s.walls.zipIdx.map (fun (w, x) =>
    match c.walls.find? (fun e => e.input = x) with
    | some e => { w with neighbour := some e.neighbour }
    | none => w) := by
  simp [acceptConfig]
  rfl

theorem acceptConfig_room (h : c.home.level = 0) : (acceptConfig c s).room.members = [s.station.number] ∧
    (acceptConfig c s).room.head = s.station.number ∧ (acceptConfig c s).room.adopted = some c.home ∧
    (acceptConfig c s).floor.level = 0 := by
  obtain ⟨hmembers, hhead, hadopted, hlevel⟩ := enterJoining_room (fitDesks c (nameWalls c
    { s with
      station := { s.station with config := some c, accepted := true }
      floor := { s.floor with level := 0 } }))
  refine ⟨?_, ?_, ?_, ?_⟩
  · exact hmembers
  · exact hhead
  · refine hadopted.trans ?_
    have : { c.home with level := 0 } = c.home := by rw [← h]
    simp [homeContext, this]
  · exact hlevel
end

/-! ### The expiry of the Joining timer -/

theorem mem_membershipOf_cases {s : State} {m : Nat} (h : m ∈ membershipOf s) :
    m = s.station.number ∨ ∃ e, peerAt s m = some e := by
  have candidate : ∀ k, m ∈ memberPasses s (k + 1) → m = s.station.number ∨ ∃ e, peerAt s m = some e := by
    intro k hm
    have hc : m ∈ candidates s := List.mem_of_mem_filter hm
    simp only [candidates, List.mem_filter, Bool.or_eq_true, beq_iff_eq, List.any_eq_true] at hc
    rcases hc.2 with hself | ⟨⟨_, e⟩, hp, rfl⟩
    · exact .inl hself
    · exact .inr ⟨e, ((mem_runningPeers s _ e).mp hp).2.2.1⟩
  unfold membershipOf at h
  split at h
  · exact candidate 14 h
  · exact .inl (List.mem_singleton.mp h)

theorem markNewcomers_lastSeen (before : List Nat) (s : State) {m : Nat} (hm : m ∈ s.room.members) (hnew : m ∉ before)
    (hself : m ≠ s.station.number) (hl : m < s.room.lastSeen.length) {e : PeerEntry} (he : peerAt s m = some e) :
    (markNewcomers before s).room.lastSeen[m]? = some (some e.content.sequence) := by
  simp [markNewcomers, hl, hm, hnew, hself, he]

/-- A recomputation that makes a peer a member marks its announced command as seen. -/
theorem recompute_lastSeen {s : State} {m : Nat} (hm : m ∈ membershipOf s) (hnew : m ∉ s.room.members)
    (hself : m ≠ s.station.number) (hl : m < s.room.lastSeen.length) :
    (recompute s).room.lastSeen[m]? = some ((peerAt s m).map (·.content.sequence)) := by
  obtain ⟨e, he⟩ := (mem_membershipOf_cases hm).resolve_left hself
  have changed : membershipOf s ≠ s.room.members := fun h => hnew (h ▸ hm)
  have marked := markNewcomers_lastSeen s.room.members (claimsAtMembership (raise .roomChanged (recomposed s))) (m := m)
    (e := e) (by simpa [recomposed] using hm) hnew (by simpa using hself) (by simpa using hl) (by simpa [peerAt] using he)
  rw [he]
  simp only [recompute, presentContextChange_keeps, recomposed_room, if_neg changed]
  simpa [presentMembership] using marked

/-- The membership depends on the state of the station, not on its timer. -/
theorem membershipOf_running_timer (s : State) (timer : Option Nat) :
    membershipOf { s with station := { s.station with state := .running, joinTimer := timer } } =
      membershipOf { s with station := { s.station with state := .running } } := by
  have passes : ∀ k, memberPasses { s with station := { s.station with state := .running, joinTimer := timer } } k =
      memberPasses { s with station := { s.station with state := .running } } k := by
    intro k
    induction k with
    | zero => rfl
    | succ k ih =>
      simp only [memberPasses, ih]
      rfl
  exact passes 15

/-! ### O6 and O7 -/

theorem memoryRecord_of_length {record : List Byte} (h : record.length = 110) : memoryRecord record = record :=
  List.take_left' h

theorem rejectConfig_eq (r : RejectReason) (s : State) : rejectConfig r s = { s with
    station := { s.station with lastReject := some r }
    port := { s.port with flags := s.port.flags ||| BitVec.twoPow 16 15 } } := rfl

theorem home_level (record : List Byte) : (recordConfig record).home.level = 0 := rfl

/-- Settles O6. -/
theorem startUpEvents : Obligations.StartUpEvents := by
  refine ⟨fun s record hs hl => ⟨fun hr => ?_, fun r hr hreject => ?_, fun hr haccept => ?_⟩,
    fun s record hs hl => ⟨fun ha => ?_, fun ha hr => ?_, fun r ha hr hreject => ?_, fun ha hr haccept => ?_⟩,
    fun s hs hstate htimer hroom => ?_⟩
  · rw [exec_of_live _ s hs]
    simp [liveEffect, memoryReadOp, hr]
  · rw [exec_of_live _ s hs]
    simp [liveEffect, memoryReadOp, hr, memoryRecord_of_length hl, hreject, rejectConfig_eq]
  · refine ⟨_, exec_of_live _ s hs, ?_⟩
    simp only [liveEffect, memoryReadOp, hr, memoryRecord_of_length hl, haccept, if_true]
    obtain ⟨hmembers, hhead, hadopted, hlevel⟩ := acceptConfig_room
      { s with station := { s.station with memoryReading := false } } (recordConfig record) (home_level record)
    exact ⟨by simp, by simp, hlevel, hmembers, hhead, hadopted, by simp, by simp, by simp, by simp, by simp⟩
  · rw [exec_of_live _ s hs]
    simp [liveEffect, loadConfigOp, hl, Config.recordBytes, ha, answer, respond]
  · rw [exec_of_live _ s hs]
    simp [liveEffect, loadConfigOp, hl, Config.recordBytes, ha, hr, answer, respond]
  · rw [exec_of_live _ s hs]
    simp [liveEffect, loadConfigOp, hl, Config.recordBytes, ha, hr, hreject, rejectConfig_eq, answer, respond]
  · refine ⟨_, exec_of_live _ s hs, ?_⟩
    have accepted : loadConfigOp record s = answer 0x01 .ok (acceptConfig (recordConfig record) s) := by
      simp [loadConfigOp, hl, Config.recordBytes, ha, hr, haccept]
    simp only [liveEffect, accepted]
    obtain ⟨hmembers, -, hadopted, hlevel⟩ := acceptConfig_room s (recordConfig record) (home_level record)
    refine ⟨rfl, by simp [answer, respond], by simp, by simp, by simp, hlevel, hmembers, hadopted,
      acceptConfig_walls s _, ?_, by simp, by simp, by simp, by simp⟩
    exact (fits_enterJoining _).trans (fits_fitDesks _ _)
  · refine ⟨_, exec_of_live _ s hs, ?_⟩
    have expired : takeExpiry s = enterRunning s := by simp [Machine.takeExpiry, timerExpired, hstate, htimer]
    have alone : s.room.members = [s.station.number] := hroom.2.2.2.2 (by simp [hstate])
    simp only [liveEffect, expired]
    have members := (recompute_room { s with station := { s.station with state := .running, joinTimer := none } }).1
    rw [membershipOf_running_timer] at members
    refine ⟨by simp, members, fun m hm hl hself => ?_, by simp, by simp, by simp, by simp, by simp, by simp⟩
    have hm' : m ∈ membershipOf { s with station := { s.station with state := .running, joinTimer := none } } := by
      rw [membershipOf_running_timer, ← members]
      exact hm
    exact recompute_lastSeen hm' (by simp [alone, hself]) hself hl

/-- The station right after Restart, but for flags and answer. -/
theorem enterJoining_restartTables (s : State) : enterJoining (restartTables s) = { restartTables s with
    station := { s.station with state := .joining, joinTimer := some 384 }
    lif := { s.lif with epoch := (s.lif.epoch + 1) % 256, composing := [], writeSet := [] }
    room := ⟨[s.station.number], s.station.number, (s.station.config.map (fun c => { c.home with level := 0 })),
        List.replicate 16 false, [], none, 0, List.replicate 16 none⟩ } := by
  unfold enterJoining changeState
  rw [recompute_of_fresh (by simp) rfl rfl]
  rfl

/-- Settles O7. -/
theorem restartResetsTheTables : Obligations.RestartResetsTheTables := by
  intro s hs
  refine ⟨fun h => ?_, fun h => ⟨_, exec_of_live _ s hs, ?_⟩⟩
  · rw [exec_of_live _ s hs]
    simp [liveEffect, restartOp, h, answer, respond]
  · simp only [liveEffect, restartOp, h, if_false, restartStation, enterJoining_restartTables]
    exact ⟨rfl, rfl, rfl, rfl, rfl, rfl, rfl, rfl, rfl, rfl, rfl, rfl, rfl, rfl, rfl, rfl, rfl⟩
end Sys2Proof.Machine
end

section
/-! SUPPORT. The bytes of an announcement: where each of its lists stands, and that each entry reads back as it was
(Table 1-3). -/
namespace Sys2Proof.Machine

/-! ### Bytes of lists -/

theorem toNat_byteOf {n : Nat} (h : n < 256) : (byteOf n).toNat = n := by
  simp [byteOf, Nat.mod_eq_of_lt h]

@[simp] theorem byteAt_cons_zero (x : Byte) (b : List Byte) : byteAt (x :: b) 0 = x.toNat := rfl

@[simp] theorem byteAt_cons_succ (x : Byte) (b : List Byte) (i : Nat) : byteAt (x :: b) (i + 1) = byteAt b i := rfl

theorem byteAt_append_left {l : List Byte} {i : Nat} (h : i < l.length) (r : List Byte) :
    byteAt (l ++ r) i = byteAt l i := by
  simp [byteAt, List.getElem?_append_left h]

theorem byteAt_append_add (l r : List Byte) (i : Nat) : byteAt (l ++ r) (l.length + i) = byteAt r i := by
  simp [byteAt, List.getElem?_append_right]

@[simp] theorem padTo_length (n : Nat) (b : List Byte) : (padTo n b).length = n := by simp [padTo]

theorem byteAt_padTo {n j : Nat} (h : j < n) (b : List Byte) : byteAt (padTo n b) j = byteAt b j := by
  simp only [byteAt, padTo, List.getD_eq_getElem?_getD, List.getElem?_take_of_lt h]
  by_cases hj : j < b.length
  · rw [List.getElem?_append_left hj]
  · rw [List.getElem?_append_right (by omega), List.getElem?_eq_none (l := b) (by omega), List.getElem?_replicate]
    split <;> rfl

/-- The bytes of the entries of a list, entry by entry. -/
theorem byteAt_flatMap {α : Type} {f : α → List Byte} {k : Nat} (hk : ∀ x, (f x).length = k) (l : List α) {i : Nat}
    (hi : i < l.length) {j : Nat} (hj : j < k) : byteAt (l.flatMap f) (k * i + j) = byteAt (f l[i]) j := by
  induction l generalizing i with
  | nil => simp at hi
  | cons x l ih =>
    cases i with
    | zero =>
      rw [List.flatMap_cons, Nat.mul_zero, Nat.zero_add, byteAt_append_left (by rw [hk]; exact hj)]
      rfl
    | succ i =>
      have next : k * (i + 1) + j = (f x).length + (k * i + j) := by rw [hk, Nat.mul_succ]; omega
      rw [List.flatMap_cons, next, byteAt_append_add, ih (by simpa using hi)]
      rfl

/-- A byte of a padded list of entries that stands after `front`. -/
theorem byteAt_entry {α : Type} {f : α → List Byte} {k n : Nat} (hk : ∀ x, (f x).length = k) {l : List α} {front rest : List Byte}
    {p i j : Nat} (hp : front.length = p) (hi : i < l.length) (hj : j < k) (hn : k * l.length ≤ n) :
    byteAt (front ++ (padTo n (l.flatMap f) ++ rest)) (p + (k * i + j)) = byteAt (f l[i]) j := by
  have : k * i + j < n := calc
    k * i + j < k * (i + 1) := by rw [Nat.mul_succ]; omega
    _ ≤ k * l.length := Nat.mul_le_mul_left _ (by omega)
    _ ≤ n := hn
  rw [← hp, byteAt_append_add, byteAt_append_left (by simpa using this), byteAt_padTo this, byteAt_flatMap hk l hi hj]

@[simp] theorem bytesOf_length (n : Nat) : (bytesOf n).length = 2 := rfl

theorem word16At_of_bytes {b : List Byte} {i n : Nat} (h0 : byteAt b i = byteAt (bytesOf n) 0)
    (h1 : byteAt b (i + 1) = byteAt (bytesOf n) 1) (h : n < 65536) : word16At b i = n := by
  simp only [word16At, h0, h1, bytesOf, byteAt_cons_zero, byteAt_cons_succ, byteOf, BitVec.toNat_ofNat]
  omega

/-! ### The layout of an announcement -/

section
variable (a : Announcement)

/-- Bytes 0..2. -/
def headerBytes : List Byte :=
  [byteOf (a.station * 16 + boolCode a.running * 8), byteOf a.epoch, byteOf (a.head * 16 + a.walls.length)]

/-- Bytes 7..17. -/
def middleBytes : List Byte :=
  contextBytes a.context ++ commandBytes a.sequence a.command ++
  [byteOf (a.mics.length * 16 + a.requests.length), byteOf (a.desks.length * 16 + a.lanes.length)]

@[simp] theorem headerBytes_length : (headerBytes a).length = 3 := rfl

@[simp] theorem contextBytes_length (c : Context) : (contextBytes c).length = 7 := rfl

@[simp] theorem commandBytes_length (n : Nat) (c : Option RoomCommand) : (commandBytes n c).length = 2 := by
  cases c <;> rfl

@[simp] theorem middleBytes_length : (middleBytes a).length = 11 := by simp [middleBytes]

theorem announcementBody_eq : announcementBody a = headerBytes a ++ (padTo 4 (a.walls.flatMap wallBytes) ++
    (middleBytes a ++ (padTo 36 (a.mics.flatMap micBytes) ++ (padTo 18 (a.requests.flatMap requestBytes) ++
      (padTo 28 (a.desks.flatMap deskBytes) ++ (padTo 16 (a.lanes.flatMap laneBytes) ++ [0, 0])))))) := by
  simp [announcementBody, headerBytes, middleBytes]

@[simp] theorem announcementBody_length : (announcementBody a).length = 118 := by simp [announcementBody_eq]

theorem announcementBytes_length : (announcementBytes a).length = 120 := by simp [announcementBytes, bytes16]

theorem take_announcementBytes : (announcementBytes a).take 118 = announcementBody a :=
  List.take_left' (announcementBody_length a)

theorem drop_announcementBytes : (announcementBytes a).drop 118 = bytes16 (crc16 (announcementBody a)) :=
  List.drop_left' (announcementBody_length a)
end
end Sys2Proof.Machine
end

section
/-! SUPPORT. Each entry of an announcement reads back as it was (Table 1-3). -/
namespace Sys2Proof.Machine

theorem wallOfCode_wallCode (w : WallState) : wallOfCode (wallCode w) = w := by cases w <;> rfl

theorem wallCode_lt (w : WallState) : wallCode w < 4 := by cases w <;> decide

theorem phaseOfCode_phaseCode (p : AnnPhase) : phaseOfCode (phaseCode p) = p := by
  rcases p with _ | p
  · rfl
  · cases p <;> rfl

theorem phaseCode_lt (p : AnnPhase) : phaseCode p < 4 := by
  rcases p with _ | p
  · decide
  · cases p <;> decide

theorem boolCode_lt (b : Bool) : boolCode b < 2 := by cases b <;> decide

theorem boolCode_eq_one (b : Bool) : (boolCode b == 1) = b := by cases b <;> rfl

theorem deskOfCode_deskCode (d : DeskState) : deskOfCode (deskCode d) = some d := by cases d <;> rfl

theorem deskCode_lt (d : DeskState) : deskCode d < 4 := by cases d <;> decide

theorem presentCode_some (n : Named) : presentCode (some n) = 1 := rfl

theorem presentCode_none : presentCode none = 0 := rfl

section
variable {b : List Byte} {i : Nat}

theorem readWall_of_bytes {w : AnnWall} (h : byteAt b (3 + i) = byteAt (wallBytes w) 0) (hn : w.neighbour < 16) :
    readWall b i = w := by
  have code := wallCode_lt w.state
  have value : byteAt b (3 + i) = w.neighbour * 16 + wallCode w.state := by
    rw [h, wallBytes, byteAt_cons_zero, toNat_byteOf (by omega)]
  have high : bitField (w.neighbour * 16 + wallCode w.state) 4 4 = w.neighbour := by simp only [bitField]; omega
  have low : bitField (w.neighbour * 16 + wallCode w.state) 0 2 = wallCode w.state := by simp only [bitField]; omega
  rw [readWall, value, high, low, wallOfCode_wallCode]

theorem readRequest_of_bytes {r : AnnRequest} (h : ∀ j < 3, byteAt b (54 + 3 * i + j) = byteAt (requestBytes r) j)
    (hseat : r.seat ≤ 60) (hcls : r.cls < 4) (hage : r.age ≤ 65535) : readRequest b i = r := by
  have value : byteAt b (54 + 3 * i) = r.seat * 4 + r.cls := by
    have := h 0 (by decide)
    rw [Nat.add_zero] at this
    rw [this, requestBytes, byteAt_cons_zero, toNat_byteOf (by omega)]
  have age : word16At b (54 + 3 * i + 1) = r.age := word16At_of_bytes (h 1 (by decide)) (h 2 (by decide)) (by omega)
  have high : bitField (r.seat * 4 + r.cls) 2 6 = r.seat := by simp only [bitField]; omega
  have low : bitField (r.seat * 4 + r.cls) 0 2 = r.cls := by simp only [bitField]; omega
  rw [readRequest, value, age, high, low]

theorem readLane_of_bytes {l : AnnLane} (h : ∀ j < 4, byteAt b (100 + 4 * i + j) = byteAt (laneBytes l) j)
    (hlane : l.lane ≤ 63) (hlanguage : l.language ≤ 31) (hage : l.age ≤ 65535) : readLane b i = l := by
  have held := boolCode_lt l.held
  have value : byteAt b (100 + 4 * i) = boolCode l.held * 128 + l.lane := by
    have := h 0 (by decide)
    rw [Nat.add_zero] at this
    rw [this, laneBytes, List.cons_append, byteAt_cons_zero, toNat_byteOf (by omega)]
  have language : byteAt b (100 + 4 * i + 1) = l.language := (h 1 (by decide)).trans (toNat_byteOf (by omega))
  have age : word16At b (100 + 4 * i + 2) = l.age := word16At_of_bytes (h 2 (by decide)) (h 3 (by decide)) (by omega)
  have high : bitField (boolCode l.held * 128 + l.lane) 7 1 = boolCode l.held := by simp only [bitField]; omega
  have low : bitField (boolCode l.held * 128 + l.lane) 0 6 = l.lane := by simp only [bitField]; omega
  have five : bitField l.language 0 5 = l.language := by simp only [bitField]; omega
  rw [readLane, value, language, age, high, low, five, boolCode_eq_one]

theorem readMic_of_bytes {m : AnnMic} (h : ∀ j < 6, byteAt b (18 + 6 * i + j) = byteAt (micBytes m) j)
    (hseat : m.seat ≤ 60) (hcls : m.cls < 4) (htag : m.tag < 32) (hage : m.age ≤ 65535)
    (hdisplaced : ∀ n ∈ m.displaced, n.station < 16 ∧ n.item ≤ 60) : readMic b i = m := by
  have phase := phaseCode_lt m.phase
  have seat : byteAt b (18 + 6 * i) = m.seat * 4 + m.cls := by
    have := h 0 (by decide)
    rw [Nat.add_zero] at this
    exact this.trans (toNat_byteOf (by omega))
  have tag : byteAt b (18 + 6 * i + 1) = phaseCode m.phase * 64 + m.tag := (h 1 (by decide)).trans (toNat_byteOf (by omega))
  have age : word16At b (18 + 6 * i + 2) = m.age := word16At_of_bytes (h 2 (by decide)) (h 3 (by decide)) (by omega)
  have named : (if bitField (byteAt b (18 + 6 * i + 4)) 7 1 = 1 then
      some (⟨bitField (byteAt b (18 + 6 * i + 4)) 0 4, bitField (byteAt b (18 + 6 * i + 5)) 0 6⟩ : Named) else none) =
      m.displaced := by
    rw [h 4 (by decide), h 5 (by decide)]
    cases hd : m.displaced with
    | none => simp [micBytes, bytesOf, hd, presentCode_none, displacedStation, displacedItem, byteOf, bitField]
    | some n =>
      obtain ⟨hstation, hitem⟩ := hdisplaced n hd
      have first : byteAt (micBytes m) 4 = 128 + n.station := by
        refine Eq.trans (congrArg BitVec.toNat ?_) (toNat_byteOf (by omega))
        simp [micBytes, bytesOf, hd, presentCode_some, displacedStation]
      have second : byteAt (micBytes m) 5 = n.item := by
        refine Eq.trans (congrArg BitVec.toNat ?_) (toNat_byteOf (by omega))
        simp [micBytes, bytesOf, hd, displacedItem]
      have top : bitField (128 + n.station) 7 1 = 1 := by simp only [bitField]; omega
      have four : bitField (128 + n.station) 0 4 = n.station := by simp only [bitField]; omega
      have six : bitField n.item 0 6 = n.item := by simp only [bitField]; omega
      rw [first, second, top, four, six, if_pos rfl]
  have high : bitField (m.seat * 4 + m.cls) 2 6 = m.seat := by simp only [bitField]; omega
  have low : bitField (m.seat * 4 + m.cls) 0 2 = m.cls := by simp only [bitField]; omega
  have top : bitField (phaseCode m.phase * 64 + m.tag) 6 2 = phaseCode m.phase := by simp only [bitField]; omega
  have five : bitField (phaseCode m.phase * 64 + m.tag) 0 5 = m.tag := by simp only [bitField]; omega
  simp only [readMic, seat, tag, age, named, high, low, top, five, phaseOfCode_phaseCode]

theorem relayOfCode_relayCode {r : Relay} (h : relayCode r = 2 → 1 ≤ relayLanguage r ∧ relayLanguage r ≤ 31) :
    relayOfCode (relayCode r) (relayLanguage r) = some r := by
  cases r with
  | floor => rfl
  | auto => rfl
  | language l =>
    obtain ⟨h1, h31⟩ : 1 ≤ l ∧ l ≤ 31 := h rfl
    simp [relayOfCode, relayCode, relayLanguage, h1, h31]

theorem readDesk_of_bytes {d : AnnDesk} (h : ∀ j < 7, byteAt b (72 + 7 * i + j) = byteAt (deskBytes d) j)
    (hdesk : d.desk < 4) (houtput : d.output ≤ 31)
    (hrelay : relayCode d.relay = 2 → 1 ≤ relayLanguage d.relay ∧ relayLanguage d.relay ≤ 31)
    (hselection : d.selectionAge ≤ 65535) (hage : d.onAirAge ≤ 65535)
    (hdisplaced : ∀ n ∈ d.displaced, n.station < 16 ∧ n.item < 4) : readDesk b i = some d := by
  have relayLt : relayCode d.relay < 4 ∧ relayLanguage d.relay < 32 := by
    cases hr : d.relay with
    | floor => decide
    | auto => decide
    | language l =>
      rw [hr] at hrelay
      exact ⟨(by decide : 2 < 4), Nat.lt_succ_of_le (hrelay rfl).2⟩
  have stateLt := deskCode_lt d.state
  have presentLt := boolCode_lt d.displaced.isSome
  have named : displacedStation d.displaced < 16 ∧ displacedItem d.displaced < 4 := by
    cases hd : d.displaced with
    | none => decide
    | some n => exact hdisplaced n hd
  obtain ⟨hcode, hlanguage⟩ := relayLt
  obtain ⟨hstation, hitem⟩ := named
  have first : byteAt b (72 + 7 * i) = d.desk * 64 + presentCode d.displaced * 32 + d.output := by
    have := h 0 (by decide)
    rw [Nat.add_zero] at this
    exact this.trans (toNat_byteOf (by unfold presentCode; omega))
  have second : byteAt b (72 + 7 * i + 1) = relayCode d.relay * 64 + relayLanguage d.relay :=
    (h 1 (by decide)).trans (toNat_byteOf (by omega))
  have third : byteAt b (72 + 7 * i + 2) =
      deskCode d.state * 64 + displacedItem d.displaced * 16 + displacedStation d.displaced :=
    (h 2 (by decide)).trans (toNat_byteOf (by omega))
  have selection : word16At b (72 + 7 * i + 3) = d.selectionAge :=
    word16At_of_bytes (h 3 (by decide)) (h 4 (by decide)) (by omega)
  have age : word16At b (72 + 7 * i + 5) = d.onAirAge := word16At_of_bytes (h 5 (by decide)) (h 6 (by decide)) (by omega)
  have f1 : bitField (d.desk * 64 + presentCode d.displaced * 32 + d.output) 6 2 = d.desk := by
    simp only [bitField, presentCode]; omega
  have f2 : bitField (d.desk * 64 + presentCode d.displaced * 32 + d.output) 5 1 = presentCode d.displaced := by
    simp only [bitField, presentCode]; omega
  have f3 : bitField (d.desk * 64 + presentCode d.displaced * 32 + d.output) 0 5 = d.output := by
    simp only [bitField, presentCode]; omega
  have f4 : bitField (relayCode d.relay * 64 + relayLanguage d.relay) 6 2 = relayCode d.relay := by
    simp only [bitField]; omega
  have f5 : bitField (relayCode d.relay * 64 + relayLanguage d.relay) 0 5 = relayLanguage d.relay := by
    simp only [bitField]; omega
  have f6 : bitField (deskCode d.state * 64 + displacedItem d.displaced * 16 + displacedStation d.displaced) 6 2 =
      deskCode d.state := by simp only [bitField]; omega
  have f7 : bitField (deskCode d.state * 64 + displacedItem d.displaced * 16 + displacedStation d.displaced) 0 4 =
      displacedStation d.displaced := by simp only [bitField]; omega
  have f8 : bitField (deskCode d.state * 64 + displacedItem d.displaced * 16 + displacedStation d.displaced) 4 2 =
      displacedItem d.displaced := by simp only [bitField]; omega
  have displaced : (if presentCode d.displaced = 1 then
      some (⟨displacedStation d.displaced, displacedItem d.displaced⟩ : Named) else none) = d.displaced := by
    cases d.displaced <;> rfl
  simp only [readDesk, first, second, third, selection, age, f1, f2, f3, f4, f5, f6, f7, f8, displaced,
    relayOfCode_relayCode hrelay, deskOfCode_deskCode]
end
end Sys2Proof.Machine
end

section
/-! PROOF. An announcement reads back as it was sent, and what reads back lies within Table 1-3 (O52). -/
namespace Sys2Proof.Machine

/-! ### Where each entry stands -/

section
variable {a : Announcement} {i j : Nat}

theorem byteAt_header (h : j < 3) : byteAt (announcementBytes a) j = byteAt (headerBytes a) j := by
  rw [announcementBytes, announcementBody_eq, List.append_assoc, byteAt_append_left (by simpa using h)]

theorem byteAt_walls (hn : a.walls.length ≤ 4) (hi : i < a.walls.length) :
    byteAt (announcementBytes a) (3 + i) = byteAt (wallBytes a.walls[i]) 0 := by
  have := byteAt_entry (f := wallBytes) (k := 1) (n := 4) (fun _ => rfl) (headerBytes_length a) hi Nat.one_pos (by omega)
    (rest := middleBytes a ++ (padTo 36 (a.mics.flatMap micBytes) ++ (padTo 18 (a.requests.flatMap requestBytes) ++
      (padTo 28 (a.desks.flatMap deskBytes) ++ (padTo 16 (a.lanes.flatMap laneBytes) ++ ([0, 0] ++
        bytes16 (crc16 (announcementBody a))))))))
  rw [announcementBytes]
  nth_rw 1 [announcementBody_eq]
  simpa using this

theorem byteAt_middle (h : j < 11) : byteAt (announcementBytes a) (7 + j) = byteAt (middleBytes a) j := by
  have front : (headerBytes a ++ padTo 4 (a.walls.flatMap wallBytes)).length = 7 := by simp
  have layout : announcementBytes a = (headerBytes a ++ padTo 4 (a.walls.flatMap wallBytes)) ++ (middleBytes a ++
      (padTo 36 (a.mics.flatMap micBytes) ++ (padTo 18 (a.requests.flatMap requestBytes) ++
      (padTo 28 (a.desks.flatMap deskBytes) ++ (padTo 16 (a.lanes.flatMap laneBytes) ++ ([0, 0] ++
        bytes16 (crc16 (announcementBody a)))))))) := by
    rw [announcementBytes]
    nth_rw 1 [announcementBody_eq]
    simp
  rw [layout, ← front, byteAt_append_add, byteAt_append_left (by simpa using h)]

theorem byteAt_mics (hn : a.mics.length ≤ 6) (hi : i < a.mics.length) (hj : j < 6) :
    byteAt (announcementBytes a) (18 + 6 * i + j) = byteAt (micBytes a.mics[i]) j := by
  have := byteAt_entry (f := micBytes) (k := 6) (n := 36) (p := 18) (fun _ => rfl)
    (front := headerBytes a ++ padTo 4 (a.walls.flatMap wallBytes) ++ middleBytes a) (by simp) hi hj (by omega)
    (rest := padTo 18 (a.requests.flatMap requestBytes) ++
      (padTo 28 (a.desks.flatMap deskBytes) ++ (padTo 16 (a.lanes.flatMap laneBytes) ++ ([0, 0] ++
        bytes16 (crc16 (announcementBody a))))))
  rw [announcementBytes, Nat.add_assoc]
  nth_rw 1 [announcementBody_eq]
  simpa using this

theorem byteAt_requests (hn : a.requests.length ≤ 6) (hi : i < a.requests.length) (hj : j < 3) :
    byteAt (announcementBytes a) (54 + 3 * i + j) = byteAt (requestBytes a.requests[i]) j := by
  have := byteAt_entry (f := requestBytes) (k := 3) (n := 18) (p := 54) (fun _ => rfl)
    (front := headerBytes a ++ padTo 4 (a.walls.flatMap wallBytes) ++ middleBytes a ++ padTo 36 (a.mics.flatMap micBytes))
    (by simp) hi hj (by omega)
    (rest := padTo 28 (a.desks.flatMap deskBytes) ++ (padTo 16 (a.lanes.flatMap laneBytes) ++ ([0, 0] ++
        bytes16 (crc16 (announcementBody a)))))
  rw [announcementBytes, Nat.add_assoc]
  nth_rw 1 [announcementBody_eq]
  simpa using this

theorem byteAt_desks (hn : a.desks.length ≤ 4) (hi : i < a.desks.length) (hj : j < 7) :
    byteAt (announcementBytes a) (72 + 7 * i + j) = byteAt (deskBytes a.desks[i]) j := by
  have := byteAt_entry (f := deskBytes) (k := 7) (n := 28) (p := 72) (fun _ => rfl)
    (front := headerBytes a ++ padTo 4 (a.walls.flatMap wallBytes) ++ middleBytes a ++ padTo 36 (a.mics.flatMap micBytes) ++
      padTo 18 (a.requests.flatMap requestBytes)) (by simp) hi hj (by omega)
    (rest := padTo 16 (a.lanes.flatMap laneBytes) ++ ([0, 0] ++ bytes16 (crc16 (announcementBody a))))
  rw [announcementBytes, Nat.add_assoc]
  nth_rw 1 [announcementBody_eq]
  simpa using this

theorem byteAt_lanes (hn : a.lanes.length ≤ 4) (hi : i < a.lanes.length) (hj : j < 4) :
    byteAt (announcementBytes a) (100 + 4 * i + j) = byteAt (laneBytes a.lanes[i]) j := by
  have := byteAt_entry (f := laneBytes) (k := 4) (n := 16) (p := 100) (fun _ => rfl)
    (front := headerBytes a ++ padTo 4 (a.walls.flatMap wallBytes) ++ middleBytes a ++ padTo 36 (a.mics.flatMap micBytes) ++
      padTo 18 (a.requests.flatMap requestBytes) ++ padTo 28 (a.desks.flatMap deskBytes)) (by simp) hi hj (by omega)
    (rest := [0, 0] ++ bytes16 (crc16 (announcementBody a)))
  rw [announcementBytes, Nat.add_assoc]
  nth_rw 1 [announcementBody_eq]
  simpa using this
end

/-- A list is read back entry by entry. -/
theorem map_range_eq {α : Type} {f : Nat → α} {l : List α} {n : Nat} (hn : n = l.length)
    (h : ∀ i (hi : i < l.length), f i = l[i]) : (List.range n).map f = l := by
  subst hn
  exact List.ext_getElem (by simp) fun i h1 h2 => by simpa using h i h2

theorem mapM_eq_some_iff {α β : Type} {f : α → Option β} {l : List α} {l' : List β} :
    l.mapM f = some l' ↔ List.Forall₂ (fun x y => f x = some y) l l' := by
  induction l generalizing l' with
  | nil => cases l' <;> simp
  | cons x l ih =>
    simp only [List.mapM_cons, Option.bind_eq_bind, Option.bind_eq_some_iff, ih, Option.pure_def, Option.some.injEq]
    constructor
    · rintro ⟨y, hy, ys, hys, rfl⟩
      exact .cons hy hys
    · rintro (_ | ⟨hy, hys⟩)
      exact ⟨_, hy, _, hys, rfl⟩

theorem mapM_range_eq {α : Type} {f : Nat → Option α} {l : List α} {n : Nat} (hn : n = l.length)
    (h : ∀ i (hi : i < l.length), f i = some l[i]) : (List.range n).mapM f = some l := by
  subst hn
  exact mapM_eq_some_iff.mpr (List.forall₂_iff_get.mpr ⟨by simp, fun i h1 h2 => by simpa using h i h2⟩)

/-! ### Header, context, command and counts -/

section
variable {a : Announcement}

theorem modeOfCode_modeCode (m : Mode) : modeOfCode (modeCode m) = m := by cases m <;> rfl

theorem modeCode_lt (m : Mode) : modeCode m < 3 := by cases m <;> decide

theorem read_header (law : AnnouncementLaw a) : bitField (byteAt (announcementBytes a) 0) 4 4 = a.station ∧
    bitField (byteAt (announcementBytes a) 0) 3 1 = boolCode a.running ∧ byteAt (announcementBytes a) 1 = a.epoch ∧
    bitField (byteAt (announcementBytes a) 2) 4 4 = a.head ∧ wallCount (announcementBytes a) = a.walls.length := by
  obtain ⟨hstation, hepoch, hhead, -, hwalls, -⟩ := law
  have running := boolCode_lt a.running
  have b0 : byteAt (announcementBytes a) 0 = a.station * 16 + boolCode a.running * 8 :=
    (byteAt_header (by decide)).trans (toNat_byteOf (by omega))
  have b1 : byteAt (announcementBytes a) 1 = a.epoch := (byteAt_header (by decide)).trans (toNat_byteOf (by omega))
  have b2 : byteAt (announcementBytes a) 2 = a.head * 16 + a.walls.length :=
    (byteAt_header (by decide)).trans (toNat_byteOf (by omega))
  rw [wallCount, b0, b1, b2]
  simp only [bitField]
  refine ⟨?_, ?_, trivial, ?_, ?_⟩ <;> omega

theorem read_context (law : AnnouncementLaw a) : readContext (announcementBytes a) = a.context ∧
    bitField (byteAt (announcementBytes a) 7) 6 2 = modeCode a.context.mode ∧
    bitField (byteAt (announcementBytes a) 7) 3 3 = a.context.speakerLimit ∧
    word16At (announcementBytes a) 8 = a.context.speakingTime ∧
    word16At (announcementBytes a) 12 = a.context.floorUnder := by
  obtain ⟨-, -, -, -, -, -, -, hlimit, htime, hwarning, hpivot, hunder, hlevel, -⟩ := law
  generalize hc : a.context = c at *
  have middle : ∀ j < 7, byteAt (announcementBytes a) (7 + j) = byteAt (contextBytes c) j := fun j hj => by
    rw [byteAt_middle (by omega), middleBytes, List.append_assoc, byteAt_append_left (by simpa using hj), hc]
  have mode := modeCode_lt c.mode
  have auto := boolCode_lt c.autoAdvance
  have takeover := boolCode_lt (c.interlock == .takeover)
  have clear := boolCode_lt c.clearOnMute
  have first : byteAt (announcementBytes a) 7 = modeCode c.mode * 64 + c.speakerLimit * 8 + boolCode c.autoAdvance * 4 +
      boolCode (c.interlock == .takeover) * 2 + boolCode c.clearOnMute :=
    (middle 0 (by decide)).trans (toNat_byteOf (by omega))
  have time : word16At (announcementBytes a) 8 = c.speakingTime :=
    word16At_of_bytes (middle 1 (by decide)) (middle 2 (by decide)) (by omega)
  have warning : byteAt (announcementBytes a) 10 = c.warningTime := (middle 3 (by decide)).trans (toNat_byteOf (by omega))
  have level : byteAt (announcementBytes a) 11 = c.level * 64 + c.pivot := (middle 4 (by decide)).trans (toNat_byteOf (by omega))
  have under : word16At (announcementBytes a) 12 = c.floorUnder :=
    word16At_of_bytes (middle 5 (by decide)) (middle 6 (by decide)) (by omega)
  generalize hx : modeCode c.mode * 64 + c.speakerLimit * 8 + boolCode c.autoAdvance * 4 +
    boolCode (c.interlock == .takeover) * 2 + boolCode c.clearOnMute = x at first
  have f1 : bitField x 6 2 = modeCode c.mode := by simp only [bitField]; omega
  have f2 : bitField x 3 3 = c.speakerLimit := by simp only [bitField]; omega
  have f3 : bitField x 2 1 = boolCode c.autoAdvance := by simp only [bitField]; omega
  have f4 : bitField x 1 1 = boolCode (c.interlock == .takeover) := by simp only [bitField]; omega
  have f5 : bitField x 0 1 = boolCode c.clearOnMute := by simp only [bitField]; omega
  have f6 : bitField (c.level * 64 + c.pivot) 6 2 = c.level := by simp only [bitField]; omega
  have f7 : bitField (c.level * 64 + c.pivot) 0 5 = c.pivot := by simp only [bitField]; omega
  have interlock : (if boolCode (c.interlock == .takeover) = 1 then Interlock.takeover else .refuse) = c.interlock := by
    cases c.interlock <;> rfl
  refine ⟨?_, by rw [first, f1], by rw [first, f2], time, under⟩
  simp only [readContext, first, level, time, warning, under, f1, f2, f3, f4, f5, f6, f7, modeOfCode_modeCode,
    boolCode_eq_one, interlock]

theorem kindOfCode_kindCode (k : CommandKind) : kindOfCode (kindCode k) = some k := by cases k <;> rfl

theorem kindCode_range (k : CommandKind) : 1 ≤ kindCode k ∧ kindCode k ≤ 4 := by cases k <;> decide

theorem read_command (law : AnnouncementLaw a) : readCommand (announcementBytes a) = a.command ∧
    bitField (byteAt (announcementBytes a) 14) 4 4 = a.sequence ∧ bitField (byteAt (announcementBytes a) 14) 0 3 ≤ 4 := by
  obtain ⟨-, -, -, hsequence, -, -, -, -, -, -, -, -, -, hcommand, -⟩ := law
  have middle : ∀ j < 2, byteAt (announcementBytes a) (14 + j) = byteAt (commandBytes a.sequence a.command) j := fun j hj => by
    have := byteAt_middle (a := a) (j := 7 + j) (by omega)
    rw [← Nat.add_assoc] at this
    rw [this, middleBytes, List.append_assoc, ← contextBytes_length a.context, byteAt_append_add,
      byteAt_append_left (by simpa using hj)]
  have m0 := middle 0 (by decide)
  have m1 := middle 1 (by decide)
  cases hc : a.command with
  | none =>
    rw [hc] at m0
    have first : byteAt (announcementBytes a) 14 = a.sequence * 16 := m0.trans (toNat_byteOf (by omega))
    have low : bitField (a.sequence * 16) 0 3 = 0 := by simp only [bitField]; omega
    have high : bitField (a.sequence * 16) 4 4 = a.sequence := by simp only [bitField]; omega
    rw [readCommand, first, low, high]
    exact ⟨rfl, rfl, by decide⟩
  | some c =>
    rw [hc] at m0 m1
    obtain ⟨_, hkind⟩ := kindCode_range c.kind
    have argument := hcommand c hc
    have first : byteAt (announcementBytes a) 14 = a.sequence * 16 + kindCode c.kind := m0.trans (toNat_byteOf (by omega))
    have low : bitField (a.sequence * 16 + kindCode c.kind) 0 3 = kindCode c.kind := by simp only [bitField]; omega
    have high : bitField (a.sequence * 16 + kindCode c.kind) 4 4 = a.sequence := by simp only [bitField]; omega
    have second : byteAt (announcementBytes a) 15 = c.argument := by
      refine m1.trans ?_
      by_cases hk : kindHasArgument c.kind
      · rw [if_pos hk] at argument
        exact (congrArg (fun n => (byteOf n).toNat) (if_pos hk)).trans (toNat_byteOf (by omega))
      · rw [if_neg hk] at argument
        exact (congrArg (fun n => (byteOf n).toNat) (if_neg hk)).trans argument.symm
    have three : (if kindHasArgument c.kind then bitField c.argument 0 3 else 0) = c.argument := by
      split at argument
      · next hk =>
        rw [if_pos hk]
        simp only [bitField]
        omega
      · next hk => rw [if_neg hk, argument]
    rw [readCommand, first, low, high, second, kindOfCode_kindCode, Option.map_some, three]
    exact ⟨rfl, rfl, hkind⟩

theorem read_counts (law : AnnouncementLaw a) : micCount (announcementBytes a) = a.mics.length ∧
    requestCount (announcementBytes a) = a.requests.length ∧ deskCount (announcementBytes a) = a.desks.length ∧
    laneCount (announcementBytes a) = a.lanes.length := by
  obtain ⟨-, -, -, -, -, -, -, -, -, -, -, -, -, -, hmics, -, -, hrequests, -, -, hdesks, -, -, hlanes, -⟩ := law
  have middle : ∀ j < 2, byteAt (announcementBytes a) (16 + j) =
      byteAt [byteOf (a.mics.length * 16 + a.requests.length), byteOf (a.desks.length * 16 + a.lanes.length)] j := by
    intro j hj
    have front : (contextBytes a.context ++ commandBytes a.sequence a.command).length = 9 := by simp
    have := byteAt_middle (a := a) (j := 9 + j) (by omega)
    rw [← Nat.add_assoc] at this
    rw [this, middleBytes, ← front, byteAt_append_add]
  have first : byteAt (announcementBytes a) 16 = a.mics.length * 16 + a.requests.length :=
    (middle 0 (by decide)).trans (toNat_byteOf (by omega))
  have second : byteAt (announcementBytes a) 17 = a.desks.length * 16 + a.lanes.length :=
    (middle 1 (by decide)).trans (toNat_byteOf (by omega))
  simp only [micCount, requestCount, deskCount, laneCount, first, second, bitField]
  refine ⟨?_, ?_, ?_, ?_⟩ <;> omega
end

/-! ### O52 -/

section
variable {a : Announcement}

theorem readAnnouncement_announcementBytes (law : AnnouncementLaw a) : readAnnouncement (announcementBytes a) = some a := by
  obtain ⟨h1, h2, h3, h4, hwallCount⟩ := read_header law
  obtain ⟨hcontext, -⟩ := read_context law
  obtain ⟨hcommand, hsequence, -⟩ := read_command law
  obtain ⟨hmicCount, hrequestCount, hdeskCount, hlaneCount⟩ := read_counts law
  obtain ⟨-, -, -, -, hwl, hwalls, -, -, -, -, -, -, -, -, hml, -, hmics, hrl, -, hrequests, hdl, -, hdesks, hll, -, hlanes⟩ := law
  have walls : (List.range (wallCount (announcementBytes a))).map (readWall (announcementBytes a)) = a.walls :=
    map_range_eq hwallCount fun i hi => readWall_of_bytes (byteAt_walls hwl hi) (hwalls _ (List.getElem_mem hi))
  have mics : (List.range (micCount (announcementBytes a))).map (readMic (announcementBytes a)) = a.mics :=
    map_range_eq hmicCount fun i hi => by
      obtain ⟨-, hseat, hcls, htag, hage, hdisplaced⟩ := hmics _ (List.getElem_mem hi)
      exact readMic_of_bytes (fun j hj => byteAt_mics hml hi hj) hseat hcls htag hage
        fun n hn => ⟨(hdisplaced n hn).1, (hdisplaced n hn).2.2⟩
  have requests : (List.range (requestCount (announcementBytes a))).map (readRequest (announcementBytes a)) = a.requests :=
    map_range_eq hrequestCount fun i hi => by
      obtain ⟨-, hseat, hcls, hage⟩ := hrequests _ (List.getElem_mem hi)
      exact readRequest_of_bytes (fun j hj => byteAt_requests hrl hi hj) hseat hcls hage
  have desks : (List.range (deskCount (announcementBytes a))).mapM (readDesk (announcementBytes a)) = some a.desks :=
    mapM_range_eq hdeskCount fun i hi => by
      obtain ⟨hdesk, -, houtput, hrelay, hselection, hage, hdisplaced⟩ := hdesks _ (List.getElem_mem hi)
      exact readDesk_of_bytes (fun j hj => byteAt_desks hdl hi hj) hdesk houtput hrelay hselection hage hdisplaced
  have lanes : (List.range (laneCount (announcementBytes a))).map (readLane (announcementBytes a)) = a.lanes :=
    map_range_eq hlaneCount fun i hi => by
      obtain ⟨-, hlane, -, hlanguage, hage⟩ := hlanes _ (List.getElem_mem hi)
      exact readLane_of_bytes (fun j hj => byteAt_lanes hll hi hj) hlane hlanguage hage
  rw [readAnnouncement, desks, walls, mics, requests, lanes, h1, h2, h3, h4, hcontext, hcommand, hsequence, boolCode_eq_one]
  rfl

theorem fieldsInRange_announcementBytes (law : AnnouncementLaw a) : fieldsInRange (announcementBytes a) = true := by
  obtain ⟨-, -, -, -, hwallCount⟩ := read_header law
  obtain ⟨-, hmode, hlimit, htime, hunder⟩ := read_context law
  obtain ⟨hcommand, -, hkind⟩ := read_command law
  obtain ⟨hmicCount, hrequestCount, hdeskCount, hlaneCount⟩ := read_counts law
  have mode := modeCode_lt a.context.mode
  have arguments : a.command.all (fun c => decide (c.argument ≤ 6)) = true := by
    obtain ⟨-, -, -, -, -, -, -, -, -, -, -, -, -, hargument, -⟩ := law
    cases hc : a.command with
    | none => rfl
    | some c =>
      have := hargument c hc
      simp only [Option.all_some, decide_eq_true_eq]
      split at this <;> omega
  obtain ⟨-, -, -, -, hwl, -, hlimit1, hlimit6, htime', -, -, hunder', -, -, hml, -, -, hrl, -, -, hdl, -, -, hll, -⟩ := law
  simp only [fieldsInRange, hwallCount, hmode, hlimit, htime, hunder, hcommand, hmicCount, hrequestCount, hdeskCount,
    hlaneCount, arguments, Bool.and_eq_true, decide_eq_true_eq, bne_iff_ne]
  refine ⟨⟨⟨⟨⟨⟨⟨⟨⟨⟨⟨?_, ?_⟩, ?_⟩, ?_⟩, ?_⟩, ?_⟩, ?_⟩, ?_⟩, ?_⟩, ?_⟩, ?_⟩, trivial⟩ <;> omega

theorem entriesValid_of_law (law : AnnouncementLaw a) : entriesValid a = true := by
  obtain ⟨-, -, -, -, -, -, -, -, -, -, -, -, -, -, -, hmd, hmics, -, hrd, hrequests, -, hdd, hdesks, -, hld, hlanes⟩ := law
  simp only [entriesValid, Bool.and_eq_true, List.all_eq_true, noRepeats_iff, seatInRange, languageInRange,
    decide_eq_true_eq]
  refine ⟨⟨⟨⟨⟨⟨⟨fun m hm => ?_, fun r hr => ?_⟩, fun d hd => ?_⟩, fun l hl => ?_⟩, hmd⟩, hrd⟩, hdd⟩, hld⟩
  · obtain ⟨h1, h60, -, -, -, hn⟩ := hmics m hm
    refine ⟨⟨h1, h60⟩, ?_⟩
    cases hdisplaced : m.displaced with
    | none => rfl
    | some n => simpa using (hn n hdisplaced).2
  · obtain ⟨h1, h60, -⟩ := hrequests r hr
    exact ⟨h1, h60⟩
  · obtain ⟨-, h1, h31, -⟩ := hdesks d hd
    exact ⟨h1, h31⟩
  · obtain ⟨h16, h63, h1, h31, -⟩ := hlanes l hl
    exact ⟨⟨h16, h63⟩, h1, h31⟩
end

/-- A record cut into pieces of 24 bytes is the record. -/
theorem flatMap_pieces (b : List Byte) (n : Nat) :
    (List.range n).flatMap (fun i => (b.drop (24 * i)).take 24) = b.take (24 * n) := by
  induction n with
  | zero => simp
  | succ n ih => rw [List.range_succ, List.flatMap_append, ih, Nat.mul_succ, List.take_add]; simp

/-- What an announcement that counts as valid has passed. -/
theorem validAnnouncement_eq_some_iff (t : Nat) (frames : List (Bool × List Byte)) (a : Announcement) :
    validAnnouncement t frames = some a ↔
      (∀ f ∈ frames, f.1 = true) ∧
      bytes16 (crc16 ((frames.flatMap (·.2)).take 118)) = ((frames.flatMap (·.2)).drop 118).take 2 ∧
      bitField (byteAt (frames.flatMap (·.2)) 0) 4 4 = t ∧ fieldsInRange (frames.flatMap (·.2)) = true ∧
      readAnnouncement (frames.flatMap (·.2)) = some a ∧ entriesValid a = true := by
  simp only [validAnnouncement]
  split
  · next h =>
    simp only [Bool.and_eq_true, List.all_eq_true, beq_iff_eq] at h
    obtain ⟨⟨⟨haligned, hcrc⟩, hheader⟩, hrange⟩ := h
    rw [Option.filter_eq_some_iff]
    exact ⟨fun ⟨hread, hvalid⟩ => ⟨haligned, hcrc, hheader, hrange, hread, hvalid⟩,
      fun ⟨_, _, _, _, hread, hvalid⟩ => ⟨hread, hvalid⟩⟩
  · next h =>
    simp only [Bool.and_eq_true, List.all_eq_true, beq_iff_eq] at h
    simp only [reduceCtorEq, false_iff]
    tauto

theorem validAnnouncement_announcementBytes {a : Announcement} (law : AnnouncementLaw a) :
    validAnnouncement a.station ((List.range 5).map (fun i =>
      (true, ((announcementBytes a).drop (24 * i)).take 24))) = some a := by
  have whole : ((List.range 5).map (fun i => (true, ((announcementBytes a).drop (24 * i)).take 24))).flatMap (·.2) =
      announcementBytes a := by
    rw [List.flatMap_map, flatMap_pieces]
    exact List.take_of_length_le (by rw [announcementBytes_length])
  rw [validAnnouncement_eq_some_iff, whole, take_announcementBytes, drop_announcementBytes]
  exact ⟨by simp, rfl, (read_header law).1, fieldsInRange_announcementBytes law, readAnnouncement_announcementBytes law,
    entriesValid_of_law law⟩

theorem bitField_lt (n lo width : Nat) : bitField n lo width < 2 ^ width := Nat.mod_lt _ (Nat.two_pow_pos width)

theorem mem_mapM_range {α : Type} {f : Nat → Option α} {n : Nat} {l : List α} (h : (List.range n).mapM f = some l) :
    l.length = n ∧ ∀ x ∈ l, ∃ i, f i = some x := by
  have pairs := mapM_eq_some_iff.mp h
  refine ⟨by simpa using pairs.length_eq.symm, fun x hx => ?_⟩
  obtain ⟨i, -, hi⟩ := exists_left_of_forall₂ pairs hx
  exact ⟨i, hi⟩

/-- A desk that reads back lies within Table 1-3. -/
theorem readDesk_range {b : List Byte} {i : Nat} {d : AnnDesk} (h : readDesk b i = some d) :
    d.desk < 4 ∧ (relayCode d.relay = 2 → 1 ≤ relayLanguage d.relay ∧ relayLanguage d.relay ≤ 31) ∧
    d.selectionAge ≤ 65535 ∧ d.onAirAge ≤ 65535 ∧ ∀ n ∈ d.displaced, n.station < 16 ∧ n.item < 4 := by
  unfold readDesk at h
  simp only at h
  split at h
  · next relay state hrelay _ =>
    cases h
    refine ⟨bitField_lt _ 6 2, fun hcode => ?_, ?_, ?_, fun n hn => ?_⟩
    · cases relay with
      | floor => cases hcode
      | auto => cases hcode
      | language l =>
        unfold relayOfCode at hrelay
        split at hrelay
        · cases hrelay
        · cases hrelay
        · split at hrelay
          · next hl =>
            cases hrelay
            simpa [relayLanguage] using hl
          · cases hrelay
        · cases hrelay
    · exact Nat.le_of_lt_succ (word16At_lt b _)
    · exact Nat.le_of_lt_succ (word16At_lt b _)
    · simp only [Option.mem_def] at hn
      split at hn
      · cases hn
        exact ⟨bitField_lt _ 0 4, bitField_lt _ 4 2⟩
      · cases hn
  · cases h

/-- What reads back within the ranges, with valid entries, lies within Table 1-3. -/
theorem announcementLaw_of_read {b : List Byte} {a : Announcement} (hrange : fieldsInRange b = true)
    (hread : readAnnouncement b = some a) (hvalid : entriesValid a = true) : AnnouncementLaw a := by
  obtain ⟨desks, hdesks, rfl⟩ := Option.map_eq_some_iff.mp hread
  obtain ⟨hdeskLength, hdeskRead⟩ := mem_mapM_range hdesks
  simp only [fieldsInRange, Bool.and_eq_true, decide_eq_true_eq, bne_iff_ne] at hrange
  obtain ⟨⟨⟨⟨⟨⟨⟨⟨⟨⟨⟨hw, hm⟩, hr⟩, hd⟩, hl⟩, -⟩, hlimit1⟩, hlimit6⟩, htime⟩, hunder⟩, -⟩, hargument⟩ := hrange
  simp only [entriesValid, Bool.and_eq_true, List.all_eq_true, noRepeats_iff, seatInRange, languageInRange,
    decide_eq_true_eq] at hvalid
  obtain ⟨⟨⟨⟨⟨⟨⟨vmics, vrequests⟩, vdesks⟩, vlanes⟩, dmics⟩, drequests⟩, ddesks⟩, dlanes⟩ := hvalid
  have word : ∀ i, word16At b i ≤ 65535 := fun i => Nat.le_of_lt_succ (word16At_lt b i)
  refine ⟨bitField_lt _ 4 4, byteAt_lt b 1, bitField_lt _ 4 4, bitField_lt _ 4 4, by simpa using hw, ?_, hlimit1, hlimit6,
    htime, byteAt_lt b 10, bitField_lt _ 0 5, hunder, bitField_lt _ 6 2, ?_, by simpa using hm, dmics, ?_, by simpa using hr,
    drequests, ?_, by simpa [hdeskLength] using hd, ddesks, ?_, by simpa using hl, dlanes, ?_⟩
  · intro w hw
    obtain ⟨i, -, rfl⟩ := List.mem_map.mp hw
    exact bitField_lt _ 4 4
  · intro c hc
    have small : c.argument ≤ 6 := by
      simp only [Option.mem_def] at hc
      simpa [hc] using hargument
    split
    · exact small
    · next hk =>
      obtain ⟨k, -, rfl⟩ := Option.map_eq_some_iff.mp hc
      exact if_neg hk
  · intro m hm
    obtain ⟨⟨h1, h60⟩, hnamed⟩ := vmics m hm
    obtain ⟨i, -, rfl⟩ := List.mem_map.mp hm
    refine ⟨h1, h60, bitField_lt _ 0 2, bitField_lt _ 0 5, word _, fun n hn => ?_⟩
    have item : 1 ≤ n.item ∧ n.item ≤ 60 := by
      simp only [Option.mem_def] at hn
      simpa [hn] using hnamed
    refine ⟨?_, item⟩
    simp only [readMic, Option.mem_def] at hn
    split at hn
    · cases hn
      exact bitField_lt _ 0 4
    · cases hn
  · intro r hr
    obtain ⟨h1, h60⟩ := vrequests r hr
    obtain ⟨i, -, rfl⟩ := List.mem_map.mp hr
    exact ⟨h1, h60, bitField_lt _ 0 2, word _⟩
  · intro d hd
    obtain ⟨h1, h31⟩ := vdesks d hd
    obtain ⟨i, hi⟩ := hdeskRead d hd
    obtain ⟨hdesk, hrelay, hselection, hage, hnamed⟩ := readDesk_range hi
    exact ⟨hdesk, h1, h31, hrelay, hselection, hage, hnamed⟩
  · intro l hl
    obtain ⟨⟨h16, h63⟩, h1, h31⟩ := vlanes l hl
    obtain ⟨i, -, rfl⟩ := List.mem_map.mp hl
    exact ⟨h16, h63, h1, h31, word _⟩

/-- Settles O52. -/
theorem announcementRoundTrip : Obligations.AnnouncementRoundTrip := by
  refine ⟨fun a law => ⟨announcementBytes_length a, validAnnouncement_announcementBytes law⟩, fun t frames => ?_⟩
  have valid := validAnnouncement_eq_some_iff t frames
  refine ⟨fun ⟨f, hf, hunaligned⟩ => ?_, fun hcrc => ?_, fun hstation => ?_, fun a ha => ?_⟩
  · refine Option.eq_none_iff_forall_ne_some.mpr fun a ha => ?_
    obtain ⟨haligned, -⟩ := (valid a).mp ha
    simp [haligned f hf] at hunaligned
  · refine Option.eq_none_iff_forall_ne_some.mpr fun a ha => ?_
    obtain ⟨-, hgood, -⟩ := (valid a).mp ha
    exact hcrc hgood
  · refine Option.eq_none_iff_forall_ne_some.mpr fun a ha => ?_
    obtain ⟨-, -, hheader, -⟩ := (valid a).mp ha
    have := byteAt_lt (frames.flatMap (·.2)) 0
    simp only [bitField] at hheader
    omega
  · obtain ⟨-, -, hheader, hrange, hread, hentries⟩ := (valid a).mp ha
    refine ⟨?_, announcementLaw_of_read hrange hread hentries⟩
    obtain ⟨desks, -, rfl⟩ := Option.map_eq_some_iff.mp hread
    exact hheader
end Sys2Proof.Machine
end

section
/-! SUPPORT. What a frame boundary does to each block: the end of the frame, and the beginning of the next. -/
namespace Sys2Proof.Machine

theorem mics_of_readAnnouncement {b : List Byte} {a : Announcement} (h : readAnnouncement b = some a) :
    a.mics = (List.range (micCount b)).map (readMic b) := by
  obtain ⟨desks, -, rfl⟩ := Option.map_eq_some_iff.mp h
  rfl

theorem phaseOfCode_eq_intent_iff (n : Nat) : phaseOfCode n = .intent ↔ n = 0 := by
  unfold phaseOfCode
  split <;> simp_all

/-- The sounding mics of a record, counted by their phase bits. -/
theorem soundingInRecord_announcementBytes {a : Announcement} (law : AnnouncementLaw a) :
    soundingInRecord (announcementBytes a) = (a.mics.filter (fun m => m.phase ≠ .intent)).length := by
  rw [mics_of_readAnnouncement (readAnnouncement_announcementBytes law), List.filter_map, List.length_map, soundingInRecord]
  refine congrArg List.length (List.filter_congr fun i _ => ?_)
  have place : 19 + 6 * i = 18 + 6 * i + 1 := by omega
  simp [readMic, phaseOfCode_eq_intent_iff, place, bne, beq_eq_decide]

section
variable (f : FrameIn) (s : State)

/-! ### The end of a frame -/

/-- What the frame computation puts in the outputs. -/
def mixed : Mix :=
  if s.lif.latch.compute then { s.mix with
    ownPartial := toSample (ownPartialNow s)
    paOut := toSample (floorSample s)
    downlinkOut := (List.range 8).map (fun c => toSample (downlinkSample s c))
    headphoneOut := (List.range 4).map (fun e => toSample (headphoneSample s e))
    clip := if floorClamped s then satInc 65535 s.mix.clip else s.mix.clip }
  else { s.mix with
    ownPartial := 0, paOut := 0, downlinkOut := List.replicate 8 0, headphoneOut := List.replicate 4 0 }

/-- The own announced count after the frame. -/
def announcedAfter : Nat :=
  if s.lif.latch.control.isSome && s.lif.frame == ownSlotStart s + 4 then soundingInRecord s.lif.onWire
  else s.mix.announced

/-- The flags after the frame. -/
def flagsAfter : BitVec 16 :=
  if s.lif.latch.compute && floorClamped s then s.port.flags ||| BitVec.twoPow 16 13 else s.port.flags

/-- A slot closes with this frame. -/
def slotCloses : Bool :=
  s.lif.frame < 80 && s.lif.frame % 5 == 4 && (collect s f).length == 5

/-- The frames of the slot in progress after the frame. -/
def slotFramesAfter : List (Bool × List Byte) :=
  if slotCloses f s then [] else if s.lif.frame < 80 then collect s f else s.lif.slotFrames

/-- The slot that waits for its close after the frame. -/
def closedSlotAfter : Option (Nat × List (Bool × List Byte)) :=
  if slotCloses f s then some (s.lif.frame / 5, collect s f) else s.lif.closedSlot

theorem receiveControl_eq : receiveControl f s = { s with
    lif := { s.lif with slotFrames := slotFramesAfter f s, closedSlot := closedSlotAfter f s } } := by
  have closes : slotCloses f s = true ↔ s.lif.frame < 80 ∧ s.lif.frame % 5 = 4 ∧ (collect s f).length = 5 := by
    simp [slotCloses, and_assoc]
  unfold receiveControl slotFramesAfter closedSlotAfter
  by_cases h80 : s.lif.frame < 80
  · rw [if_neg (by omega)]
    by_cases hclose : s.lif.frame % 5 = 4 ∧ (collect s f).length = 5
    · simp [Config.slotFrames, closes.mpr ⟨h80, hclose⟩, hclose]
    · have open_ : slotCloses f s = false := by
        rw [← Bool.not_eq_true, closes]
        exact fun h => hclose h.2
      simp only [open_, h80, if_true, Bool.false_eq_true, if_false]
      refine if_neg fun h => hclose ?_
      obtain ⟨h4, h5⟩ := Bool.and_eq_true_iff.mp h
      exact ⟨of_decide_eq_true h4, of_decide_eq_true h5⟩
  · have open_ : slotCloses f s = false := by
      rw [← Bool.not_eq_true, closes]
      exact fun h => h80 h.1
    rw [if_pos (by omega)]
    simp [h80, open_]

theorem takeAnnounced_eq (s : State) :
    takeAnnounced s = { s with mix := { s.mix with announced := announcedAfter s } } := by
  unfold takeAnnounced announcedAfter
  split <;> rfl

theorem computed_eq : (if s.lif.latch.compute then computeFrame (putOut f s) else silence (putOut f s)) =
    { putOut f s with mix := mixed s, port := { s.port with flags := flagsAfter s } } := by
  unfold mixed flagsAfter
  cases s.lif.latch.compute with
  | false => rfl
  | true =>
    have same : floorClamped (putOut f s) = floorClamped s := rfl
    cases hc : floorClamped s <;> simp only [computeFrame, same, hc, raiseIf, if_true, Bool.and_true, Bool.and_false] <;> rfl

theorem mixed_announced : (mixed s).announced = s.mix.announced := by
  unfold mixed
  split <;> rfl

/-- The end of a frame, block by block. -/
theorem endFrame_eq : endFrame f s = { s with
    lif := { s.lif with
      patternOut := f.pattern, lanesOut := lanesOut s f.lanes, controlOut := controlOut s f.control
      slotFrames := slotFramesAfter f s, closedSlot := closedSlotAfter f s
      lanesIn := if frameAligned s f then f.lanes else List.replicate 64 0
      superframeAligned := s.lif.superframeAligned && frameAligned s f }
    dlc := { s.dlc with uplinkIn := deliverUplinks f.uplinks s }
    booth := { s.booth with micIn := deliverDesks f.deskMics s }
    mix := { mixed s with announced := announcedAfter s }
    port := { s.port with flags := flagsAfter s } } := by
  simp only [endFrame]
  rw [computed_eq, takeAnnounced_eq, receiveControl_eq]
  have same : announcedAfter { putOut f s with mix := mixed s, port := { s.port with flags := flagsAfter s } } =
      announcedAfter s := by
    unfold announcedAfter
    dsimp only
    rw [mixed_announced]
    rfl
  rw [same]
  rfl

/-! ### The beginning of the next frame -/

/-- The control bytes of the frame that begins. -/
def nextControl : Option (List Byte) := controlFor { s with lif := { s.lif with frame := (s.lif.frame + 1) % 96 } }

/-- The station in the new frame, before the polls. -/
def turned : State := latchFrame (advanceTimer (advanceFrame f s))

theorem turned_eq : turned f s = { s with
    station := { s.station with joinTimer := s.station.joinTimer.map (fun n => n - 1) }
    lif := { s.lif with
      frame := (s.lif.frame + 1) % 96
      clock := if f.hlckEdge then .hlck else .frameTimer
      boundary := if f.hlckEdge then .hlck else .frameTimer
      markSeen := false
      acquired := false
      latch := ⟨s.station.state != .unconfigured, onLink s, s.lif.writeSet, nextControl s, []⟩
      transmitting := (nextControl s).isSome } } := rfl

theorem beginFrame_eq_polls : beginFrame f s =
    boothPollAt ((s.lif.frame + 1) % 96) (pollAt ((s.lif.frame + 1) % 96) (turned f s)) := rfl

theorem beginFrame_lif : (beginFrame f s).lif = (turned f s).lif := by simp [beginFrame_eq_polls]
end
end Sys2Proof.Machine
end

section
/-! PROOF. Counter, timer, delivery, slots and substitution at a frame boundary (O8, O9). -/
namespace Sys2Proof.Machine

/-- A frame boundary with the Joining timer running or stopped: the frame ends, and the next begins. -/
theorem exec_boundary {s : State} (f : FrameIn) (hs : Live s) (ht : s.station.joinTimer ≠ some 0) :
    exec (.frameBoundary f) s = .next (beginFrame f (endFrame f s)) := by
  rw [exec_of_live _ s hs, liveEffect, takeExpiry_of_waiting ht]

section
variable (f : FrameIn) (s : State)

theorem mixed_plan : (mixed s).plan = s.mix.plan := by
  unfold mixed
  split <;> rfl

/-- The link after a whole boundary. -/
theorem boundary_lif : (beginFrame f (endFrame f s)).lif = { s.lif with
    patternOut := f.pattern, lanesOut := lanesOut s f.lanes, controlOut := controlOut s f.control
    slotFrames := slotFramesAfter f s, closedSlot := closedSlotAfter f s
    lanesIn := if frameAligned s f then f.lanes else List.replicate 64 0
    superframeAligned := s.lif.superframeAligned && frameAligned s f
    frame := (s.lif.frame + 1) % 96
    clock := if f.hlckEdge then .hlck else .frameTimer
    boundary := if f.hlckEdge then .hlck else .frameTimer
    markSeen := false
    acquired := false
    latch := ⟨s.station.state != .unconfigured, onLink s, s.lif.writeSet, nextControl s, []⟩
    transmitting := (nextControl s).isSome } := by
  rw [beginFrame_lif, turned_eq, endFrame_eq]
  rfl

/-- What a boundary leaves of the other blocks. -/
theorem boundary_blocks : (beginFrame f (endFrame f s)).station =
      { s.station with joinTimer := s.station.joinTimer.map (fun n => n - 1) } ∧
    (beginFrame f (endFrame f s)).mix = { mixed s with announced := announcedAfter s } ∧
    (beginFrame f (endFrame f s)).port = { s.port with flags := flagsAfter s } := by
  simp only [beginFrame_eq_polls, boothPollAt_keeps, pollAt_keeps]
  rw [turned_eq, endFrame_eq]
  exact ⟨rfl, rfl, rfl⟩

theorem boothPollAt_dlc (k : Nat) : (boothPollAt k s).dlc = s.dlc := by simp

theorem pollAt_uplinks (k : Nat) : (pollAt k s).dlc.uplinks = s.dlc.uplinks := by
  unfold pollAt
  split
  · simp [sendPoll]
  · rfl

theorem collect_length_le : s.lif.frame % 5 ≠ 0 → s.lif.slotFrames.length ≠ s.lif.frame % 5 → collect s f = [] := by
  intro h0 h
  simp [collect, Config.slotFrames, h0, h]

theorem collect_first (h : s.lif.frame % 5 = 0) : collect s f = [(frameAligned s f, f.control)] := by
  simp [collect, Config.slotFrames, h]

theorem collect_next (h0 : s.lif.frame % 5 ≠ 0) (h : s.lif.slotFrames.length = s.lif.frame % 5) :
    collect s f = s.lif.slotFrames ++ [(frameAligned s f, f.control)] := by
  simp [collect, Config.slotFrames, h0, h]

theorem slotCloses_iff : slotCloses f s = true ↔ s.lif.frame < 80 ∧ s.lif.frame % 5 = 4 ∧ (collect s f).length = 5 := by
  simp [slotCloses, and_assoc]

/-- Of a slot that does not close, the frames are collected. -/
theorem slot_open (h : ¬ (s.lif.frame < 80 ∧ s.lif.frame % 5 = 4 ∧ (collect s f).length = 5)) :
    slotFramesAfter f s = (if s.lif.frame < 80 then collect s f else s.lif.slotFrames) ∧
    closedSlotAfter f s = s.lif.closedSlot := by
  have : slotCloses f s = false := by
    rw [← Bool.not_eq_true, slotCloses_iff]
    exact h
  simp [slotFramesAfter, closedSlotAfter, this]

/-- The collection of a slot, frame by frame. -/
theorem slot_spec (entry : Bool × List Byte) (hentry : entry = (f.pattern && s.lif.boundary == .hlck, f.control)) :
    (80 ≤ s.lif.frame → slotFramesAfter f s = s.lif.slotFrames ∧ closedSlotAfter f s = s.lif.closedSlot) ∧
    (s.lif.frame < 80 → s.lif.frame % 5 = 0 →
      slotFramesAfter f s = [entry] ∧ closedSlotAfter f s = s.lif.closedSlot) ∧
    (s.lif.frame < 80 → 1 ≤ s.lif.frame % 5 → s.lif.frame % 5 ≤ 3 → s.lif.slotFrames.length = s.lif.frame % 5 →
      slotFramesAfter f s = s.lif.slotFrames ++ [entry] ∧ closedSlotAfter f s = s.lif.closedSlot) ∧
    (s.lif.frame < 80 → s.lif.frame % 5 = 4 → s.lif.slotFrames.length = 4 →
      closedSlotAfter f s = some (s.lif.frame / 5, s.lif.slotFrames ++ [entry]) ∧ slotFramesAfter f s = []) ∧
    (s.lif.frame < 80 → 1 ≤ s.lif.frame % 5 → s.lif.slotFrames.length ≠ s.lif.frame % 5 →
      slotFramesAfter f s = [] ∧ closedSlotAfter f s = s.lif.closedSlot) := by
  have received : entry = (frameAligned s f, f.control) := hentry
  refine ⟨fun h => ?_, fun h h0 => ?_, fun h h1 h3 hl => ?_, fun h h4 hl => ?_, fun h h1 hl => ?_⟩
  · obtain ⟨frames, closed⟩ := slot_open f s (by omega)
    exact ⟨frames.trans (if_neg (by omega)), closed⟩
  · obtain ⟨frames, closed⟩ := slot_open f s (by omega)
    exact ⟨frames.trans ((if_pos h).trans (by rw [collect_first f s h0, received])), closed⟩
  · obtain ⟨frames, closed⟩ := slot_open f s (by omega)
    exact ⟨frames.trans ((if_pos h).trans (by rw [collect_next f s (by omega) hl, received])), closed⟩
  · have whole : collect s f = s.lif.slotFrames ++ [entry] := by rw [collect_next f s (by omega) (by omega), received]
    have closes : slotCloses f s = true := (slotCloses_iff f s).mpr ⟨h, h4, by simp [whole, hl]⟩
    simp [slotFramesAfter, closedSlotAfter, closes, whole]
  · have empty := collect_length_le f s (by omega) hl
    obtain ⟨frames, closed⟩ := slot_open f s (by simp [empty])
    exact ⟨frames.trans ((if_pos h).trans empty), closed⟩
end

/-- Settles O8. -/
theorem frameBoundaryAdvancesTheCounter : Obligations.FrameBoundaryAdvancesTheCounter := by
  refine ⟨fun s f hs ht => ?_, fun s hs => exec_of_live _ s hs, fun s f hs => ?_⟩
  · refine ⟨_, exec_boundary f hs ht, ?_⟩
    obtain ⟨station, mix, port⟩ := boundary_blocks f s
    rw [boundary_lif, station, mix, port]
    have aligned := frameAligned_iff s f
    refine ⟨rfl, rfl, rfl, rfl, by simp [aligned], fun h => by simp [aligned.mpr h], fun h => by simp [aligned, h],
      ⟨rfl, rfl, rfl, rfl, rfl, rfl, rfl, rfl⟩, ?_⟩
    have uplinks : (beginFrame f (endFrame f s)).dlc.uplinks = s.dlc.uplinks := by
      rw [beginFrame_eq_polls, boothPollAt_dlc, pollAt_uplinks, turned_eq, endFrame_eq]
    simp [mixed_plan, uplinks]
  · refine ⟨_, exec_of_live _ s hs, ?_⟩
    have same : (takeExpiry s).lif = s.lif := takeExpiry_lif s
    have frames : slotFramesAfter f (takeExpiry s) = slotFramesAfter f s := by
      simp [slotFramesAfter, slotCloses, collect, frameAligned]
    have closed : closedSlotAfter f (takeExpiry s) = closedSlotAfter f s := by
      simp [closedSlotAfter, slotCloses, collect, frameAligned]
    have count : announcedAfter (takeExpiry s) = announcedAfter s := by
      simp [announcedAfter, ownSlotStart]
    have announced : (liveEffect (.frameBoundary f) s).mix.announced = announcedAfter s := by
      rw [← count]
      exact congrArg (·.announced) (boundary_blocks f (takeExpiry s)).2.1
    have lif : (liveEffect (.frameBoundary f) s).lif.slotFrames = slotFramesAfter f s ∧
        (liveEffect (.frameBoundary f) s).lif.closedSlot = closedSlotAfter f s := by
      rw [← frames, ← closed]
      simp only [liveEffect, boundary_lif]
      exact ⟨trivial, trivial⟩
    obtain ⟨h1, h2, h3, h4, h5⟩ := slot_spec f s _ rfl
    rw [lif.1, lif.2, announced]
    refine ⟨h1, h2, h3, h4, h5, fun a law hwire hcontrol hframe => ?_, fun h => ?_⟩
    · have own : (s.lif.latch.control.isSome && s.lif.frame == ownSlotStart s + 4) = true := by
        simp [Option.isSome_iff_ne_none, hcontrol, hframe, ownSlotStart, Config.slotFrames]
      rw [announcedAfter, if_pos own, hwire, soundingInRecord_announcementBytes law]
    · rw [announcedAfter, if_neg]
      rcases h with h | h
      · simp [h]
      · simp [ownSlotStart, Config.slotFrames, h]

/-- Settles O9. -/
theorem frameBoundarySubstitutesWhatItOwns : Obligations.FrameBoundarySubstitutesWhatItOwns := by
  intro s f hs ht hl
  refine ⟨_, exec_boundary f hs ht, ?_⟩
  rw [boundary_lif]
  refine ⟨fun n hn => lanesOut_getElem? s f.lanes hl hn, rfl, rfl, rfl, fun hlatch => ⟨lanesOut_bypass hlatch hl, ?_⟩, ?_, rfl,
    ?_, fun i hi htransmitting hframe => ?_, fun h => ?_⟩
  · simp [controlOut, hlatch]
  · simp [onLink]
  · simp
  · have here : (s.lif.frame + 1) % 96 = 5 * s.station.number + i := hframe
    simp [nextControl, controlFor, htransmitting, ownSlotStart, Config.slotFrames, Config.controlBytes, here]
    omega
  · simp [nextControl, controlFor, h]
end Sys2Proof.Machine
end

section
/-! PROOF. The frame computation to the bit (O10). -/
namespace Sys2Proof.Machine

/-! ### Samples -/

/-- The numbers that a sample can hold. -/
def InSample (z : Int) : Prop := -8388608 ≤ z ∧ z ≤ 8388607

theorem toInt_toSample {z : Int} (h : InSample z) : (toSample z).toInt = z := by
  obtain ⟨h1, h2⟩ := h
  rw [toSample, BitVec.toInt_ofInt]
  exact Int.bmod_eq_of_le (by simpa using h1) (by omega)

theorem inSample_toInt (x : Sample) : InSample x.toInt := by
  have h1 := BitVec.le_toInt x
  have h2 := BitVec.toInt_lt (x := x)
  simp only [Nat.add_one_sub_one] at h1 h2
  constructor <;> omega

theorem inSample_sat (z : Int) : InSample (sat z) := by
  unfold sat InSample
  omega

theorem inSample_zero : InSample 0 := by constructor <;> decide

theorem sat_eq (z : Int) : sat z = if z < -8388608 then -8388608 else if 8388607 < z then 8388607 else z := by
  unfold sat
  split
  · omega
  · split <;> omega

section
variable (s : State)

theorem inSample_floorSample : InSample (floorSample s) := inSample_sat _

theorem inSample_listenerSample (l : Nat) : InSample (listenerSample s l) := by
  unfold listenerSample
  split
  · exact inSample_sat _
  · exact inSample_toInt _
  · exact inSample_floorSample s

theorem inSample_listenerTakes (left : Option Nat) {feed : Int} (h : InSample feed) :
    InSample (listenerTakes s left feed) := by
  unfold listenerTakes
  split
  · split
    · exact inSample_toInt _
    · exact h
  · exact h

theorem inSample_downlinkSample (c : Nat) : InSample (downlinkSample s c) := by
  unfold downlinkSample
  split
  · exact inSample_floorSample s
  · split
    · exact inSample_listenerTakes s _ (inSample_listenerSample s _)
    · exact inSample_zero

theorem inSample_headphoneSample (e : Nat) : InSample (headphoneSample s e) := by
  unfold headphoneSample
  split
  · exact inSample_floorSample s
  · exact inSample_listenerTakes s _ (inSample_listenerSample s _)

theorem floorClamped_iff : floorClamped s = true ↔ floorSample s ≠ floorRaw s := by
  simp only [floorClamped, bne_iff_ne]
  exact ne_comm

/-- The sample of a language, written out. -/
theorem languageSample_eq (l : Nat) : languageSample s l =
    max (-8388608) (min 8388607 (((s.mix.plan.producers.find? (fun p => p.language == l)).map
      (fun p => (s.booth.micIn.getD p.desk 0).toInt)).getD 0 + (floorSample s * (context s).floorUnder + 16384) / 32768)) := by
  have producer : producerSample s l = ((s.mix.plan.producers.find? (fun p => p.language == l)).map
      (fun p => (s.booth.micIn.getD p.desk 0).toInt)).getD 0 := by
    unfold producerSample
    cases s.mix.plan.producers.find? (fun p => p.language == l) <;> rfl
  rw [languageSample, producer]
  rfl

/-- What a listener hears of a language, written out. -/
theorem listenerSample_eq (l : Nat) : listenerSample s l =
    match s.mix.plan.listeners.find? (fun x => x.language == l) with
    | some ⟨_, .ownDesk _⟩ => languageSample s l
    | some ⟨_, .lane n⟩ => (s.lif.lanesIn.getD n 0).toInt
    | some ⟨_, .floor⟩ => floorSample s
    | none => floorSample s := by
  unfold listenerSample plannedSource
  cases s.mix.plan.listeners.find? (fun x => x.language == l) with
  | none => rfl
  | some x =>
    obtain ⟨_, source⟩ := x
    cases source <;> rfl

theorem listenerTakes_eq (left : Option Nat) (x : Int) : listenerTakes s left x =
    match left with
    | some n => if s.lif.frame = 0 ∧ Config.lastLaneSampleHeard = true then (s.lif.lanesIn.getD n 0).toInt else x
    | none => x := by
  cases left with
  | none => rfl
  | some n => simp [listenerTakes]
end

/-- Settles O10. -/
theorem frameComputationToTheBit : Obligations.FrameComputationToTheBit := by
  refine ⟨fun s f hs ht => ?_, fun s f hs ht hcompute => ?_⟩
  · refine ⟨_, exec_boundary f hs ht, ?_⟩
    obtain ⟨-, mix, port⟩ := boundary_blocks f s
    rw [mix, port]
    refine ⟨fun hcompute => ?_, fun hcompute => ?_⟩
    · have clamped := floorClamped_iff s
      simp only [mixed, flagsAfter, hcompute, if_true, Bool.true_and]
      refine ⟨(toInt_toSample (inSample_sat _)).trans (sat_eq _),
        (toInt_toSample (inSample_floorSample s)).trans (sat_eq (floorRaw s)), rfl, fun h => ?_, fun h => ?_⟩
      · have same : floorSample s = floorRaw s := (sat_eq (floorRaw s)).trans h
        have unclamped : floorClamped s = false := by
          rw [← Bool.not_eq_true, clamped]
          exact fun hne => hne same
        simp [unclamped]
      · have differs : floorClamped s = true := clamped.mpr fun same => h ((sat_eq (floorRaw s)).symm.trans same)
        simp [differs, satInc]
    · simp [mixed, flagsAfter, hcompute]
  · refine ⟨_, exec_boundary f hs ht, ?_⟩
    obtain ⟨-, mix, -⟩ := boundary_blocks f s
    rw [mix]
    simp only [mixed, hcompute, if_true]
    refine ⟨fun c h1 h7 => ?_, fun e he => ?_, languageSample_eq s⟩
    · have c0 : c ≠ 0 := by omega
      simp only [List.getElem?_map, List.getElem?_range (show c < 8 by omega), Option.map_some]
      rw [toInt_toSample (inSample_downlinkSample s c), downlinkSample, if_neg c0]
      cases s.mix.plan.channels.getD c none with
      | none => rfl
      | some l =>
        dsimp only
        rw [listenerTakes_eq, listenerSample_eq, languageSample_eq] <;> rfl
    · simp only [List.getElem?_map, List.getElem?_range he, Option.map_some]
      rw [toInt_toSample (inSample_headphoneSample s e), headphoneSample]
      cases s.mix.plan.headphones.getD e .floor with
      | floor => rfl
      | language l =>
        dsimp only
        rw [listenerTakes_eq, listenerSample_eq, languageSample_eq] <;> rfl
end Sys2Proof.Machine
end

section
/-! PROOF. What a frame delivers, and what a poll frame sends (O11, O12). -/
namespace Sys2Proof.Machine

section
variable (f : FrameIn) (s : State)

/-- The station after a whole boundary, but for the polls of the new frame. -/
def unpolled : State := { s with
  station := { s.station with joinTimer := s.station.joinTimer.map (fun n => n - 1) }
  lif := (turned f (endFrame f s)).lif
  dlc := { s.dlc with uplinkIn := deliverUplinks f.uplinks s }
  booth := { s.booth with micIn := deliverDesks f.deskMics s }
  mix := { mixed s with announced := announcedAfter s }
  port := { s.port with flags := flagsAfter s } }

theorem boundary_eq : beginFrame f (endFrame f s) =
    boothPollAt ((s.lif.frame + 1) % 96) (pollAt ((s.lif.frame + 1) % 96) (unpolled f s)) := by
  have ended : turned f (endFrame f s) = unpolled f s := by
    have h := endFrame_eq f s
    unfold unpolled
    generalize endFrame f s = e at h ⊢
    subst h
    rfl
  have frame : (endFrame f s).lif.frame = s.lif.frame := by rw [endFrame_eq]
  rw [beginFrame_eq_polls, ended, frame]

theorem pollAt_uplinkIn (k : Nat) : (pollAt k s).dlc.uplinkIn = s.dlc.uplinkIn := by
  unfold pollAt
  split
  · simp [sendPoll]
  · rfl

theorem boothPollAt_micIn (k : Nat) : (boothPollAt k s).booth.micIn = s.booth.micIn := by
  unfold boothPollAt
  repeat' split
  · rfl
  · simp [sendBoothPoll]
  · rfl

theorem boundary_samples : (beginFrame f (endFrame f s)).dlc.uplinkIn = deliverUplinks f.uplinks s ∧
    (beginFrame f (endFrame f s)).booth.micIn = deliverDesks f.deskMics s := by
  rw [boundary_eq, boothPollAt_dlc, pollAt_uplinkIn, boothPollAt_micIn]
  simp [unpolled]
end

theorem fieldValue_of_agreed {w : Nat} {x : Thrice (BitVec w)} (h : agreed x = true) : fieldValue x = x.first := by
  rw [agreed_iff] at h
  rw [h]
  simp [fieldValue, Thrice.same]

theorem uplinkSample_of_clean {seat : Nat} {u : UplinkSlot} (haddress : u.address.first.toNat = seat)
    (ha : u.address = .same u.address.first) (hs : u.sample = .same u.sample.first) :
    uplinkSample (some seat) (some u) = u.sample.first := by
  have a := (agreed_iff u.address).mpr ha
  have b := (agreed_iff u.sample).mpr hs
  simp [uplinkSample, fieldValue_of_agreed a, fieldValue_of_agreed b, a, b, haddress]

theorem uplinkSample_of_unclean {bound : Option Nat} {slot : Option UplinkSlot}
    (h : ∀ seat u, bound = some seat → slot = some u → ¬ (u.address.first.toNat = seat ∧
      u.address = .same u.address.first ∧ u.sample = .same u.sample.first)) : uplinkSample bound slot = 0 := by
  unfold uplinkSample
  split
  · next seat u =>
    refine if_neg fun hclean => h seat u rfl rfl ?_
    obtain ⟨⟨haddress, ha⟩, hs⟩ : ((fieldValue u.address).toNat = seat ∧ agreed u.address = true) ∧ agreed u.sample = true := by
      simpa using hclean
    rw [fieldValue_of_agreed ha] at haddress
    exact ⟨haddress, (agreed_iff _).mp ha, (agreed_iff _).mp hs⟩
  · rfl

theorem deskSample_of_clean {s : State} {e : Nat} {m : DeskMic} (hpresent : (deskOf s e).present = true)
    (hdesk : m.desk.first.toNat = e) (ha : m.desk = .same m.desk.first) (hs : m.sample = .same m.sample.first) :
    deskSample s e (some m) = m.sample.first := by
  have a := (agreed_iff m.desk).mpr ha
  have b := (agreed_iff m.sample).mpr hs
  simp [deskSample, fieldValue_of_agreed a, fieldValue_of_agreed b, a, b, hdesk, hpresent]

theorem deskSample_of_unclean {s : State} {e : Nat} {mic : Option DeskMic}
    (h : (deskOf s e).present = true → ∀ m, mic = some m → ¬ (m.desk.first.toNat = e ∧
      m.desk = .same m.desk.first ∧ m.sample = .same m.sample.first)) : deskSample s e mic = 0 := by
  unfold deskSample
  split
  · next m =>
    refine if_neg fun hclean => ?_
    obtain ⟨⟨⟨hpresent, hdesk⟩, ha⟩, hs⟩ : (((deskOf s e).present = true ∧ (fieldValue m.desk).toNat = e) ∧
        agreed m.desk = true) ∧ agreed m.sample = true := by simpa using hclean
    rw [fieldValue_of_agreed ha] at hdesk
    exact h hpresent m rfl ⟨hdesk, (agreed_iff _).mp ha, (agreed_iff _).mp hs⟩
  · rfl

/-- Settles O11. -/
theorem frameDeliversCleanSamplesOnly : Obligations.FrameDeliversCleanSamplesOnly := by
  intro s f hs ht hl
  refine ⟨_, exec_boundary f hs ht, ?_⟩
  obtain ⟨uplinks, mics⟩ := boundary_samples f s
  rw [uplinks, mics]
  have uplink : ∀ i < 6, (deliverUplinks f.uplinks s)[i]? =
      some (uplinkSample (s.dlc.uplinks[i]?).join (f.uplinks.getD i none)) := fun i hi => by
    have : s.dlc.uplinks[i]? = some s.dlc.uplinks[i] := List.getElem?_eq_getElem (by omega)
    simp [deliverUplinks, this]
  have desk : ∀ e < 4, (deliverDesks f.deskMics s)[e]? = some (deskSample s e (f.deskMics.getD e none)) := fun e he => by
    simp [deliverDesks, List.getElem?_range he]
  refine ⟨by simp [deliverUplinks, hl], by simp [deliverDesks], fun i hi seat u hseat hu ⟨h1, h2, h3⟩ => ?_, fun i hi h => ?_,
    fun e he m hpresent hm ⟨h1, h2, h3⟩ => ?_, fun e he h => ?_⟩
  · rw [uplink i hi, hseat, hu]
    exact congrArg some (uplinkSample_of_clean h1 h2 h3)
  · rw [uplink i hi, uplinkSample_of_unclean fun seat u hseat hu => h seat u ?_ hu]
    cases hx : s.dlc.uplinks[i]? <;> simp_all
  · rw [desk e he, hm]
    exact congrArg some (deskSample_of_clean hpresent h1 h2 h3)
  · rw [desk e he, deskSample_of_unclean h]
end Sys2Proof.Machine
end

section
/-! PROOF. The unit poll and the booth poll of a new frame (O12). -/
namespace Sys2Proof.Machine

/-! ### Lamps -/

section
variable {s : State} {a : Nat}

theorem unitLamp_of_full (h : (unitOf s a).fullTimer ≠ 0) : unitLamp s a = .full := by
  simp [unitLamp, Nat.pos_of_ne_zero h]

theorem inWarning_iff (m : Mic) (hm : m.phase ≠ .closing) : inWarning s m = true ↔
    m.cls ≤ 1 ∧ 0 < (context s).speakingTime ∧
      ((context s).speakingTime : Int) * 500 - m.used ≤ (context s).warningTime * 500 := by
  have sounds : sounding m.phase = true := by cases hp : m.phase <;> simp_all [sounding]
  simp only [inWarning, counted, sounds, Config.superframesPerSecond, Bool.and_eq_true, and_true, and_assoc]
  refine and_congr (decide_eq_true_iff (p := m.cls ≤ 1)) (and_congr decide_eq_true_iff ?_)
  refine decide_eq_true_iff.trans ?_
  omega

theorem unitLamp_of_sounding (h : (unitOf s a).fullTimer = 0) {m : Mic} (hm : micOf s a = some m)
    (hphase : m.phase ≠ .closing) : unitLamp s a = if inWarning s m then .warning else .opened := by
  have sounds : sounding m.phase = true := by cases hp : m.phase <;> simp_all [sounding]
  simp [unitLamp, h, hm, sounds]

theorem isIntent_iff_ne_hold (x : Stage) : isIntent x = true ↔ x ≠ .hold := by cases x <;> simp [isIntent]

theorem asks_iff : ((requestOf s a).isSome || hasPlaceClaim s a) = true ↔
    (∃ r ∈ s.floor.requests, r.seat = a) ∨ (∃ w ∈ s.claims.placeWants, w.seat = a) ∨
      ∃ c ∈ s.claims.places, c.seat = a ∧ c.stage ≠ .hold := by
  simp [requestOf, hasPlaceClaim, isIntent_iff_ne_hold]

theorem unitLamp_of_silent (h : (unitOf s a).fullTimer = 0) (hm : ∀ m, micOf s a = some m → m.phase = .closing) :
    unitLamp s a = if (requestOf s a).isSome || hasPlaceClaim s a then .request else .off := by
  have quiet : (micOf s a).any (inWarning s) = false ∧ (micOf s a).any (fun m => sounding m.phase) = false := by
    cases hx : micOf s a with
    | none => simp
    | some m => simp [inWarning, sounding, hm m hx]
  simp [unitLamp, h, quiet]

theorem deskLamp_spec (e : Nat) :
    let d := deskOf s e
    let short := ∃ l ∈ s.lanes.shortage, d.output = some l
    let wants := ∃ w ∈ s.claims.languageWants, w.desk = e
    (d.loopMark = true → deskLamp s e = .loop) ∧
    (d.loopMark = false → d.state = .onAir → short → deskLamp s e = .noLane) ∧
    (d.loopMark = false → d.state = .onAir → ¬ short → deskLamp s e = .onAir) ∧
    (d.loopMark = false → d.state = .intent ∨ d.state = .off ∧ wants → deskLamp s e = .intent) ∧
    (d.loopMark = false → d.state = .off → ¬ wants → d.engaged = true → deskLamp s e = .engaged) ∧
    (d.loopMark = false → d.state = .off → ¬ wants → d.engaged = false → deskLamp s e = .off) := by
  intro d short wants
  have shortage : s.lanes.shortage.any (fun l => d.output == some l) = true ↔ short := by simp [short]
  have wanted : s.claims.languageWants.any (fun w => w.desk == e) = true ↔ wants := by simp [wants]
  have lamp : deskLamp s e =
      if d.loopMark then .loop
      else if d.state = .onAir && s.lanes.shortage.any (fun l => d.output == some l) then .noLane
      else if d.state = .onAir then .onAir
      else if d.state = .intent || s.claims.languageWants.any (fun w => w.desk == e) then .intent
      else if d.engaged then .engaged
      else .off := rfl
  rw [lamp]
  generalize s.lanes.shortage.any (fun l => d.output == some l) = p at shortage ⊢
  generalize s.claims.languageWants.any (fun w => w.desk == e) = q at wanted ⊢
  refine ⟨fun h => by simp [h], fun h ha hs => by simp [h, ha, shortage.mpr hs], fun h ha hs => ?_, fun h hx => ?_,
    fun h ho hw he => ?_, fun h ho hw he => ?_⟩
  · have : p = false := by rw [← Bool.not_eq_true, shortage]; exact hs
    simp [h, ha, this]
  · rcases hx with hi | ⟨ho, hw⟩
    · simp [h, hi]
    · simp [h, ho, wanted.mpr hw]
  · have : q = false := by rw [← Bool.not_eq_true, wanted]; exact hw
    simp [h, ho, this, he]
  · have : q = false := by rw [← Bool.not_eq_true, wanted]; exact hw
    simp [h, ho, this, he]
end

/-! ### The polls -/

theorem isPollFrame_iff (k : Nat) : isPollFrame k = true ↔ k ∈ [0, 24, 48, 72] := by
  simp [isPollFrame, or_assoc]

/-- A change of entry i of a list, written as a pass over the list. -/
theorem modify_eq_zipIdx_map {α : Type} (l : List α) (i : Nat) (f : α → α) :
    l.modify i f = l.zipIdx.map (fun (x, j) => if j = i then f x else x) := by
  refine List.ext_getElem? fun j => ?_
  simp only [List.getElem?_modify, List.getElem?_map, List.getElem?_zipIdx, Nat.zero_add, Option.map_map]
  cases l[j]? with
  | none => rfl
  | some x => by_cases h : i = j <;> simp [h, eq_comm]

section
variable (s : State)

theorem pollAt_of_poll {k : Nat} (hk : k ∈ [0, 24, 48, 72]) (hs : s.station.state ≠ .unconfigured) :
    pollAt k s = sendPoll s := by
  simp [pollAt, (isPollFrame_iff k).mpr hk, hs]

theorem pollAt_of_none {k : Nat} (h : s.station.state = .unconfigured ∨ k ∉ [0, 24, 48, 72]) : pollAt k s = s := by
  refine if_neg fun hpoll => ?_
  obtain ⟨hstate, hframe⟩ : s.station.state ≠ .unconfigured ∧ isPollFrame k = true := by simpa using hpoll
  rcases h with h | h
  · exact hstate h
  · exact h ((isPollFrame_iff k).mp hframe)

theorem sendPoll_dlc : (sendPoll s).dlc = { s.dlc with
    units := s.dlc.units.zipIdx.map (fun (u, i) =>
      if i + 1 = s.dlc.pointer then { u with lamp := unitLamp s s.dlc.pointer } else u)
    pollOut := some (pollFor s s.dlc.pointer)
    pointer := if seatCount s ≤ s.dlc.pointer then 1 else s.dlc.pointer + 1
    dueWindow := s.dlc.window
    window := some s.dlc.pointer } := by
  have units : (modifyUnit s.dlc.pointer (fun u => { u with lamp := unitLamp s s.dlc.pointer }) s).dlc =
      { s.dlc with units := s.dlc.units.zipIdx.map (fun (u, i) =>
        if i + 1 = s.dlc.pointer then { u with lamp := unitLamp s s.dlc.pointer } else u) } := by
    unfold modifyUnit
    by_cases h0 : s.dlc.pointer = 0
    · simp [h0]
      rw [← h0]
    · have index : ∀ i, i = s.dlc.pointer - 1 ↔ i + 1 = s.dlc.pointer := fun i => by omega
      simp [h0, modify_eq_zipIdx_map, index]
  simp only [sendPoll, pollFor]
  rw [units]

theorem boothDesk_eq_some_iff (k e : Nat) : boothDesk k = some e ↔ e < 4 ∧ k = 12 + 24 * e := by
  unfold boothDesk
  repeat' split
  all_goals simp
  all_goals omega

theorem boothDesk_eq_none_iff (k : Nat) : boothDesk k = none ↔ k ∉ [12, 36, 60, 84] := by
  unfold boothDesk
  repeat' split
  all_goals simp [*]

theorem sendBoothPoll_booth (e : Nat) : (sendBoothPoll e s).booth = { s.booth with
    desks := s.booth.desks.zipIdx.map (fun (d, i) => if i = e then { d with lamp := deskLamp s e } else d)
    pollOut := some ⟨e, (deskOf s e).ack, deskLamp s e⟩
    before := some ⟨e, (deskOf s e).lamp, s.booth.pollOut⟩
    dueWindow := s.booth.window
    window := some e } := by
  simp [sendBoothPoll, modifyDesk, modify_eq_zipIdx_map]

theorem deskLamp_congr {t : State} (hbooth : t.booth.desks = s.booth.desks) (hlanes : t.lanes.shortage = s.lanes.shortage)
    (hclaims : t.claims.languageWants = s.claims.languageWants) (e : Nat) : deskLamp t e = deskLamp s e := by
  have desk : deskOf t e = deskOf s e := by simp only [deskOf, hbooth]
  simp only [deskLamp, desk, hlanes, hclaims]

theorem boundary_dlc (f : FrameIn) : (beginFrame f (endFrame f s)).dlc =
    (pollAt ((s.lif.frame + 1) % 96) (unpolled f s)).dlc := by
  rw [boundary_eq, boothPollAt_dlc]

theorem boothPollAt_of_idle {k : Nat} (h : k ∉ [12, 36, 60, 84]) :
    (boothPollAt k s).booth = { s.booth with before := none } := by
  simp only [boothPollAt, (boothDesk_eq_none_iff k).mpr h]

/-- The state that the booth poll of a boundary starts from. -/
def unpolledBooth (f : FrameIn) : State := pollAt ((s.lif.frame + 1) % 96) (unpolled f s)

theorem unpolledBooth_booth (f : FrameIn) :
    (unpolledBooth s f).booth = { s.booth with micIn := deliverDesks f.deskMics s } := by
  simp [unpolledBooth, unpolled]

theorem unpolledBooth_state (f : FrameIn) : (unpolledBooth s f).station.state = s.station.state := by
  simp [unpolledBooth, unpolled]

theorem deskOf_unpolledBooth (f : FrameIn) (e : Nat) : deskOf (unpolledBooth s f) e = deskOf s e := by
  simp [deskOf, unpolledBooth_booth]

theorem deskLamp_unpolledBooth (f : FrameIn) (e : Nat) : deskLamp (unpolledBooth s f) e = deskLamp s e :=
  deskLamp_congr s (by rw [unpolledBooth_booth]) (by simp [unpolledBooth, unpolled]) (by simp [unpolledBooth, unpolled]) e

theorem boothPollAt_of_unfitted {k e : Nat} (hk : boothDesk k = some e)
    (h : s.station.state = .unconfigured ∨ (deskOf s e).fitted = false) :
    (boothPollAt k s).booth = { s.booth with before := none, dueWindow := s.booth.window, window := none } := by
  have idle : (s.station.state != .unconfigured && (deskOf s e).fitted) = false := by
    rcases h with h | h <;> simp [h]
  simp only [boothPollAt, hk, idle]
  rfl

theorem boothPollAt_of_fitted {k e : Nat} (hk : boothDesk k = some e) (hs : s.station.state ≠ .unconfigured)
    (hfit : (deskOf s e).fitted = true) : boothPollAt k s = sendBoothPoll e s := by
  simp [boothPollAt, hk, hs, hfit]
end

/-- Settles O12: the polls are the last work of a boundary, and each reads the tables as the boundary found them. -/
theorem pollCarriesTheTables : Obligations.PollCarriesTheTables := by
  refine ⟨fun s f hs ht hstate hframe => ?_, fun s f hs ht hquiet => ?_, fun s f hs ht => ?_⟩
  · intro a
    have dlc : (beginFrame f (endFrame f s)).dlc = (sendPoll (unpolled f s)).dlc := by
      rw [boundary_dlc, pollAt_of_poll _ hframe (by exact hstate)]
    rw [sendPoll_dlc] at dlc
    refine ⟨_, pollFor s a, exec_boundary f hs ht, by rw [dlc]; rfl, rfl, rfl, rfl,
      by simp [pollFor], rfl, rfl, fun h => unitLamp_of_full h, fun h m hm hphase => ?_, fun h hm => ?_,
      by rw [dlc]; rfl, by rw [dlc]; rfl, by rw [dlc]; rfl, by rw [dlc]; rfl⟩
    · intro warns
      have lamp : (pollFor s a).lamp = if inWarning s m then .warning else .opened := unitLamp_of_sounding h hm hphase
      have warning : inWarning s m = true ↔ warns := inWarning_iff m hphase
      exact ⟨fun hw => by rw [lamp, if_pos (warning.mpr hw)], fun hw => by rw [lamp, if_neg (mt warning.mp hw)]⟩
    · intro asks
      have lamp : (pollFor s a).lamp = if (requestOf s a).isSome || hasPlaceClaim s a then .request else .off :=
        unitLamp_of_silent h hm
      have request : ((requestOf s a).isSome || hasPlaceClaim s a) = true ↔ asks := asks_iff
      exact ⟨fun ha => by rw [lamp, if_pos (request.mpr ha)], fun ha => by rw [lamp, if_neg (mt request.mp ha)]⟩
  · refine ⟨_, exec_boundary f hs ht, ?_⟩
    rw [boundary_dlc, pollAt_of_none (unpolled f s) hquiet]
    rfl
  · intro k
    have booth : (beginFrame f (endFrame f s)).booth = (boothPollAt k (unpolledBooth s f)).booth := by
      rw [boundary_eq]
      rfl
    refine ⟨_, exec_boundary f hs ht, fun hk => ?_, fun e he hk => ?_⟩
    · rw [booth, boothPollAt_of_idle _ hk, unpolledBooth_booth]
      exact ⟨rfl, rfl, rfl, rfl⟩
    · have due : boothDesk k = some e := (boothDesk_eq_some_iff k e).mpr ⟨he, hk⟩
      have idle (h : s.station.state = .unconfigured ∨ (deskOf s e).fitted = false) :
          (beginFrame f (endFrame f s)).booth = { s.booth with
            micIn := deliverDesks f.deskMics s, before := none, dueWindow := s.booth.window, window := none } := by
        rw [booth, boothPollAt_of_unfitted _ due (by rwa [unpolledBooth_state, deskOf_unpolledBooth]),
          unpolledBooth_booth]
      have sent (hstate : s.station.state ≠ .unconfigured) (hfit : (deskOf s e).fitted = true) :
          (beginFrame f (endFrame f s)).booth = (sendBoothPoll e (unpolledBooth s f)).booth := by
        rw [booth, boothPollAt_of_fitted _ due (by rwa [unpolledBooth_state]) (by rwa [deskOf_unpolledBooth])]
      simp only [sendBoothPoll_booth, unpolledBooth_booth, deskOf_unpolledBooth, deskLamp_unpolledBooth] at sent
      refine ⟨?_, fun h => ?_, fun hstate hfit => ?_⟩
      · by_cases h : s.station.state = .unconfigured ∨ (deskOf s e).fitted = false
        · rw [idle h]
        · rw [not_or, Bool.not_eq_false] at h
          rw [sent h.1 h.2]
      · rw [idle h]
        exact ⟨rfl, rfl, rfl⟩
      · rw [sent hstate hfit]
        exact ⟨_, rfl, rfl, rfl, rfl, rfl, deskLamp_spec e⟩
end Sys2Proof.Machine
end

section
/-! SUPPORT. What a reply of a delegate unit leaves, but for its keys. -/
namespace Sys2Proof.Machine

/-! ### Keys -/

theorem pendingPlace_eq_false_iff (s : State) (seat : Nat) : pendingPlace s seat = false ↔
    (∀ w ∈ s.claims.placeWants, w.seat ≠ seat) ∧ ∀ c ∈ s.claims.places, c.seat = seat → isLiveIntent c.stage = false := by
  simp [pendingPlace]

theorem markStage_eq (x : Stage) : markStage x = if x ≠ .hold then .intent true else x := by
  cases x <;> rfl

/-- The state after every want and intent of a seat is withdrawn. -/
def seatWithdrawn (a : Nat) (s : State) : State := { s with claims := { s.claims with
  placeWants := s.claims.placeWants.filter (fun w => w.seat ≠ a)
  places := s.claims.places.map (fun c => if c.seat = a ∧ c.stage ≠ .hold then { c with stage := .intent true } else c) } }

section
variable (a : Nat) (s : State)

theorem withdrawSeat_eq : withdrawSeat true a s = seatWithdrawn a s := by
  have wants : s.claims.placeWants.filter (fun w => !(w.seat == a && (true || counted w.cls))) =
      s.claims.placeWants.filter (fun w => w.seat ≠ a) := List.filter_congr fun w _ => by simp [beq_eq_decide]
  have places : s.claims.places.map (fun c => if c.seat == a && (true || counted c.cls) then
        { c with stage := markStage c.stage } else c) =
      s.claims.places.map (fun c => if c.seat = a ∧ c.stage ≠ .hold then { c with stage := .intent true } else c) :=
    List.map_congr_left fun c _ => by
      rw [markStage_eq]
      by_cases hseat : c.seat = a
      · by_cases hstage : c.stage = .hold
        · simp only [hseat, beq_self_eq_true, Bool.true_or, Bool.and_self, if_true, hstage, ne_eq, not_true, and_false,
            if_false]
          rw [← hstage, ← hseat]
        · simp [hseat, hstage]
      · simp [hseat]
  rw [withdrawSeat, wants, places, seatWithdrawn]

theorem seatWithdrawn_of_idle (h : pendingPlace s a = false) : seatWithdrawn a s = s := by
  obtain ⟨wants, places⟩ := (pendingPlace_eq_false_iff s a).mp h
  have hw : s.claims.placeWants.filter (fun w => decide (w.seat ≠ a)) = s.claims.placeWants :=
    List.filter_eq_self.mpr fun w hw => by simpa using wants w hw
  have hp : s.claims.places.map (fun c => if c.seat = a ∧ c.stage ≠ .hold then { c with stage := .intent true } else c) =
      s.claims.places := (List.map_congr_left fun c hc => by
    split
    · next hx =>
      have quiet := places c hc hx.1
      cases hstage : c.stage with
      | hold => exact absurd hstage hx.2
      | intent marked =>
        rw [hstage] at quiet
        have : marked = true := by simpa [isLiveIntent] using quiet
        subst this
        rw [← hstage]
        rfl
    · rfl).trans (List.map_id _)
  rw [seatWithdrawn, hw, hp]

theorem dropRequest_of_none (h : requestOf s a = none) : dropRequest a s = s := by
  have all : s.floor.requests.filter (fun r => r.seat != a) = s.floor.requests :=
    List.filter_eq_self.mpr fun r hr => by simpa using (requestOf_eq_none_iff s a).mp h r hr
  rw [dropRequest, all]

theorem pendingPlace_seatWithdrawn : pendingPlace (seatWithdrawn a s) a = false := by
  rw [← withdrawSeat_eq]
  exact pendingPlace_withdrawSeat a s

/-- Cancel takes the request of the seat and whatever it has pending, in any case. -/
theorem cancelSeat_eq : cancelSeat a s = seatWithdrawn a (dropRequest a s) := by
  have removed : removeRequest a s = dropRequest a s ∧ requestOf s a = none ∨
      removeRequest a s = seatWithdrawn a (dropRequest a s) := by
    unfold removeRequest
    cases hr : requestOf s a with
    | none => exact .inl ⟨by simp [dropRequest_of_none a s hr], rfl⟩
    | some r => exact .inr (by simp [withdrawSeat_eq])
  simp only [cancelSeat]
  rcases removed with ⟨h, -⟩ | h
  · rw [h]
    split
    · exact withdrawSeat_eq a _
    · next hp => exact (seatWithdrawn_of_idle a _ (by simpa using hp)).symm
  · rw [h, pendingPlace_seatWithdrawn]
    rfl

theorem chairRequest_eq (c : RoomCommand) : chairRequest c s =
    if s.room.queue.length < 4 then { s with room := { s.room with queue := s.room.queue ++ [c] } }
    else { s with port := { s.port with flags := s.port.flags ||| BitVec.twoPow 16 6 } } := by
  have h : s.room.queue.length ≥ 4 ↔ ¬ s.room.queue.length < 4 := by omega
  by_cases hc : s.room.queue.length < 4
  · rw [if_pos hc, chairRequest, if_neg (show ¬ s.room.queue.length ≥ Config.queueEntries from by
      rw [ge_iff_le, not_le]; exact hc), enqueue]
  · rw [if_neg hc, chairRequest, if_pos (show s.room.queue.length ≥ Config.queueEntries from by
      rw [ge_iff_le]; exact not_lt.mp hc)]
    rfl
end

/-! ### What a key press leaves of the units and the flags -/

/-- From s to t, the Full timer of unit a at most is another, and of the flags RequestRefused alone is new. -/
structure Pressed (a : Nat) (s t : State) : Prop where
  others : ∀ b, b ≠ a → unitOf t b = unitOf s b
  unit : unitOf t a = { unitOf s a with fullTimer := (unitOf t a).fullTimer }
  flags : ∀ n, n ≠ 6 → t.port.flags.getLsbD n = s.port.flags.getLsbD n

namespace Pressed
variable {a : Nat} {s t v : State}

theorem of_eq (hunits : t.dlc.units = s.dlc.units) (hflags : t.port.flags = s.port.flags) : Pressed a s t := by
  have unit : ∀ b, unitOf t b = unitOf s b := fun b => by simp only [unitOf, hunits]
  exact ⟨fun b _ => unit b, by rw [unit], fun n _ => by rw [hflags]⟩

theorem trans (h : Pressed a s t) (k : Pressed a t v) : Pressed a s v where
  others b hb := (k.others b hb).trans (h.others b hb)
  unit := by rw [k.unit, h.unit]
  flags n hn := (k.flags n hn).trans (h.flags n hn)

theorem raised : Pressed a s (raise .requestRefused s) where
  others _ _ := rfl
  unit := rfl
  flags n hn := by
    rw [Bool.eq_iff_iff, raise_getLsbD]
    exact or_iff_left hn

theorem modified (f : UnitEntry → UnitEntry) (hf : ∀ u, f u = { u with fullTimer := (f u).fullTimer }) :
    Pressed a s (modifyUnit a f s) := by
  have flags : (modifyUnit a f s).port = s.port := by simp
  have unit : ∀ b, unitOf (modifyUnit a f s) b = unitOf s b ∨ b = a ∧ unitOf (modifyUnit a f s) b = f (unitOf s b) := by
    intro b
    by_cases hb : b = 0
    · exact .inl (by simp [unitOf, hb])
    by_cases ha : a = 0
    · exact .inl (by simp [modifyUnit, ha])
    by_cases hab : b = a
    · subst hab
      by_cases hl : b ≤ s.dlc.units.length
      · exact .inr ⟨rfl, by rw [unitOf_modifyUnit b b f s (by omega) (by omega) hl, if_pos rfl]⟩
      · refine .inl ?_
        have h1 : s.dlc.units[b - 1]? = none := List.getElem?_eq_none (by omega)
        simp [unitOf, modifyUnit, hb, List.getD_eq_getElem?_getD, h1]
    · refine .inl ?_
      have : a - 1 ≠ b - 1 := by omega
      simp [unitOf, modifyUnit, hb, ha, List.getD_eq_getElem?_getD, this]
  refine ⟨fun b hb => ?_, ?_, fun n _ => by rw [flags]⟩
  · exact (unit b).resolve_right fun h => hb h.1
  · rcases unit a with h | ⟨-, h⟩
    · rw [h]
    · rw [h]
      exact hf _
end Pressed

section
variable (a : Nat) (s : State)

theorem pressed_refusePress : Pressed a s (refusePress a s) :=
  Pressed.trans (.modified _ fun u => by split <;> rfl) .raised

theorem pressed_createRequest : Pressed a s (createRequest a s) :=
  Pressed.trans (t := { s with floor := { s.floor with
    requests := insertBy requestBefore ⟨a, seatClass s a, 0⟩ s.floor.requests } }) (.of_eq rfl rfl) (.modified _ fun _ => rfl)

theorem pressed_filePlaceWant {w : PlaceWant} (hw : w.seat = a) : Pressed a s (filePlaceWant w s) := by
  unfold filePlaceWant
  subst hw
  repeat' split
  · exact pressed_refusePress _ s
  · exact .of_eq rfl rfl
  · exact .of_eq rfl rfl
  · exact .of_eq rfl rfl

theorem pressed_pressIdle : Pressed a s (pressIdle a s) := by
  unfold pressIdle
  split
  · unfold pressIdleFree
    split
    · exact pressed_refusePress a s
    · exact pressed_filePlaceWant a s rfl
  · unfold pressIdleQueue
    repeat' split
    · exact pressed_refusePress a s
    · exact pressed_createRequest a s
    · exact pressed_refusePress a s
    · exact pressed_filePlaceWant a s rfl
  · unfold pressIdleOverride
    repeat' split
    · exact pressed_refusePress a s
    · exact pressed_filePlaceWant a s rfl
    · exact pressed_filePlaceWant a s rfl
    · exact pressed_filePlaceWant a s rfl
    · exact pressed_refusePress a s

theorem pressed_micPress : Pressed a s (micPress a s) := by
  unfold micPress
  split
  · exact .of_eq rfl rfl
  · exact .of_eq rfl rfl
  · unfold removeRequest
    split <;> exact .of_eq rfl rfl
  · exact .of_eq rfl rfl
  · exact pressed_pressIdle a s

theorem pressed_chairRequest (c : RoomCommand) : Pressed a s (chairRequest c s) := by
  unfold chairRequest
  split
  · exact .raised
  · exact .of_eq rfl rfl

theorem pressed_dispatchKeys (k : Keys) : Pressed a s (dispatchKeys a k s) := by
  have mic : Pressed a s (if k.mic then micPress a s else s) := by
    split
    · exact pressed_micPress a s
    · exact .of_eq rfl rfl
  have cancel : ∀ v, Pressed a v (if k.cancel then cancelSeat a v else v) := fun v => by
    split
    · rw [cancelSeat_eq]
      exact .of_eq rfl rfl
    · exact .of_eq rfl rfl
  have chair : ∀ (p : Bool) (c : RoomCommand) (v : State), Pressed a v (if p then chairRequest c v else v) := fun p c v => by
    split
    · exact pressed_chairRequest a v c
    · exact .of_eq rfl rfl
  unfold dispatchKeys
  exact (mic.trans ((cancel _).trans (chair _ _ _))).trans (chair _ _ _)
end

/-! ### Seat channels of a state with the same tables -/

section
variable {s t : State}

theorem leaveAssignment_congr (h : t.seats = s.seats) (a : Nat) (w : Nat → Nat) :
    (leaveAssignment a w t).seats = (leaveAssignment a w s).seats := by
  have left : (assign a none t).seats = (assign a none s).seats := by
    unfold assign
    split
    · exact h
    · simp [h]
  have granted : ∀ {x y : State} (c : Nat), x.seats = y.seats → (grantFreed c w x).seats = (grantFreed c w y).seats := by
    intro x y c hxy
    unfold grantFreed
    rw [hxy]
    split
    · simp [setChannel, hxy]
    · simp [foldl_assign, setChannel]
  simp only [leaveAssignment, assignmentOf, channelOf, h]
  repeat' split
  · exact left
  · simp only [left]
  · exact left
  · exact granted _ left
  · simp only [setChannel, left]

theorem assignSelection_congr (h : t.seats = s.seats) (a sel : Nat) :
    (assignSelection a sel t).seats = (assignSelection a sel s).seats := by
  have carried : channelFor t sel = channelFor s sel := by simp only [channelFor, channelOf, h]
  have free : freeChannel t = freeChannel s := by simp only [freeChannel, channelOf, h]
  have channel : ∀ c, channelOf t c = channelOf s c := fun c => by simp only [channelOf, h]
  have assigned : ∀ (x y : State) (c : Option Nat), x.seats = y.seats → (assign a c x).seats = (assign a c y).seats := by
    intro x y c hxy
    unfold assign
    split
    · exact hxy
    · simp [hxy]
  simp only [assignSelection, carried, free, channel]
  split
  · exact assigned _ _ _ h
  · split
    · exact assigned _ _ _ (by simp [setChannel, h])
    · split
      · exact assigned _ _ _ (by simp [setChannel, h])
      · simpa using assigned _ _ _ (by simp [h])

/-- No channel is left for the selection that unit a turns to. -/
def shortOf (a sel : Nat) (s : State) : Prop :=
  sel ≠ 0 ∧ channelFor (dropSelection a s) sel = none ∧ freeChannel (dropSelection a s) = none

theorem assignSelection_flags (a sel : Nat) (s : State) (n : Nat) : (assignSelection a sel s).port.flags.getLsbD n = true ↔
    s.port.flags.getLsbD n = true ∨ n = 12 ∧ sel ≠ 0 ∧ channelFor s sel = none ∧ freeChannel s = none := by
  by_cases hsel : sel = 0
  · simp [assignSelection, hsel]
  · cases hc : channelFor s sel with
    | some c => simp [assignSelection, hsel, hc]
    | none =>
      cases hf : freeChannel s with
      | some c => simp [assignSelection, hsel, hc, hf]
      | none =>
        have taken : (assign a (some 0) { s with seats := { s.seats with deferred := s.seats.deferred ++ [a] } }).port =
            s.port := by simp
        simp only [assignSelection, hsel, hc, hf, if_false]
        rw [raise_getLsbD, taken]
        simp [flagBit, hsel]

theorem handOverSelection_flags (a sel : Nat) (s : State) (n : Nat) :
    (handOverSelection a sel s).port.flags.getLsbD n = true ↔ s.port.flags.getLsbD n = true ∨ n = 12 ∧ shortOf a sel s := by
  unfold handOverSelection
  rw [assignSelection_flags]
  simp [shortOf, dropSelection]

theorem handOverSelection_congr (h : t.seats = s.seats) (hsel : selectionOf t = selectionOf s) (a sel : Nat) :
    (handOverSelection a sel t).seats = (handOverSelection a sel s).seats ∧ (shortOf a sel t ↔ shortOf a sel s) := by
  have left : (dropSelection a t).seats = (dropSelection a s).seats := by
    unfold dropSelection
    rw [hsel]
    exact leaveAssignment_congr h a _
  refine ⟨assignSelection_congr left a sel, ?_⟩
  simp only [shortOf, channelFor, freeChannel, channelOf, left]
end
end Sys2Proof.Machine
end

section
/-! PROOF. A good reply of a delegate unit, and a window without one (O39, O40). -/
namespace Sys2Proof.Machine

/-! ### A good reply -/

section
variable {s : State} {a : Nat}

theorem heardUnit_seats (c : ReplyClass) : (heardUnit a c s).seats = s.seats := by simp [heardUnit]

theorem heardUnit_units (c : ReplyClass) : (heardUnit a c s).dlc.units.length = s.dlc.units.length := by simp [heardUnit]

theorem selectionOf_heardUnit (h1 : 1 ≤ a) (h60 : a ≤ s.dlc.units.length) (c : ReplyClass) :
    selectionOf (heardUnit a c s) = selectionOf s := by
  funext b
  unfold selectionOf
  rw [unitOf_heardUnit h1 h60]
  by_cases hb : b = a <;> simp [hb]

/-- The reply is of a Present unit whose selection stands. -/
def sameSelection (a sel : Nat) (s : State) : Prop := (unitOf s a).present = true ∧ (unitOf s a).selection = sel

theorem takeSelection_of_same {sel : Nat} {fresh : Bool} (h : fresh = false) (hsel : (unitOf s a).selection = sel) :
    takeSelection a sel fresh s = s := by
  simp [takeSelection, h, hsel]

theorem takeSelection_of_new {sel : Nat} {fresh : Bool} (h : fresh = true ∨ (unitOf s a).selection ≠ sel) :
    takeSelection a sel fresh s = modifyUnit a (fun u => { u with selection := sel }) (handOverSelection a sel s) := by
  unfold takeSelection
  rw [if_pos (by simpa using h)]

theorem unitOf_takeSelection (h1 : 1 ≤ a) (h60 : a ≤ s.dlc.units.length) (sel : Nat) (fresh : Bool) (b : Nat) :
    unitOf (takeSelection a sel fresh s) b = if b = a then { unitOf s a with selection := sel } else unitOf s b := by
  by_cases h : fresh = true ∨ (unitOf s a).selection ≠ sel
  · have units : (handOverSelection a sel s).dlc = s.dlc := by simp
    have unit : ∀ x, unitOf (handOverSelection a sel s) x = unitOf s x := fun x => by simp only [unitOf, units]
    rw [takeSelection_of_new h]
    by_cases hb : b = 0
    · simp [hb, unitOf, show 0 ≠ a by omega]
    · rw [unitOf_modifyUnit a b _ _ h1 (by omega) (by rw [units]; exact h60), unit, unit]
  · obtain ⟨hf, hsel⟩ : fresh = false ∧ (unitOf s a).selection = sel := by simpa using h
    rw [takeSelection_of_same hf hsel]
    split
    · next hb => rw [hb, ← hsel]
    · rfl

theorem takeSelection_units (sel : Nat) (fresh : Bool) :
    (takeSelection a sel fresh s).dlc.units.length = s.dlc.units.length := by
  unfold takeSelection
  split <;> simp

theorem takeTag_units (tag : Nat) : (takeTag a tag s).dlc.units.length = s.dlc.units.length := by
  unfold takeTag
  split
  · rfl
  · simp [tagChanged]

theorem unitOf_takeTag (h1 : 1 ≤ a) (h60 : a ≤ s.dlc.units.length) (tag b : Nat) :
    unitOf (takeTag a tag s) b = if b = a then { unitOf s a with tag := some tag } else unitOf s b := by
  unfold takeTag
  split
  · next h =>
    split
    · next hb => rw [hb, ← h]
    · rfl
  · by_cases hb : b = 0
    · simp [hb, unitOf, show 0 ≠ a by omega]
    · exact unitOf_modifyUnit a b _ _ h1 (by omega) h60

theorem takeTag_floor (tag : Nat) : (takeTag a tag s).floor = { s.floor with mics := s.floor.mics.map (fun m =>
    if m.seat = a ∧ (unitOf s a).tag ≠ some tag then { m with tag := tag } else m) } := by
  unfold takeTag
  split
  · next h => simp [h]
  · next h => simp [tagChanged, h]

variable (c : ReplyClass) (r : UnitContent)

theorem unitOf_reportedUnit (h1 : 1 ≤ a) (h60 : a ≤ s.dlc.units.length) (b : Nat) :
    unitOf (reportedUnit a c r s) b = if b = a then { unitOf s a with
      miss := 0, noise := noiseAfter c (unitOf s a).noise, present := true, ack := !(unitOf s a).ack
      selection := r.selection, tag := some r.tag, keys := r.keys } else unitOf s b := by
  have heard : a ≤ (heardUnit a c s).dlc.units.length := by rw [heardUnit_units]; exact h60
  have chosen : a ≤ (takeSelection a r.selection (!(unitOf s a).present) (heardUnit a c s)).dlc.units.length := by
    rw [takeSelection_units]
    exact heard
  have tagged : a ≤ (takeTag a r.tag
      (takeSelection a r.selection (!(unitOf s a).present) (heardUnit a c s))).dlc.units.length := by
    rw [takeTag_units]
    exact chosen
  by_cases hb : b = 0
  · simp [hb, unitOf, show 0 ≠ a by omega]
  · rw [reportedUnit, unitOf_modifyUnit a b _ _ h1 (by omega) tagged, unitOf_takeTag h1 chosen, unitOf_takeTag h1 chosen,
      unitOf_takeSelection h1 heard, unitOf_takeSelection h1 heard, unitOf_heardUnit h1 h60, unitOf_heardUnit h1 h60]
    by_cases hba : b = a <;> simp [hba]

theorem reportedUnit_room : (reportedUnit a c r s).claims = s.claims ∧ (reportedUnit a c r s).room = s.room ∧
    (reportedUnit a c r s).dlc.uplinks = s.dlc.uplinks := by
  simp [reportedUnit, heardUnit]

theorem reportedUnit_floor (h1 : 1 ≤ a) (h60 : a ≤ s.dlc.units.length) : (reportedUnit a c r s).floor =
    { s.floor with mics := s.floor.mics.map (fun m =>
      if m.seat = a ∧ (unitOf s a).tag ≠ some r.tag then { m with tag := r.tag } else m) } := by
  have heard : a ≤ (heardUnit a c s).dlc.units.length := by rw [heardUnit_units]; exact h60
  have tag : (unitOf (takeSelection a r.selection (!(unitOf s a).present) (heardUnit a c s)) a).tag = (unitOf s a).tag := by
    rw [unitOf_takeSelection h1 heard, if_pos rfl, unitOf_heardUnit h1 h60, if_pos rfl]
  have floor : (takeSelection a r.selection (!(unitOf s a).present) (heardUnit a c s)).floor = s.floor := by
    simp [heardUnit]
  simp only [reportedUnit, modifyUnit_keeps, takeTag_floor, tag, floor]

theorem heardUnit_flags (n : Nat) : (heardUnit a c s).port.flags.getLsbD n = true ↔
    s.port.flags.getLsbD n = true ∨ n = 8 ∧ (unitOf s a).present = false := by
  unfold heardUnit
  by_cases h : (unitOf s a).present = true
  · simp [raiseIf, h]
  · rw [Bool.not_eq_true] at h
    simp only [raiseIf, h, Bool.not_false, if_true]
    rw [raise_getLsbD]
    simp [flagBit]

theorem reportedUnit_port : (reportedUnit a c r s).port =
    (takeSelection a r.selection (!(unitOf s a).present) (heardUnit a c s)).port := by
  simp [reportedUnit]

theorem reportedUnit_seats : (reportedUnit a c r s).seats =
    (takeSelection a r.selection (!(unitOf s a).present) (heardUnit a c s)).seats := by
  simp [reportedUnit]

theorem reportedUnit_of_same (h1 : 1 ≤ a) (h60 : a ≤ s.dlc.units.length) (h : sameSelection a r.selection s) :
    (reportedUnit a c r s).seats = s.seats ∧ ∀ n, (reportedUnit a c r s).port.flags.getLsbD n = true ↔
      s.port.flags.getLsbD n = true := by
  obtain ⟨hp, hsel⟩ := h
  have kept : takeSelection a r.selection (!(unitOf s a).present) (heardUnit a c s) = heardUnit a c s :=
    takeSelection_of_same (by simp [hp]) (by rw [unitOf_heardUnit h1 h60, if_pos rfl]; exact hsel)
  rw [reportedUnit_seats, reportedUnit_port, kept]
  exact ⟨heardUnit_seats c, fun n => by rw [heardUnit_flags, hp]; simp⟩

theorem reportedUnit_of_new (h1 : 1 ≤ a) (h60 : a ≤ s.dlc.units.length) (h : ¬ sameSelection a r.selection s) :
    (reportedUnit a c r s).seats = (handOverSelection a r.selection s).seats ∧
    ∀ n, (reportedUnit a c r s).port.flags.getLsbD n = true ↔ s.port.flags.getLsbD n = true ∨
      n = 8 ∧ (unitOf s a).present = false ∨ n = 12 ∧ shortOf a r.selection s := by
  have new : takeSelection a r.selection (!(unitOf s a).present) (heardUnit a c s) =
      modifyUnit a (fun u => { u with selection := r.selection }) (handOverSelection a r.selection (heardUnit a c s)) := by
    refine takeSelection_of_new ?_
    rw [unitOf_heardUnit h1 h60, if_pos rfl]
    by_cases hp : (unitOf s a).present = true
    · exact .inr fun hsel => h ⟨hp, hsel⟩
    · exact .inl (by simp [hp])
  obtain ⟨seats, short⟩ := handOverSelection_congr (heardUnit_seats (a := a) (s := s) c)
    (selectionOf_heardUnit h1 h60 c) a r.selection
  rw [reportedUnit_seats, reportedUnit_port, new]
  refine ⟨by simpa using seats, fun n => ?_⟩
  rw [show (modifyUnit a (fun u => { u with selection := r.selection })
    (handOverSelection a r.selection (heardUnit a c s))).port = (handOverSelection a r.selection (heardUnit a c s)).port
    by simp, handOverSelection_flags, heardUnit_flags, short, or_assoc]
end

/-! ### The window -/

section
variable {s : State} {a : Nat}

theorem takeWindow_dlc : ∃ w d, takeWindow s = { s with dlc := { s.dlc with window := w, dueWindow := d } } := by
  unfold takeWindow
  split
  · exact ⟨_, _, rfl⟩
  · exact ⟨_, _, rfl⟩

theorem exec_pollWindowClose (hs : Live s) (h : closingWindow s = some a) (reply : Option UnitReply) :
    exec (.pollWindowClose reply) s = .next (closeWindow a reply (takeWindow s)) := by
  rw [exec_of_live _ s hs, liveEffect, pollWindowCloseOp, h]

theorem unitAgreed_iff (r : UnitReply) : unitAgreed r = true ↔
    r.restAgreed = true ∧ r.address = .same r.address.first ∧ r.mic = .same r.mic.first ∧
      r.cancel = .same r.cancel.first ∧ r.priority = .same r.priority.first ∧ r.next = .same r.next.first ∧
      r.selection = .same r.selection.first ∧ r.tag = .same r.tag.first := by
  simp only [unitAgreed, Bool.and_eq_true, agreed_iff, and_assoc]

/-- A reply with the right address and a tag is good: clean where all its samples agree, and otherwise noisy. -/
theorem classifyUnit_of_good {r : UnitReply} (hended : r.ended = true) (hframed : r.framed = true)
    (haddress : (fieldValue r.address).toNat = a) (htag : fieldValue r.tag ≠ 0) :
    classifyUnit a (some r) = if unitAgreed r then .clean else .noisy := by
  have tag : (fieldValue r.tag).toNat ≠ 0 := fun h => htag (BitVec.eq_of_toNat_eq h)
  have good : (!r.ended || !r.framed || (unitContent r).address != a || (unitContent r).tag == 0) = false := by
    simp [hended, hframed, unitContent, haddress, tag]
  simp [classifyUnit, good]

theorem classifyUnit_of_bad {reply : Option UnitReply} (h : ∀ r, reply = some r →
      r.ended = false ∨ r.framed = false ∨ (fieldValue r.address).toNat ≠ a ∨ fieldValue r.tag = 0) :
    classifyUnit a reply = .missing ∨ classifyUnit a reply = .malformed := by
  cases reply with
  | none => exact .inl rfl
  | some r =>
    right
    have bad : (!r.ended || !r.framed || (unitContent r).address != a || (unitContent r).tag == 0) = true := by
      rcases h r rfl with h | h | h | h <;> simp [h, unitContent]
    simp [classifyUnit, bad]

theorem closeWindow_of_good {r : UnitReply} (h : classifyUnit a (some r) = .clean ∨ classifyUnit a (some r) = .noisy) :
    closeWindow a (some r) s = goodReply a (classifyUnit a (some r)) (unitContent r) s := by
  unfold closeWindow
  rcases h with h | h <;> simp [h]

theorem closeWindow_of_bad {reply : Option UnitReply}
    (h : classifyUnit a reply = .missing ∨ classifyUnit a reply = .malformed) :
    closeWindow a reply s = badReply a s := by
  unfold closeWindow
  rcases h with h | h <;> simp [h]
end

theorem assign_assigned_length (a : Nat) (c : Option Nat) (s : State) :
    (assign a c s).seats.assigned.length = s.seats.assigned.length := by
  unfold assign
  split <;> simp

theorem leaveAssignment_assigned_length (a : Nat) (w : Nat → Nat) (s : State) :
    (leaveAssignment a w s).seats.assigned.length = s.seats.assigned.length := by
  have granted : ∀ (c : Nat) (v : State), (grantFreed c w v).seats.assigned.length = v.seats.assigned.length := by
    intro c v
    unfold grantFreed
    split
    · rfl
    · simp [foldl_assign, setChannel]
  simp only [leaveAssignment]
  repeat' split
  · exact assign_assigned_length a none s
  · exact assign_assigned_length a none s
  · exact assign_assigned_length a none s
  · rw [granted, assign_assigned_length]
  · exact assign_assigned_length a none s

/-- A good reply, with the address a and at state s, taken. -/
theorem reportedUnit_assigned {s : State} {a : Nat} (law : ChannelLaw s) (h1 : 1 ≤ a) (h60 : a ≤ 60) (c : ReplyClass)
    (r : UnitContent) : ∃ x, assignmentOf (reportedUnit a c r s) a = some x := by
  obtain ⟨hchannels, hassigned, hunits, -, -, -, present, -⟩ := law
  have range : a ≤ s.dlc.units.length := by omega
  by_cases h : sameSelection a r.selection s
  · have assigned : (assignmentOf s a).isSome = true := by rw [← present a (by omega) (by omega)]; exact h.1
    simpa [assignmentOf, (reportedUnit_of_same c r h1 range h).1] using Option.isSome_iff_exists.mp assigned
  · have seats := (reportedUnit_of_new c r h1 range h).1
    have ha : a ≠ 0 := by omega
    have given : ∀ (v : State) (x : Nat), v.seats.assigned.length = 60 → assignmentOf (assign a (some x) v) a = some x := by
      intro v x hv
      simp [assignmentOf, assign, ha, List.getD_eq_getElem?_getD, show a - 1 < v.seats.assigned.length by omega]
    have left : (leaveAssignment a (selectionOf s) s).seats.assigned.length = 60 := by
      rw [leaveAssignment_assigned_length, hassigned]
    have assigned : ∃ x, assignmentOf (handOverSelection a r.selection s) a = some x := by
      simp only [handOverSelection, assignSelection]
      repeat' split
      · exact ⟨_, given _ _ left⟩
      · exact ⟨_, given _ _ left⟩
      · exact ⟨_, given _ _ left⟩
      · exact ⟨_, given _ _ left⟩
    simpa [assignmentOf, seats] using assigned

/-- Settles O39. -/
theorem goodUnitReply : Obligations.GoodUnitReply := by
  refine ⟨⟨fun s a r hs hsize hchannel hclose h1 h60 hended hframed haddress htag => ?_, fun w x i => ?_, fun x => ?_⟩,
    fun s a k => ?_⟩
  · intro keys tag clean
    obtain ⟨-, -, -, -, hunits, -, -⟩ := hsize
    obtain ⟨w, d, taken⟩ := takeWindow_dlc (s := s)
    have range : a ≤ (takeWindow s).dlc.units.length := by rw [taken]; exact hunits ▸ h60
    have unit : ∀ b, unitOf (takeWindow s) b = unitOf s b := fun b => by rw [taken]; rfl
    have law : ChannelLaw (takeWindow s) := by rw [taken]; exact hchannel
    have cls := classifyUnit_of_good hended hframed haddress htag
    generalize hc : classifyUnit a (some r) = c at cls
    have good : closeWindow a (some r) (takeWindow s) = dispatchKeys a keys (reportedUnit a c (unitContent r) (takeWindow s)) := by
      rw [closeWindow_of_good (by rw [hc, cls]; by_cases h : unitAgreed r = true <;> simp [h]), hc, goodReply_eq]
      rfl
    have reported := unitOf_reportedUnit (s := takeWindow s) c (unitContent r) h1 range
    obtain ⟨claims, room, uplinks⟩ := reportedUnit_room (s := takeWindow s) (a := a) c (unitContent r)
    have floor := reportedUnit_floor (s := takeWindow s) c (unitContent r) h1 range
    have pressed := pressed_dispatchKeys a (reportedUnit a c (unitContent r) (takeWindow s)) keys
    have seats : (dispatchKeys a keys (reportedUnit a c (unitContent r) (takeWindow s))).seats =
      (reportedUnit a c (unitContent r) (takeWindow s)).seats := by simp
    have window : (takeWindow s).seats = s.seats ∧ (takeWindow s).claims = s.claims ∧ (takeWindow s).room = s.room ∧
      (takeWindow s).floor = s.floor ∧ (takeWindow s).port = s.port ∧ (takeWindow s).dlc.uplinks = s.dlc.uplinks := by
      rw [taken]; exact ⟨rfl, rfl, rfl, rfl, rfl, rfl⟩
    obtain ⟨wseats, wclaims, wroom, wfloor, wport, wuplinks⟩ := window
    have own : unitOf (dispatchKeys a keys (reportedUnit a c (unitContent r) (takeWindow s))) a = _ := pressed.unit
    rw [reported a, if_pos rfl, unit] at own
    have same_iff : sameSelection a (unitContent r).selection (takeWindow s) ↔
      (unitOf s a).present = true ∧ (unitOf s a).selection = (fieldValue r.selection).toNat := by
      rw [sameSelection, unit]; rfl
    obtain ⟨handed, short⟩ := handOverSelection_congr wseats (by funext b; simp only [selectionOf, unit]) a
      (unitContent r).selection
    refine ⟨reportedUnit a c (unitContent r) (takeWindow s), _, exec_pollWindowClose hs hclose _, good, by rw [claims, wclaims],
      by rw [room, wroom], by rw [floor, wfloor], by rw [floor, wfloor, unit]; rfl, ?_⟩
    rw [good]
    have flags : ∀ n, n ≠ 6 → ((dispatchKeys a keys (reportedUnit a c (unitContent r) (takeWindow s))).port.flags.getLsbD n =
        true ↔ (reportedUnit a c (unitContent r) (takeWindow s)).port.flags.getLsbD n = true) := fun n hn => by
      rw [pressed.flags n hn]
    refine ⟨by rw [own], by rw [own], by rw [own], by rw [own]; rfl, by rw [own]; rfl, by rw [own]; rfl, ?_,
      ⟨fun same => ?_, fun new => ?_, ?_⟩, ?_, ?_, fun b _ hb1 hb => ?_, ?_⟩
    · rw [own, cls]
      by_cases hclean : unitAgreed r = true
      · have : clean := (unitAgreed_iff r).mp hclean
        simp [noiseAfter, hclean, this]
      · have : ¬ clean := mt (unitAgreed_iff r).mpr hclean
        simp [noiseAfter, hclean, this, satInc]
    · rw [seats, (reportedUnit_of_same c (unitContent r) h1 range (same_iff.mpr same)).1, wseats]
    · rw [seats, (reportedUnit_of_new c (unitContent r) h1 range (mt same_iff.mp new)).1, handed]
      rfl
    · rw [flags 12 (by decide), handOverSelection_flags, ← same_iff]
      by_cases same : sameSelection a (unitContent r).selection (takeWindow s)
      · rw [(reportedUnit_of_same c (unitContent r) h1 range same).2, wport]
        simp [same]
      · rw [(reportedUnit_of_new c (unitContent r) h1 range same).2, wport, short]
        simp only [same, not_false_eq_true, true_and, show (12 : Nat) ≠ 8 by decide, false_and, false_or]
        exact ⟨Or.imp_right Or.inr, fun h => h.elim .inl id⟩
    · simpa [assignmentOf, seats] using reportedUnit_assigned law h1 h60 c (unitContent r)
    · have kept : (dispatchKeys a keys (reportedUnit a c (unitContent r) (takeWindow s))).dlc.uplinks =
        (reportedUnit a c (unitContent r) (takeWindow s)).dlc.uplinks := by simp
      rw [kept, uplinks, wuplinks]
    · rw [pressed.others b hb, reported, if_neg hb, unit]
    · rw [flags 8 (by decide), ← unit, ← wport]
      by_cases same : sameSelection a (unitContent r).selection (takeWindow s)
      · rw [(reportedUnit_of_same c (unitContent r) h1 range same).2]
        simp [same.1]
      · rw [(reportedUnit_of_new c (unitContent r) h1 range same).2]
        simp
  · rw [fieldValue_getLsbD]
    exact majority_iff _ _ _
  · exact majority_iff _ _ _
  · intro chair v1 v2 v3
    have first : (if k.mic then micPress a s else s) = v1 := rfl
    have second : (if k.cancel then cancelSeat a v1 else v1) = v2 := by
      rw [cancelSeat_eq, seatWithdrawn, dropRequest]
      simp only [v2, bne, beq_eq_decide]
      simp
    have third : (if k.priority && seatClass s a == 3 then chairRequest ⟨.priorityMute, 0⟩ v2 else v2) = v3 := by
      simp only [v3, chair, chairRequest_eq, Bool.and_eq_true, beq_iff_eq]
    simp only [dispatchKeys, first, second, third]
    simp only [chair, chairRequest_eq, Bool.and_eq_true, decide_eq_true_eq]

/-! ### A window without a good reply -/

/-- What the loss of unit a leaves of state s. -/
def LostUnit (a : Nat) (s t : State) : Prop :=
  (unitOf t a) = { unitOf s a with present := false, miss := 3, fullTimer := 0, keys := ⟨false, false, false, false⟩ } ∧
  assignmentOf t a = none ∧ t.seats = (dropSelection a s).seats ∧ t.port.flags.getLsbD 8 = true ∧
  (∀ r ∈ t.floor.requests, r.seat ≠ a) ∧ (∀ m ∈ t.floor.mics, m.seat = a → m.phase = .closing) ∧
  (∀ w ∈ t.claims.placeWants, w.seat ≠ a) ∧ (∀ c ∈ t.claims.places, c.seat = a → isLiveIntent c.stage = false) ∧
  t.dlc.uplinks = s.dlc.uplinks ∧ (∀ b ≤ 60, 1 ≤ b → b ≠ a → unitOf t b = unitOf s b)

section
variable {s : State} {a : Nat}

theorem removeRequest_of_idle (h : pendingPlace s a = false) : removeRequest a s = dropRequest a s := by
  unfold removeRequest
  split
  · rw [withdrawSeat_eq]
    exact seatWithdrawn_of_idle a (dropRequest a s) h
  · next hr => exact (dropRequest_of_none a s (by simpa using hr)).symm

theorem abandonedSeat_eq (a : Nat) (s : State) :
    abandonedSeat a s = closeSeatMic a (dropRequest a (seatWithdrawn a (absentUnit a s))) := by
  rw [abandonedSeat, withdrawSeat_eq, removeRequest_of_idle (pendingPlace_seatWithdrawn a _)]

theorem lostUnit_loseUnit (law : SeatLaw s) (h1 : 1 ≤ a) (h60 : a ≤ 60) : LostUnit a s (loseUnit a s) := by
  have hunits : s.dlc.units.length = 60 := ((seatLaw_iff s).mp law).1
  have kept : (loseUnit a s).dlc = (absentUnit a s).dlc ∧ (loseUnit a s).floor = (abandonedSeat a s).floor ∧
      (loseUnit a s).claims = (abandonedSeat a s).claims ∧ (loseUnit a s).port = (absentUnit a s).port := by
    rw [loseUnit_eq, dropSelection]
    simp [abandonedSeat]
  obtain ⟨dlc, floor, claims, port⟩ := kept
  have unit : ∀ b, unitOf (loseUnit a s) b = _ := fun b =>
    (show unitOf (loseUnit a s) b = unitOf (absentUnit a s) b by simp only [unitOf, dlc]).trans
      (unitOf_absentUnit h1 (by omega) b)
  have selection : selectionOf (abandonedSeat a s) = selectionOf s := by
    funext b
    unfold selectionOf
    rw [unitOf_abandonedSeat, unitOf_absentUnit h1 (by omega)]
    by_cases hb : b = a <;> simp [hb]
  have absent : assignmentOf (loseUnit a s) a = none := by
    have present := (seatLaw_loseUnit law h1 h60).1.2.2.2.2.2.2.1 a (by omega) (by omega)
    rw [unit a, if_pos rfl] at present
    simpa using present.symm
  have mics : ∀ m ∈ (abandonedSeat a s).floor.mics, m.seat = a → m.phase = .closing := by
    rw [abandonedSeat_eq, closeSeatMic, closeMics]
    simp only [List.mem_map]
    rintro m ⟨x, -, rfl⟩
    by_cases hx : x.seat = a
    · simp [hx, closed_eq]
    · simp [hx]
  have idle : pendingPlace (abandonedSeat a s) a = false := by
    rw [abandonedSeat_eq]
    exact pendingPlace_seatWithdrawn a _
  obtain ⟨wants, places⟩ := (pendingPlace_eq_false_iff _ a).mp idle
  refine ⟨by rw [unit, if_pos rfl]; rfl, absent, ?_, ?_, ?_, ?_, ?_, ?_, ?_, fun b _ _ hb => by rw [unit, if_neg hb]⟩
  · rw [loseUnit_eq, dropSelection, selection]
    exact leaveAssignment_congr (by simp [abandonedSeat, absentUnit]) a _
  · rw [port, absentUnit, raise_getLsbD]
    exact .inr rfl
  · rw [floor, abandonedSeat_eq]
    simp [closeSeatMic, closeMics, dropRequest]
  · rw [floor]
    exact mics
  · rw [claims]
    exact wants
  · rw [claims]
    exact places
  · rw [dlc]
    simp [absentUnit]

theorem lostUnit_of_window {v : State} {w d : Option Nat}
    (hv : v = { s with dlc := { s.dlc with window := w, dueWindow := d } }) (law : SeatLaw s) (h1 : 1 ≤ a) (h60 : a ≤ 60) :
    LostUnit a s (loseUnit a v) := by
  have unit : ∀ b, unitOf v b = unitOf s b := fun b => by rw [hv]; rfl
  obtain ⟨own, absent, seats, flag, requests, mics, wants, places, uplinks, others⟩ :=
    lostUnit_loseUnit (s := v) (by rw [hv]; exact law) h1 h60
  refine ⟨by rw [own, unit], absent, ?_, flag, requests, mics, wants, places, by rw [uplinks, hv],
    fun b hb h1 hne => by rw [others b hb h1 hne, unit]⟩
  rw [seats, dropSelection, show selectionOf v = selectionOf s from funext fun b => by rw [selectionOf, unit]; rfl]
  exact leaveAssignment_congr (by rw [hv]) a _

theorem badReply_of_absent (h : (unitOf s a).present = false) : badReply a s = s := by simp [badReply, h]

theorem badReply_of_early (h : (unitOf s a).present = true) (hm : (unitOf s a).miss < 2) :
    badReply a s = modifyUnit a (fun u => { u with miss := u.miss + 1 }) s := by
  have : ¬ (unitOf s a).miss + 1 ≥ Config.missLimit := by unfold Config.missLimit; omega
  simp [badReply, h, this]

theorem badReply_of_third (h : (unitOf s a).present = true) (hm : 2 ≤ (unitOf s a).miss) :
    badReply a s = loseUnit a s := by
  have : (unitOf s a).miss + 1 ≥ Config.missLimit := by unfold Config.missLimit; omega
  simp [badReply, h, this]

theorem unitAbsentOp_of_third (h : (unitOf s a).present = true) (hm : 2 ≤ (unitOf s a).miss) :
    unitAbsentOp a s = loseUnit a (if closingWindow s = some a then takeWindow s else s) := by
  have : (unitOf s a).miss + 1 ≥ Config.missLimit := by unfold Config.missLimit; omega
  simp [unitAbsentOp, h, this]

theorem unitAbsentOp_of_other (h : (unitOf s a).present = false ∨ (unitOf s a).miss < 2) : unitAbsentOp a s = s := by
  refine if_neg ?_
  rcases h with h | h
  · simp [h]
  · have : ¬ (unitOf s a).miss + 1 ≥ Config.missLimit := by unfold Config.missLimit; omega
    simp [this]
end

/-- Settles O40. -/
theorem badUnitReply : Obligations.BadUnitReply := by
  intro s a reply hs hsize law h1 h60 bad lost
  obtain ⟨-, -, -, -, hunits, -, -⟩ := hsize
  obtain ⟨w, d, taken⟩ := takeWindow_dlc (s := s)
  have unit : ∀ b, unitOf (takeWindow s) b = unitOf s b := fun b => by rw [taken]; rfl
  have absent (t : State) (h : unitAbsentOp a s = t) : exec (.unitAbsent a) s = .next t := by
    rw [exec_of_live _ s hs, liveEffect, h]
  refine ⟨fun h => ?_, fun hclose hbad => ?_, fun hp hm => ?_, fun h => absent s (unitAbsentOp_of_other h)⟩
  · rw [exec_of_live _ s hs, liveEffect, pollWindowCloseOp, h]
  · have close : exec (.pollWindowClose reply) s = .next (badReply a (takeWindow s)) := by
      rw [exec_pollWindowClose hs hclose, closeWindow_of_bad (classifyUnit_of_bad hbad)]
    refine ⟨fun hp => ?_, fun hp hm => ?_, fun hp hm => ?_⟩
    · rw [close, badReply_of_absent (by rw [unit]; exact hp)]
    · rw [badReply_of_early (by rw [unit]; exact hp) (by rw [unit]; exact hm)] at close
      have modified : ∀ b, 1 ≤ b → unitOf (modifyUnit a (fun u => { u with miss := u.miss + 1 }) (takeWindow s)) b =
          if b = a then { unitOf s a with miss := (unitOf s a).miss + 1 } else unitOf s b := fun b hb => by
        rw [unitOf_modifyUnit a b _ _ h1 hb (by rw [taken]; exact hunits ▸ h60), unit, unit]
      exact ⟨_, close, by rw [modified a h1, if_pos rfl], fun b _ hb1 hb => by rw [modified b hb1, if_neg hb],
        by rw [taken]; simp, by rw [taken]; simp, by rw [taken]; simp, by rw [taken]; simp⟩
    · rw [badReply_of_third (by rw [unit]; exact hp) (by rw [unit]; exact hm)] at close
      refine ⟨_, close, lostUnit_of_window taken law h1 h60, absent _ ?_⟩
      rw [unitAbsentOp_of_third hp hm, if_pos hclose]
  · refine ⟨_, absent _ (unitAbsentOp_of_third hp hm), ?_⟩
    split
    · exact lostUnit_of_window taken law h1 h60
    · exact lostUnit_loseUnit law h1 h60
end Sys2Proof.Machine
end

section
/-! PROOF. Acknowledge flag and toggle of a delegate unit (O42). -/
namespace Sys2Proof.Machine

section
variable (p : Poll) (u : DelegateUnit)

@[simp] theorem unitOnPoll_address : (unitOnPoll p u).address = u.address ∧ (unitOnPoll p u).tag = u.tag := by
  unfold unitOnPoll unitTreatKeys
  repeat' split
  all_goals exact ⟨rfl, rfl⟩

theorem unitOnPoll_settled (h : p.address = u.address) :
    (unitOnPoll p u).toggle = p.ack ∧ (unitOnPoll p u).latch = Keys.empty := by
  unfold unitOnPoll unitTreatKeys
  rw [if_pos h]
  split
  · next ha => exact ⟨ha.symm, rfl⟩
  · exact ⟨rfl, rfl⟩

theorem unitOnPoll_report (h : p.address = u.address) :
    (unitOnPoll p u).report = if p.ack = u.toggle then joinKeys u.report u.latch else u.latch := by
  unfold unitOnPoll unitTreatKeys
  rw [if_pos h]
  split <;> rfl

theorem joinKeys_empty (k : Keys) : joinKeys Keys.empty k = k := by simp [joinKeys, Keys.empty]

theorem agreed_same {α : Type} [DecidableEq α] (x : α) : agreed (.same x) = true := (agreed_iff _).mpr rfl

theorem unitContent_keys : (unitContent (unitReply u)).keys = u.report := by
  simp only [unitContent, unitReply, bitValue_same]

/-- The reply that a unit of address a sends is a clean one of a. -/
theorem classifyUnit_unitReply (ha : u.address ≤ 60) (h1 : 1 ≤ u.tag) (h31 : u.tag ≤ 31) :
    classifyUnit u.address (some (unitReply u)) = .clean := by
  have address : (fieldValue (unitReply u).address).toNat = u.address := by
    simp only [unitReply, fieldValue_same, BitVec.toNat_ofNat]
    omega
  have tag : fieldValue (unitReply u).tag ≠ 0 := by
    simp only [unitReply, fieldValue_same]
    intro h
    have zero : u.tag % 2 ^ 5 = 0 := by simpa using congrArg BitVec.toNat h
    omega
  have clean : unitAgreed (unitReply u) = true := by
    simp only [unitAgreed, unitReply, agreed_same, Bool.and_self]
  rw [classifyUnit_of_good rfl rfl address tag, if_pos clean]
end

section
variable {s : State} {a : Nat}

theorem ack_goodReply (h1 : 1 ≤ a) (h60 : a ≤ s.dlc.units.length) (c : ReplyClass) (r : UnitContent) :
    (unitOf (goodReply a c r s) a).ack = !(unitOf s a).ack := by
  rw [goodReply_eq, (pressed_dispatchKeys a _ r.keys).unit, unitOf_reportedUnit c r h1 h60, if_pos rfl]

theorem ack_badReply (h1 : 1 ≤ a) (h60 : a ≤ s.dlc.units.length) : (unitOf (badReply a s) a).ack = (unitOf s a).ack := by
  unfold badReply
  repeat' split
  · rfl
  · have kept : unitOf (loseUnit a s) a = unitOf (absentUnit a s) a := by
      rw [loseUnit_eq, ← unitOf_abandonedSeat]
      simp [dropSelection, unitOf]
    rw [kept, unitOf_absentUnit h1 h60, if_pos rfl]
  · rw [unitOf_modifyUnit a a _ s h1 h1 h60, if_pos rfl]
end

/-- Settles O42: the flag that the next poll carries is the other one after a good reply, and the same after none. -/
theorem acknowledgedReportsAreNotRepeated : Obligations.AcknowledgedReportsAreNotRepeated := by
  intro s a v hsize h1 h60 haddress htag1 htag31 polled accepted missed k
  obtain ⟨-, -, -, -, hunits, -, -⟩ := hsize
  have range : a ≤ s.dlc.units.length := by omega
  have address : polled.address = a := by simp [polled, haddress]
  have tag : polled.tag = v.tag := by simp [polled]
  obtain ⟨toggle, latch⟩ := unitOnPoll_settled (pollFor s a) v (by rw [haddress]; rfl)
  have pressed : (unitPress k polled).latch = k := by
    rw [unitPress, show polled.latch = Keys.empty from latch, joinKeys_empty]
  have shown : (unitPress k polled).toggle = (unitOf s a).ack ∧ (unitPress k polled).report = polled.report :=
    ⟨toggle, rfl⟩
  have taken : accepted = goodReply a .clean (unitContent (unitReply polled)) s := by
    have clean := classifyUnit_unitReply polled (by omega) (by omega) (by omega)
    rw [address] at clean
    exact (closeWindow_of_good (.inl clean)).trans (by rw [clean])
  have ack : (unitOf accepted a).ack = !(unitOf s a).ack := by rw [taken, ack_goodReply h1 range]
  have kept : (unitOf missed a).ack = (unitOf s a).ack :=
    (congrArg (fun t => (unitOf t a).ack) (closeWindow_of_bad (.inl rfl))).trans (ack_badReply h1 range)
  have report (t : State) : (unitContent (unitReply (unitOnPoll (pollFor t a) (unitPress k polled)))).keys =
      if (unitOf t a).ack = (unitOf s a).ack then joinKeys polled.report k else k := by
    rw [unitContent_keys, unitOnPoll_report _ _ (by exact address.symm), pressed, shown.1, shown.2]
    rfl
  refine ⟨?_, ?_⟩
  · rw [report, ack, if_neg (by simp)]
  · rw [report, kept, if_pos rfl, unitContent_keys]
end Sys2Proof.Machine
end

section
/-! PROOF. The Mic press of a seat (O43). -/
namespace Sys2Proof.Machine

/-! ### The floor state of a seat -/

section
variable {s : State} {seat : Nat}

theorem micOf_eq_none_iff : micOf s seat = none ↔ ∀ m ∈ s.floor.mics, m.seat ≠ seat := by
  simp [micOf]

theorem requestOf_isSome_iff : (requestOf s seat).isSome = true ↔ ∃ r ∈ s.floor.requests, r.seat = seat := by
  simp [requestOf]

theorem pendingPlace_iff : pendingPlace s seat = true ↔
    (∃ w ∈ s.claims.placeWants, w.seat = seat) ∨ ∃ c ∈ s.claims.places, c.seat = seat ∧ c.stage = .intent false := by
  have live : ∀ x : Stage, isLiveIntent x = true ↔ x = .intent false := by
    intro x
    cases x <;> simp [isLiveIntent]
  simp [pendingPlace, live]

theorem floorState_of_mic {m : Mic} (h : micOf s seat = some m) :
    floorState s seat = if m.phase = .closing then .fading else .speaking := by
  unfold floorState
  rw [h]
  cases hp : m.phase <;> simp [sounding, hp]

theorem floorState_of_none (h : micOf s seat = none) : floorState s seat =
    if (requestOf s seat).isSome then .requesting else if pendingPlace s seat then .pending else .idle := by
  unfold floorState
  rw [h]

theorem seatClass_eq (s : State) (seat : Nat) : seatClass s seat =
    match s.station.config.bind (fun c => c.seats.find? (fun e => e.seat == seat)) with
    | some e => e.cls
    | none => 0 := by
  unfold seatClass
  cases s.station.config with
  | none => rfl
  | some c =>
    simp only [Option.bind_some, beq_eq_decide]
    cases c.seats.find? (fun e => decide (e.seat = seat)) <;> rfl

theorem floorState_spec (s : State) (seat : Nat) :
    let bare := (∀ m ∈ s.floor.mics, m.seat ≠ seat) ∧ ∀ r ∈ s.floor.requests, r.seat ≠ seat
    let pends := (∃ w ∈ s.claims.placeWants, w.seat = seat) ∨ ∃ c ∈ s.claims.places, c.seat = seat ∧ c.stage = .intent false
    (floorState s seat = .speaking ↔ ∃ m, micOf s seat = some m ∧ m.phase ≠ .closing) ∧
    (floorState s seat = .fading ↔ ∃ m, micOf s seat = some m ∧ m.phase = .closing) ∧
    (floorState s seat = .requesting ↔
      (∀ m ∈ s.floor.mics, m.seat ≠ seat) ∧ ∃ r ∈ s.floor.requests, r.seat = seat) ∧
    (floorState s seat = .pending ↔ bare ∧ pends) ∧ (floorState s seat = .idle ↔ bare ∧ ¬ pends) := by
  intro bare pends
  have bare_iff : bare ↔ micOf s seat = none ∧ requestOf s seat = none :=
    and_congr micOf_eq_none_iff.symm (requestOf_eq_none_iff s seat).symm
  have pends_iff : pends ↔ pendingPlace s seat = true := pendingPlace_iff.symm
  rw [bare_iff, pends_iff, ← micOf_eq_none_iff, ← requestOf_isSome_iff]
  cases hm : micOf s seat with
  | some m =>
    rw [floorState_of_mic hm]
    by_cases hp : m.phase = .closing <;> simp [hp]
  | none =>
    rw [floorState_of_none hm]
    cases hr : requestOf s seat with
    | some r => simp
    | none => by_cases hp : pendingPlace s seat = true <;> simp [hp]
end

/-! ### The press of an Idle seat -/

/-- A refused press of a seat. -/
def RefusedPress (seat : Nat) (s t : State) : Prop :=
  t.port.flags.getLsbD 6 = true ∧ t.claims = s.claims ∧ t.floor = s.floor ∧
    ((unitOf s seat).present = true → (unitOf t seat).fullTimer = 500)

/-- A press that files its want, with the mic that it displaces. -/
def FiledPress (seat : Nat) (d : Option Named) (s t : State) : Prop :=
  t.claims.placeWants = s.claims.placeWants ++ [⟨seat, seatClass s seat, d, .press⟩] ∧ t.floor = s.floor ∧ t.port = s.port

section
variable {s : State} {seat : Nat}

theorem refused_refusePress (h1 : 1 ≤ seat) (h60 : seat ≤ s.dlc.units.length) :
    RefusedPress seat s (refusePress seat s) := by
  refine ⟨?_, by simp, by simp, fun hp => ?_⟩
  · rw [refusePress, raise_getLsbD]
    exact .inr rfl
  · have unit : unitOf (refusePress seat s) seat = unitOf (showFull seat s) seat := rfl
    rw [unit, showFull, unitOf_modifyUnit seat seat _ s h1 h1 h60, if_pos rfl, hp]
    rfl

theorem filed_filePlaceWant (hstate : s.station.state ≠ .unconfigured) (hidle : floorState s seat = .idle)
    (hplaces : ∀ c ∈ s.claims.places, c.seat ≠ seat) (d : Option Named) :
    FiledPress seat d s (filePlaceWant ⟨seat, seatClass s seat, d, .press⟩ s) := by
  have wants : ∀ w ∈ s.claims.placeWants, w.seat ≠ seat := fun w hw heq =>
    ((floorState_spec s seat).2.2.2.2.mp hidle).2 (.inl ⟨w, hw, heq⟩)
  have free : s.claims.places.any (fun c => c.seat == seat && c.stage != .intent true) = false := by
    simp only [List.any_eq_false, Bool.and_eq_true, beq_iff_eq, not_and]
    exact fun c hc heq => absurd heq (hplaces c hc)
  have all : s.claims.placeWants.filter (fun x => x.seat != seat) = s.claims.placeWants :=
    List.filter_eq_self.mpr fun w hw => by simpa using wants w hw
  unfold filePlaceWant FiledPress
  simp [hstate, free, all]

theorem createRequest_spec (h1 : 1 ≤ seat) (h60 : seat ≤ s.dlc.units.length) :
    (createRequest seat s).floor.requests.Perm (⟨seat, seatClass s seat, 0⟩ :: s.floor.requests) ∧
    (createRequest seat s).claims = s.claims ∧ (unitOf (createRequest seat s) seat).fullTimer = 0 := by
  refine ⟨?_, by simp [createRequest], ?_⟩
  · simpa [createRequest] using insertBy_perm _ _ _
  · unfold createRequest clearFull
    rw [unitOf_modifyUnit seat seat (fun u => { u with fullTimer := 0 }) _ h1 h1 (by exact h60), if_pos rfl]

/-- The order in which Override mode looks for the mic to displace: the longest open one first. -/
def openedBefore (a b : RoomMic) : Bool :=
  a.age > b.age || (a.age == b.age && (a.station < b.station || (a.station == b.station && a.seat < b.seat)))

theorem openedBefore_iff (a b : RoomMic) : openedBefore a b = true ↔
    b.age < a.age ∨ a.age = b.age ∧ (a.station < b.station ∨ a.station = b.station ∧ a.seat < b.seat) := by
  simp [openedBefore]

theorem openedBefore_eq_false_iff (a b : RoomMic) : openedBefore a b = false ↔
    a.age < b.age ∨ a.age = b.age ∧ (b.station < a.station ∨ b.station = a.station ∧ b.seat ≤ a.seat) := by
  rw [← Bool.not_eq_true, openedBefore_iff]
  omega

theorem displacedMic_of_none (h : ∀ m ∈ roomMics s, 2 ≤ m.cls) : displacedMic s = none := by
  have none : (roomMics s).filter (fun m => counted m.cls) = [] :=
    List.filter_eq_nil_iff.mpr fun m hm => by
      have := h m hm
      simp [counted]
      omega
  unfold displacedMic
  rw [none]
  rfl

theorem displacedMic_of_counted {m : RoomMic} (hm : m ∈ roomMics s) (hc : m.cls ≤ 1) :
    ∃ x ∈ roomMics s, x.cls ≤ 1 ∧ displacedMic s = some ⟨x.station, x.seat⟩ ∧
      ∀ y ∈ roomMics s, y.cls ≤ 1 → openedBefore y x = false := by
  have counted_iff : ∀ n, counted n = true ↔ n ≤ 1 := fun n => by simp [counted]
  have hne : (roomMics s).filter (fun m => counted m.cls) ≠ [] :=
    List.ne_nil_of_mem (List.mem_filter.mpr ⟨hm, (counted_iff _).mpr hc⟩)
  obtain ⟨x, hx, hhead, first⟩ := head?_sortBy openedBefore
    (fun a b h => by rw [openedBefore_eq_false_iff]; rw [openedBefore_iff] at h; omega)
    (fun a b c h k => by rw [openedBefore_eq_false_iff] at *; omega) hne
  obtain ⟨hmem, hcls⟩ := List.mem_filter.mp hx
  refine ⟨x, hmem, (counted_iff _).mp hcls, ?_, fun y hy hyc => first y (List.mem_filter.mpr ⟨hy, (counted_iff _).mpr hyc⟩)⟩
  have shape : displacedMic s =
      ((sortBy openedBefore ((roomMics s).filter (fun m => counted m.cls))).head?).map (fun m => ⟨m.station, m.seat⟩) := rfl
  rw [shape, hhead]
  rfl

theorem micPress_of_idle (h : floorState s seat = .idle) : micPress seat s = pressIdle seat s := by
  rw [micPress, h]

theorem counted_iff (cls : Nat) : counted cls = true ↔ cls ≤ 1 := by simp [counted]

theorem micPress_kept (seat : Nat) (s : State) : micPress seat s = { s with
    claims := (micPress seat s).claims, floor := (micPress seat s).floor
    dlc := { s.dlc with units := (micPress seat s).dlc.units }
    port := { s.port with flags := (micPress seat s).port.flags } } := by
  have port := (Port.eq_flagged_iff (micPress seat s).port s.port).mpr (by simp)
  have dlc : (micPress seat s).dlc = { s.dlc with units := (micPress seat s).dlc.units } := by
    have fields : ∀ x y : Dlc, x.uplinks = y.uplinks → x.pointer = y.pointer → x.window = y.window →
        x.dueWindow = y.dueWindow → x.pollOut = y.pollOut → x.uplinkIn = y.uplinkIn → x = { y with units := x.units } := by
      intro x y h1 h2 h3 h4 h5 h6
      cases x
      cases y
      simp_all
    exact fields _ _ (by simp) (by simp) (by simp) (by simp) (by simp) (by simp)
  rw [State.eq_iff]
  refine ⟨by simp, by simp, by simp, by simp, ?_, rfl, dlc, rfl, by simp, by simp, by simp, by simp, port, by simp⟩
  simp

theorem pressIdle_of_free (h : (context s).mode = .free) : pressIdle seat s =
    if belowLevel s (seatClass s seat) then refusePress seat s else filePlaceWant (pressWant s seat) s := by
  rw [pressIdle, h]
  rfl

theorem pressIdle_of_queue (h : (context s).mode = .queue) : pressIdle seat s = pressIdleQueue seat s := by
  rw [pressIdle, h]

theorem pressIdle_of_override (h : (context s).mode = .override) : pressIdle seat s = pressIdleOverride seat s := by
  rw [pressIdle, h]

theorem pressIdleQueue_of_counted (h : seatClass s seat ≤ 1) : pressIdleQueue seat s =
    if 16 ≤ s.floor.requests.length then refusePress seat s else createRequest seat s := by
  rw [pressIdleQueue, if_pos ((counted_iff _).mpr h)]
  rfl

theorem pressIdleQueue_of_high (h : 2 ≤ seatClass s seat) : pressIdleQueue seat s =
    if belowLevel s (seatClass s seat) then refusePress seat s else filePlaceWant (pressWant s seat) s := by
  rw [pressIdleQueue, if_neg (by rw [counted_iff]; omega)]

theorem pressIdleOverride_of_free (hlevel : belowLevel s (seatClass s seat) = false)
    (h : 2 ≤ seatClass s seat ∨ 0 < freePlaces s) : pressIdleOverride seat s = filePlaceWant (pressWant s seat) s := by
  unfold pressIdleOverride
  rw [if_neg (by simp [hlevel])]
  by_cases hc : seatClass s seat ≤ 1
  · rw [if_neg (by simp [(counted_iff _).mpr hc]), if_pos (h.resolve_left (by omega))]
  · have high : counted (seatClass s seat) = false := by rw [← Bool.not_eq_true, counted_iff]; exact hc
    rw [if_pos (by simp [high])]

theorem pressIdleOverride_of_full (hlevel : belowLevel s (seatClass s seat) = false) (hc : seatClass s seat ≤ 1)
    (hfree : freePlaces s = 0) : pressIdleOverride seat s = match displacedMic s with
      | some n => filePlaceWant ⟨seat, seatClass s seat, some n, .press⟩ s
      | none => refusePress seat s := by
  rw [pressIdleOverride, if_neg (by simp [hlevel]), if_neg (by simp [(counted_iff _).mpr hc]), if_neg (by omega)] <;> rfl
end

/-- Settles O43, by the floor state of the seat and, for an Idle one, by the mode. -/
theorem micPress_by_floorState : Obligations.MicPress := by
  refine ⟨fun s seat hstate h1 h60 hsize => ?_, fun s seat => ?_⟩
  · intro t cls idle refused files
    obtain ⟨-, -, -, -, hunits, -, -⟩ := hsize
    have range : seat ≤ s.dlc.units.length := by omega
    have refuse (h : t = refusePress seat s) : refused := by
      rw [show refused = RefusedPress seat s t from rfl, h]
      exact refused_refusePress h1 range
    have file (hi : idle) (d : Option Named) (h : t = filePlaceWant ⟨seat, cls, d, .press⟩ s) : files d := by
      rw [show files d = FiledPress seat d s t from rfl, h]
      exact filed_filePlaceWant hstate hi.1 hi.2 d
    have press (hi : idle) : t = pressIdle seat s := micPress_of_idle hi.1
    refine ⟨⟨fun b _ _ hb => (pressed_micPress seat s).others b hb, micPress_kept seat s⟩, fun h => ?_, fun h => ?_,
      fun h => ?_, fun h => ?_, fun hi hmode hlevel => ?_, fun hi hmode hlevel => ?_, fun hi hmode hcls hroom => ?_,
      fun hi hmode hcls hfull => ?_, fun hi hmode hcls hlevel => ?_, fun hi hmode hcls hlevel => ?_,
      fun hi hmode hlevel => ?_, fun hi hmode hlevel hfree => ?_, fun hi hmode hlevel hcls hfree => ⟨fun m hm hmc => ?_,
      fun hall => ?_⟩⟩
    · have speaking : t = closeSeatMic seat s := by simp only [t, micPress, h]
      rw [speaking]
      simp [closeSeatMic, closeMics, closed_eq]
    · simp only [t, micPress, h]
    · have requesting : t = removeRequest seat s := by simp only [t, micPress, h]
      have held : (requestOf s seat).isSome = true :=
        requestOf_isSome_iff.mpr ((floorState_spec s seat).2.2.1.mp h).2
      rw [requesting]
      refine ⟨by simp [removeRequest_floor], ?_⟩
      rw [removeRequest, if_pos held]
      exact pendingPlace_withdrawSeat seat _
    · have pending : t = withdrawSeat true seat s := by simp only [t, micPress, h]
      rw [pending]
      exact ⟨rfl, pendingPlace_withdrawSeat seat s⟩
    · exact refuse (by rw [press hi, pressIdle_of_free hmode, if_pos hlevel])
    · exact file hi none (by rw [press hi, pressIdle_of_free hmode, if_neg (by simp [cls] at hlevel; simp [hlevel])]; rfl)
    · rw [press hi, pressIdle_of_queue hmode, pressIdleQueue_of_counted hcls, if_neg (by omega)]
      exact createRequest_spec h1 range
    · exact refuse (by rw [press hi, pressIdle_of_queue hmode, pressIdleQueue_of_counted hcls, if_pos hfull])
    · exact refuse (by rw [press hi, pressIdle_of_queue hmode, pressIdleQueue_of_high hcls, if_pos hlevel])
    · exact file hi none (by
        rw [press hi, pressIdle_of_queue hmode, pressIdleQueue_of_high hcls, if_neg (by rw [hlevel]; decide)]; rfl)
    · exact refuse (by rw [press hi, pressIdle_of_override hmode, pressIdleOverride, if_pos hlevel])
    · exact file hi none (by rw [press hi, pressIdle_of_override hmode, pressIdleOverride_of_free hlevel hfree]; rfl)
    · obtain ⟨x, hx, hxc, found, first⟩ := displacedMic_of_counted hm hmc
      refine ⟨_, file hi (some ⟨x.station, x.seat⟩) ?_, x, hx, hxc, rfl, rfl, ?_⟩
      · rw [press hi, pressIdle_of_override hmode, pressIdleOverride_of_full hlevel hcls hfree, found]
      · exact (openedBefore_eq_false_iff m x).mp (first m hm hmc)
    · exact refuse (by
        rw [press hi, pressIdle_of_override hmode, pressIdleOverride_of_full hlevel hcls hfree, displacedMic_of_none hall])
  · intro bare pends
    exact ⟨seatClass_eq s seat, fun cls => by simp [belowLevel], pendingPlace_iff, floorState_spec s seat⟩
end Sys2Proof.Machine
end

section
/-! PROOF. The replies of an interpreter desk: good ones and windows without one (O44, O45). -/
namespace Sys2Proof.Machine

/-! ### A desk that stands down -/

section
variable {s : State} {e : Nat}

theorem deskOf_standDown (e x : Nat) (s : State) :
    deskOf (standDown e s) x = if x = e then { deskOf s x with state := .off } else deskOf s x := by
  rcases standDown_cases e s with ⟨-, heq⟩ | ⟨-, heq⟩ | ⟨hoff, -, heq⟩
  · rw [heq, deskOf_takeDeskOffAir]
  · rw [heq]
    exact deskOf_setDeskOff e x s
  · rw [heq]
    split
    · next h =>
      rw [h]
      generalize deskOf s e = d at hoff
      cases d
      simp_all
    · rfl

theorem standDown_claims (e : Nat) (s : State) :
    ((deskOf s e).state = .onAir → ∀ c ∈ (standDown e s).claims.languages, c.desk = e → c.stage ≠ .hold) ∧
    ((deskOf s e).state = .intent → ∀ c ∈ (standDown e s).claims.languages, c.desk = e → isLiveIntent c.stage = false) ∧
    ((deskOf s e).state ≠ .onAir → ∀ w ∈ (standDown e s).claims.languageWants, w.desk ≠ e) ∧
    (∀ c ∈ s.claims.languages, c.desk ≠ e → c ∈ (standDown e s).claims.languages) := by
  rcases standDown_cases e s with ⟨hst, heq⟩ | ⟨hst, heq⟩ | ⟨hst, hpending, heq⟩ <;> rw [heq]
  · refine ⟨fun _ c hc hd => ?_, fun h => by simp [hst] at h, fun h => absurd hst h, fun c hc hd => ?_⟩
    · simp [takeDeskOffAir, endDeskHold] at hc
      exact fun hold => hc.2.elim (fun h => h hd) (fun h => h hold)
    · simp [takeDeskOffAir, endDeskHold, hd]
      exact hc
  · refine ⟨fun h => absurd h hst, fun _ c hc hd => ?_, fun _ w hw => ?_, fun c hc hd => ?_⟩
    · simp only [withdrawDesk, List.mem_map] at hc
      obtain ⟨x, -, rfl⟩ := hc
      by_cases hx : x.desk = e
      · simp [hx, isLiveIntent_markStage]
      · simp [hx] at hd
    · simp only [withdrawDesk, List.mem_filter, bne_iff_ne] at hw
      exact hw.2
    · exact List.mem_map.mpr ⟨c, hc, by simp [hd]⟩
  · refine ⟨fun h => by simp [hst] at h, fun h => by simp [hst] at h, fun _ w hw hd => ?_, fun c hc _ => hc⟩
    have pending : languagePending s e = true := List.any_eq_true.mpr ⟨w, hw, by simp [hd]⟩
    simp [hpending] at pending

theorem standDown_keeps_blocks (e : Nat) (s : State) : (standDown e s).floor = s.floor ∧ (standDown e s).dlc = s.dlc ∧
    (standDown e s).port = s.port ∧ (standDown e s).lanes = s.lanes ∧ (standDown e s).room = s.room ∧
    (standDown e s).peers = s.peers ∧ (standDown e s).station = s.station := by
  simp
end

/-! ### The window -/

section
variable {s : State} {e : Nat}

theorem takeBoothWindow_booth : ∃ w d, takeBoothWindow s = { s with booth := { s.booth with window := w, dueWindow := d } } := by
  unfold takeBoothWindow
  split
  · exact ⟨_, _, rfl⟩
  · exact ⟨_, _, rfl⟩

theorem exec_boothWindowClose (hs : Live s) (h : closingBoothWindow s = some e) (reply : Option DeskReply) :
    exec (.boothWindowClose reply) s = .next (closeBoothWindow e reply (takeBoothWindow s)) := by
  rw [exec_of_live _ s hs, liveEffect, boothWindowCloseOp, h]

theorem deskAgreed_iff (r : DeskReply) : deskAgreed r = true ↔
    r.restAgreed = true ∧ r.desk = .same r.desk.first ∧ r.mic = .same r.mic.first ∧
      r.output = .same r.output.first ∧ r.relayKind = .same r.relayKind.first ∧
      r.relayLanguage = .same r.relayLanguage.first := by
  simp only [deskAgreed, Bool.and_eq_true, agreed_iff, and_assoc]

theorem namesLanguage0_iff (r : Relay) : namesLanguage0 r = true ↔ r = .language 0 := by
  cases r <;> simp [namesLanguage0]

theorem deskContent_eq {r : DeskReply} {relay : Relay}
    (h : relayOfBits (fieldValue r.relayKind) (fieldValue r.relayLanguage) = some relay) :
    deskContent r = some ⟨(fieldValue r.desk).toNat, bitValue r.mic, (fieldValue r.output).toNat, relay⟩ := by
  rw [deskContent, h]
  rfl

theorem classifyDesk_of_good {r : DeskReply} {relay : Relay}
    (hrelay : relayOfBits (fieldValue r.relayKind) (fieldValue r.relayLanguage) = some relay) (h0 : relay ≠ .language 0)
    (hended : r.ended = true) (hframed : r.framed = true) (hdesk : (fieldValue r.desk).toNat = e)
    (houtput : fieldValue r.output ≠ 0) :
    classifyDesk e (some r) = if deskAgreed r then .clean else .noisy := by
  have output : (fieldValue r.output).toNat ≠ 0 := fun h => houtput (BitVec.eq_of_toNat_eq h)
  have named : namesLanguage0 relay = false := by
    rw [← Bool.not_eq_true, namesLanguage0_iff]
    exact h0
  simp [classifyDesk, deskContent_eq hrelay, hended, hframed, hdesk, output, named]

theorem classifyDesk_of_bad {reply : Option DeskReply} (h : ∀ r, reply = some r → r.ended = false ∨ r.framed = false ∨
      (fieldValue r.desk).toNat ≠ e ∨ fieldValue r.output = 0 ∨ fieldValue r.relayKind = 2 ∧ fieldValue r.relayLanguage = 0) :
    classifyDesk e reply = .missing ∨ classifyDesk e reply = .malformed := by
  cases reply with
  | none => exact .inl rfl
  | some r =>
    right
    cases hc : relayOfBits (fieldValue r.relayKind) (fieldValue r.relayLanguage) with
    | none => simp [classifyDesk, deskContent, hc]
    | some relay =>
      have bad : (!r.ended || !r.framed || (fieldValue r.desk).toNat != e || (fieldValue r.output).toNat == 0 ||
          namesLanguage0 relay) = true := by
        rcases h r rfl with h | h | h | h | ⟨hk, hl⟩
        · simp [h]
        · simp [h]
        · simp [h]
        · simp [h]
        · have : relay = .language 0 := by simpa [relayOfBits, hk, hl] using hc.symm
          simp [this, namesLanguage0]
      simp only [classifyDesk, deskContent_eq hc, bad, if_true]

theorem closeBoothWindow_of_good {r : DeskReply} {content : DeskContent} (hcontent : deskContent r = some content)
    (h : classifyDesk e (some r) = .clean ∨ classifyDesk e (some r) = .noisy) :
    closeBoothWindow e (some r) s = goodDeskReply e (classifyDesk e (some r)) content s := by
  unfold closeBoothWindow
  rcases h with h | h <;> simp [h, hcontent]

theorem closeBoothWindow_of_bad {reply : Option DeskReply}
    (h : classifyDesk e reply = .missing ∨ classifyDesk e reply = .malformed) :
    closeBoothWindow e reply s = badDeskReply e s := by
  unfold closeBoothWindow
  rcases h with h | h <;> simp [h]

theorem badDeskReply_of_absent (h : (deskOf s e).present = false) : badDeskReply e s = s := by simp [badDeskReply, h]

theorem badDeskReply_of_early (h : (deskOf s e).present = true) (hm : (deskOf s e).miss < 2) :
    badDeskReply e s = modifyDesk e (fun d => { d with miss := d.miss + 1 }) s := by
  have : ¬ (deskOf s e).miss + 1 ≥ Config.missLimit := by unfold Config.missLimit; omega
  simp [badDeskReply, h, this]

theorem badDeskReply_of_third (h : (deskOf s e).present = true) (hm : 2 ≤ (deskOf s e).miss) :
    badDeskReply e s = loseDesk e s := by
  have : (deskOf s e).miss + 1 ≥ Config.missLimit := by unfold Config.missLimit; omega
  simp [badDeskReply, h, this]

theorem deskAbsentOp_of_third (h : (deskOf s e).present = true) (hm : 2 ≤ (deskOf s e).miss) :
    deskAbsentOp e s = loseDesk e (if closingBoothWindow s = some e then takeBoothWindow s else s) := by
  have : (deskOf s e).miss + 1 ≥ Config.missLimit := by unfold Config.missLimit; omega
  simp [deskAbsentOp, h, this]

theorem deskAbsentOp_of_other (h : (deskOf s e).present = false ∨ (deskOf s e).miss < 2) : deskAbsentOp e s = s := by
  refine if_neg ?_
  rcases h with h | h
  · simp [h]
  · have : ¬ (deskOf s e).miss + 1 ≥ Config.missLimit := by unfold Config.missLimit; omega
    simp [this]

/-! ### A desk lost -/

/-- What the loss of desk e leaves of state s. -/
def LostDesk (e : Nat) (s t : State) : Prop :=
  deskOf t e = { deskOf s e with present := false, miss := 3, state := .off, engaged := false, loopMark := false } ∧
  ((deskOf s e).state = .onAir → ∀ c ∈ t.claims.languages, c.desk = e → c.stage ≠ .hold) ∧
  ((deskOf s e).state ≠ .onAir → (∀ w ∈ t.claims.languageWants, w.desk ≠ e)) ∧
  ((deskOf s e).state = .intent → ∀ c ∈ t.claims.languages, c.desk = e → isLiveIntent c.stage = false) ∧
  (∀ c ∈ s.claims.languages, c.desk ≠ e → c ∈ t.claims.languages) ∧
  (∀ x < 4, x ≠ e → deskOf t x = deskOf s x) ∧ t.port = s.port ∧ t.floor = s.floor

theorem standDown_length (e : Nat) (s : State) : (standDown e s).booth.desks.length = s.booth.desks.length := by
  rcases standDown_cases e s with ⟨-, h⟩ | ⟨-, h⟩ | ⟨-, -, h⟩ <;> simp [h, takeDeskOffAir, setDeskOff]

theorem lostDesk_loseDesk (he : e < s.booth.desks.length) : LostDesk e s (loseDesk e s) := by
  obtain ⟨holds, intents, wants, others⟩ := standDown_claims e s
  have desk : ∀ x, deskOf (loseDesk e s) x = _ := fun x =>
    deskOf_modifyDesk e x (fun d => { d with present := false, miss := Config.missLimit, engaged := false, loopMark := false })
      (standDown e s) (by rw [standDown_length]; exact he)
  refine ⟨by rw [desk, if_pos rfl, deskOf_standDown, if_pos rfl]; rfl, holds, wants, intents, others, fun x _ hx => ?_,
    by simp [loseDesk], by simp [loseDesk]⟩
  rw [desk, if_neg hx, deskOf_standDown, if_neg hx]

theorem lostDesk_of_window {v : State} {w d : Option Nat}
    (hv : v = { s with booth := { s.booth with window := w, dueWindow := d } }) (he : e < s.booth.desks.length) :
    LostDesk e s (loseDesk e v) := by
  have lost : LostDesk e v (loseDesk e v) := lostDesk_loseDesk (by rw [hv]; exact he)
  have desk : ∀ x, deskOf v x = deskOf s x := fun x => by rw [hv]; rfl
  have claims : v.claims = s.claims ∧ v.port = s.port ∧ v.floor = s.floor := by rw [hv]; exact ⟨rfl, rfl, rfl⟩
  simpa only [LostDesk, desk, claims] using lost
end

/-- Settles O45. -/
theorem badDeskReply_by_misses : Obligations.BadDeskReply := by
  intro s e reply hs hsize he bad lost
  obtain ⟨-, -, -, -, -, -, hdesks⟩ := hsize
  have range : e < s.booth.desks.length := by omega
  obtain ⟨w, d, taken⟩ := takeBoothWindow_booth (s := s)
  have desk : ∀ x, deskOf (takeBoothWindow s) x = deskOf s x := fun x => by rw [taken]; rfl
  have absent (t : State) (h : deskAbsentOp e s = t) : exec (.deskAbsent e) s = .next t := by
    rw [exec_of_live _ s hs, liveEffect, h]
  refine ⟨fun h => ?_, fun hclose hbad => ?_, fun hp hm => ?_, fun h => absent s (deskAbsentOp_of_other h)⟩
  · rw [exec_of_live _ s hs, liveEffect, boothWindowCloseOp, h]
  · have close : exec (.boothWindowClose reply) s = .next (badDeskReply e (takeBoothWindow s)) := by
      rw [exec_boothWindowClose hs hclose, closeBoothWindow_of_bad (classifyDesk_of_bad hbad)]
    refine ⟨fun hp => ?_, fun hp hm => ?_, fun hp hm => ?_⟩
    · rw [close, badDeskReply_of_absent (by rw [desk]; exact hp)]
    · rw [badDeskReply_of_early (by rw [desk]; exact hp) (by rw [desk]; exact hm)] at close
      have modified : ∀ x, deskOf (modifyDesk e (fun d => { d with miss := d.miss + 1 }) (takeBoothWindow s)) x =
          if x = e then { deskOf s e with miss := (deskOf s e).miss + 1 } else deskOf s x := fun x => by
        rw [deskOf_modifyDesk _ _ _ _ (by rw [taken]; exact range), desk, desk]
      exact ⟨_, close, by rw [modified, if_pos rfl], fun x _ hx => by rw [modified, if_neg hx], by rw [taken]; rfl,
        by rw [taken]; rfl⟩
    · rw [badDeskReply_of_third (by rw [desk]; exact hp) (by rw [desk]; exact hm)] at close
      refine ⟨_, close, lostDesk_of_window taken range, absent _ ?_⟩
      rw [deskAbsentOp_of_third hp hm, if_pos hclose]
  · refine ⟨_, absent _ (deskAbsentOp_of_third hp hm), ?_⟩
    split
    · exact lostDesk_of_window taken range
    · exact lostDesk_loseDesk range
end Sys2Proof.Machine
end

section
/-! PROOF. A good reply of an interpreter desk, in its order (O44). -/
namespace Sys2Proof.Machine

/-! ### Holders of a language after a change that keeps state and language of every desk -/

section
variable {s t : State}

theorem hasHolder_congr (hdesks : t.booth.desks.map (fun d => (d.state, d.output)) =
      s.booth.desks.map (fun d => (d.state, d.output))) (hmembers : memberPeers t = memberPeers s) (l : Nat) :
    hasHolder t l = hasHolder s l := by
  have own (v : State) : (∃ x ∈ v.booth.desks, x.state = .onAir ∧ x.output = some l) ↔
      ((.onAir : DeskState), some l) ∈ v.booth.desks.map (fun d => (d.state, d.output)) := by simp
  rw [Bool.eq_iff_iff, hasHolder_iff, hasHolder_iff, own, own, hdesks, hmembers]

theorem map_modifyDesk {β : Type} (g : Desk → β) {f : Desk → Desk} (h : ∀ d, g (f d) = g d) (e : Nat) (s : State) :
    (modifyDesk e f s).booth.desks.map g = s.booth.desks.map g := by
  refine List.ext_getElem? fun i => ?_
  simp only [modifyDesk, List.getElem?_map, List.getElem?_modify]
  cases s.booth.desks[i]? with
  | none => rfl
  | some d => by_cases hi : e = i <;> simp [hi, h]

/-- What Auto resolves to follows from the floor, the context, the holders and the desk's own languages. -/
theorem resolveAuto_congr (hfloor : floorLanguage t = floorLanguage s) (hcontext : context t = context s)
    (hholders : ∀ l, hasHolder t l = hasHolder s l) {d d' : Desk} (houtput : d'.output = d.output)
    (hunderstood : d'.understood = d.understood) : resolveAuto t d' = resolveAuto s d := by
  simp only [resolveAuto, hfloor, hcontext, hholders, houtput, hunderstood]

/-- A change that keeps state and language of every desk resolves Auto as before. -/
theorem resolveAuto_modifyDesk {f : Desk → Desk} (h : ∀ d, ((f d).state, (f d).output) = (d.state, d.output)) (e : Nat)
    (s : State) {d d' : Desk} (houtput : d'.output = d.output) (hunderstood : d'.understood = d.understood) :
    resolveAuto (modifyDesk e f s) d' = resolveAuto s d :=
  resolveAuto_congr (t := modifyDesk e f s) (s := s) rfl rfl (hasHolder_congr (map_modifyDesk _ h e s) rfl) houtput
    hunderstood
end

/-! ### The steps of a good reply, on the desk -/

section
variable {s : State} {e : Nat}

theorem deskOf_modifyDesk_of_ne {x : Nat} (hx : x ≠ e) {f : Desk → Desk} : deskOf (modifyDesk e f s) x = deskOf s x := by
  simp [deskOf, modifyDesk, List.getD_eq_getElem?_getD, Ne.symm hx]

/-- The desk of a good reply, before its language and its selection. -/
def heardDesk (c : ReplyClass) (d : Desk) : Desk :=
  { d with miss := 0, noise := noiseAfter c d.noise, present := true, ack := !d.ack }

theorem deskOf_hearDesk (he : e < s.booth.desks.length) (c : ReplyClass) (x : Nat) :
    deskOf (hearDesk e c s) x = if x = e then heardDesk c (deskOf s e) else deskOf s x :=
  deskOf_modifyDesk e x (heardDesk c) s he

theorem hearDesk_length (c : ReplyClass) : (hearDesk e c s).booth.desks.length = s.booth.desks.length := by
  simp [hearDesk]

/-- The language l has come to the desk: state before the sources are worked out again. -/
def turnedDesk (e l : Nat) (s : State) : State := modifyDesk e (takeLanguage l) (standDown e s)

/-- The desk that has turned to language l. -/
def newLanguage (v : State) (l : Nat) (d : Desk) : Desk :=
  { takeLanguage l { d with state := .off } with
    pendingSource := sourceOf v (takeLanguage l { d with state := .off })
    source := if (takeLanguage l { d with state := .off }).source = .language l then .floor
      else (takeLanguage l { d with state := .off }).source }

theorem deskOf_changeLanguage (he : e < s.booth.desks.length) (l x : Nat) :
    deskOf (changeLanguage e l s) x = if x = e then newLanguage (turnedDesk e l s) l (deskOf s e) else deskOf s x := by
  rw [changeLanguage_eq, deskOf_modifyDesk _ _ _ _ (by rw [standDown_length]; exact he), deskOf_standDown, deskOf_standDown]
  by_cases hx : x = e
  · simp only [hx, if_true]
    rfl
  · simp [hx]

theorem changeLanguage_length (l : Nat) : (changeLanguage e l s).booth.desks.length = s.booth.desks.length := by
  rw [changeLanguage_eq, modifyDesk_length, standDown_length]

theorem relayRefused_iff {d : Desk} {o : Nat} (h : d.output = some o) (r : Relay) :
    relayRefused d r = true ↔ r = .language o := by
  cases r <;> simp [relayRefused, h]

theorem takeRelay_of_kept {d : Desk} {o : Nat} {r : Relay} (ho : d.output = some o) (h : r = .language o ∨ d.relay = r) :
    takeRelay r d = { d with reported := some r, loopMark := false } := by
  refine if_pos ?_
  rw [Bool.or_eq_true, relayRefused_iff ho]
  simpa using h

theorem takeRelay_of_new {d : Desk} {o : Nat} {r : Relay} (ho : d.output = some o) (h : r ≠ .language o) (hr : d.relay ≠ r) :
    takeRelay r d = { d with reported := some r, loopMark := false, relay := r, selectionAge := 0 } := by
  refine if_neg ?_
  rw [Bool.or_eq_true, relayRefused_iff ho]
  simpa using ⟨h, hr⟩

theorem takeRelay_kept (r : Relay) (d : Desk) : ((takeRelay r d).state, (takeRelay r d).output) = (d.state, d.output) ∧
    (takeRelay r d).understood = d.understood ∧ (takeRelay r d).engaged = d.engaged ∧
    (takeRelay r d).pendingSource = d.pendingSource ∧ (takeRelay r d).source = d.source ∧
    (takeRelay r d).present = d.present ∧ (takeRelay r d).miss = d.miss ∧ (takeRelay r d).ack = d.ack ∧
    (takeRelay r d).noise = d.noise := by
  unfold takeRelay
  split <;> simp

/-- A selection that names the language l gives way to Floor. -/
def keptRelay (l : Nat) (d : Desk) : Relay := if d.relay = .language l then .floor else d.relay

/-- What the desk has after the language of a good reply: counts, flag and language as the reply says. -/
structure Heard (c : ReplyClass) (l : Nat) (d d' : Desk) : Prop where
  output : d'.output = some l
  counts : d'.present = true ∧ d'.miss = 0 ∧ d'.ack = !d.ack ∧ d'.noise = noiseAfter c d.noise
  reported : d'.reported = d.reported

/-- A relay of the language of a good reply is to Floor after it. -/
structure Turned (l : Nat) (d d' : Desk) : Prop where
  relay : d'.relay = keptRelay l d
  loopMark : d'.loopMark = if d.relay = .language l then false else d.loopMark
  selectionAge : d'.selectionAge = if d.relay = .language l then 0 else d.selectionAge

theorem heard_newLanguage (c : ReplyClass) (l : Nat) (v : State) (d : Desk) :
    Heard c l d (newLanguage v l (heardDesk c d)) := by
  by_cases h : d.relay = .language l
  · constructor <;> simp [newLanguage, takeLanguage, heardDesk, h]
  · constructor <;> simp [newLanguage, takeLanguage, heardDesk, h]

theorem turned_newLanguage (c : ReplyClass) (l : Nat) (v : State) (d : Desk) :
    Turned l d (newLanguage v l (heardDesk c d)) := by
  by_cases h : d.relay = .language l
  · constructor <;> simp [newLanguage, takeLanguage, heardDesk, keptRelay, h]
  · constructor <;> simp [newLanguage, takeLanguage, heardDesk, keptRelay, h]

theorem turned_heardDesk {c : ReplyClass} {l : Nat} {d : Desk} (h : d.relay ≠ .language l) :
    Turned l d (heardDesk c d) := by
  constructor <;> simp [heardDesk, keptRelay, h]

/-- A good reply up to its Mic key. -/
def answeredDesk (e : Nat) (c : ReplyClass) (r : DeskContent) (s : State) : State :=
  takeReported e r.relay (!(deskOf s e).present) (takeOutput e r.output (!(deskOf s e).present) (hearDesk e c s))

/-- The reply brings another language than the desk had, or the desk was Absent. -/
def OutputChanged (l : Nat) (d : Desk) : Prop := d.present = false ∨ d.output ≠ some l

/-- The reply reports another selection than before, or the desk was Absent. -/
def RelayReported (r : Relay) (d : Desk) : Prop := d.present = false ∨ d.reported ≠ some r

variable (c : ReplyClass) (r : DeskContent)

theorem takeOutput_of_changed (he : e < s.booth.desks.length) {l : Nat} (h : OutputChanged l (deskOf s e)) :
    takeOutput e l (!(deskOf s e).present) (hearDesk e c s) = changeLanguage e l (hearDesk e c s) := by
  unfold takeOutput
  rw [if_pos]
  rw [deskOf_hearDesk he, if_pos rfl]
  simpa [OutputChanged, heardDesk] using h

theorem takeOutput_of_unchanged (he : e < s.booth.desks.length) {l : Nat} (h : ¬ OutputChanged l (deskOf s e)) :
    takeOutput e l (!(deskOf s e).present) (hearDesk e c s) = hearDesk e c s := by
  unfold takeOutput
  rw [if_neg]
  rw [deskOf_hearDesk he, if_pos rfl]
  simpa [OutputChanged, heardDesk] using h

theorem heard_takeOutput (he : e < s.booth.desks.length) (l : Nat) :
    Heard c l (deskOf s e) (deskOf (takeOutput e l (!(deskOf s e).present) (hearDesk e c s)) e) := by
  by_cases h : OutputChanged l (deskOf s e)
  · rw [takeOutput_of_changed c he h, deskOf_changeLanguage (by rw [hearDesk_length]; exact he), if_pos rfl,
      deskOf_hearDesk he, if_pos rfl]
    exact heard_newLanguage c l _ _
  · obtain ⟨hp, ho⟩ : (deskOf s e).present = true ∧ (deskOf s e).output = some l := by
      simpa [OutputChanged] using h
    rw [takeOutput_of_unchanged c he h, deskOf_hearDesk he, if_pos rfl]
    exact ⟨ho, ⟨rfl, rfl, rfl, rfl⟩, rfl⟩

theorem turned_takeOutput (he : e < s.booth.desks.length) (law : RelayLaw s) (l : Nat) :
    Turned l (deskOf s e) (deskOf (takeOutput e l (!(deskOf s e).present) (hearDesk e c s)) e) := by
  by_cases h : OutputChanged l (deskOf s e)
  · rw [takeOutput_of_changed c he h, deskOf_changeLanguage (by rw [hearDesk_length]; exact he), if_pos rfl,
      deskOf_hearDesk he, if_pos rfl]
    exact turned_newLanguage c l _ _
  · obtain ⟨-, ho⟩ : (deskOf s e).present = true ∧ (deskOf s e).output = some l := by
      simpa [OutputChanged] using h
    rw [takeOutput_of_unchanged c he h, deskOf_hearDesk he, if_pos rfl]
    refine turned_heardDesk ?_
    have member : deskOf s e ∈ s.booth.desks := by
      simp [deskOf, List.getD_eq_getElem?_getD, he]
    exact (law _ member l ho).1

theorem deskOf_answeredDesk (he : e < s.booth.desks.length) :
    let d := deskOf (takeOutput e r.output (!(deskOf s e).present) (hearDesk e c s)) e
    (RelayReported r.relay (deskOf s e) → deskOf (answeredDesk e c r s) e = takeRelay r.relay d) ∧
    (¬ RelayReported r.relay (deskOf s e) → deskOf (answeredDesk e c r s) e = d) := by
  intro d
  have same : d.reported = (deskOf s e).reported := (heard_takeOutput c he r.output).reported
  have length : e < (takeOutput e r.output (!(deskOf s e).present) (hearDesk e c s)).booth.desks.length := by
    unfold takeOutput
    split
    · rw [changeLanguage_length, hearDesk_length]; exact he
    · rw [hearDesk_length]; exact he
  constructor
  · intro h
    unfold answeredDesk takeReported
    rw [if_pos, deskOf_modifyDesk _ _ _ _ length, if_pos rfl]
    rw [show (deskOf (takeOutput e r.output (!(deskOf s e).present) (hearDesk e c s)) e).reported = _ from same]
    simpa [RelayReported] using h
  · intro h
    unfold answeredDesk takeReported
    rw [if_neg]
    rw [show (deskOf (takeOutput e r.output (!(deskOf s e).present) (hearDesk e c s)) e).reported = _ from same]
    simpa [RelayReported] using h

theorem deskOf_answeredDesk_of_ne {x : Nat} (hx : x ≠ e) : deskOf (answeredDesk e c r s) x = deskOf s x := by
  have output : ∀ l b, deskOf (takeOutput e l b (hearDesk e c s)) x = deskOf s x := fun l b => by
    unfold takeOutput
    split
    · rw [changeLanguage_eq, deskOf_modifyDesk_of_ne hx, deskOf_standDown, if_neg hx]
      exact deskOf_modifyDesk_of_ne hx
    · exact deskOf_modifyDesk_of_ne hx
  unfold answeredDesk takeReported
  split
  · rw [deskOf_modifyDesk_of_ne hx, output]
  · exact output _ _

theorem answeredDesk_blocks : (answeredDesk e c r s).floor = s.floor ∧ (answeredDesk e c r s).dlc = s.dlc ∧
    (answeredDesk e c r s).port = s.port ∧ (answeredDesk e c r s).lanes = s.lanes ∧ (answeredDesk e c r s).room = s.room ∧
    (answeredDesk e c r s).peers = s.peers := by
  unfold answeredDesk takeReported takeOutput hearDesk
  repeat' split
  all_goals simp

theorem answeredDesk_claims : (answeredDesk e c r s).claims =
    (takeOutput e r.output (!(deskOf s e).present) (hearDesk e c s)).claims := by
  unfold answeredDesk takeReported
  split <;> rfl

/-- Before and after the sources and the selection are taken, Auto resolves alike. -/
theorem resolveAuto_answeredDesk (he : e < s.booth.desks.length) (h : OutputChanged r.output (deskOf s e)) {d d' : Desk}
    (houtput : d'.output = d.output) (hunderstood : d'.understood = d.understood) :
    resolveAuto (answeredDesk e c r s) d' = resolveAuto (turnedDesk e r.output (hearDesk e c s)) d := by
  have refreshed : ∀ x : Desk, x.output = d.output → x.understood = d.understood →
      resolveAuto (changeLanguage e r.output (hearDesk e c s)) x =
        resolveAuto (turnedDesk e r.output (hearDesk e c s)) d := fun x hx hu =>
    resolveAuto_modifyDesk (f := fun d => { d with
      pendingSource := sourceOf (turnedDesk e r.output (hearDesk e c s)) d
      source := if d.source = .language r.output then .floor else d.source }) (fun _ => rfl) e _ hx hu
  unfold answeredDesk takeReported
  rw [takeOutput_of_changed c he h]
  split
  · exact (resolveAuto_modifyDesk (fun x => (takeRelay_kept r.relay x).1) e _ rfl rfl).trans (refreshed d' houtput hunderstood)
  · exact refreshed d' houtput hunderstood

/-- What another language makes of the desk, and of its claims. -/
theorem answeredDesk_of_changed (he : e < s.booth.desks.length)
    (h : OutputChanged r.output (deskOf s e)) :
    let u := answeredDesk e c r s
    let d := deskOf s e
    (deskOf u e).state = .off ∧ (deskOf u e).engaged = false ∧
      (deskOf u e).pendingSource = (match keptRelay r.output d with
        | .floor => .floor
        | .language l => .language l
        | .auto => resolveAuto u (deskOf u e)) ∧
      (deskOf u e).source = (if d.source = .language r.output then .floor else d.source) ∧
      (d.state = .onAir → ∀ c ∈ u.claims.languages, c.desk = e → c.stage ≠ .hold) ∧
      (d.state = .intent → ∀ c ∈ u.claims.languages, c.desk = e → isLiveIntent c.stage = false) ∧
      (d.state ≠ .onAir → ∀ w ∈ u.claims.languageWants, w.desk ≠ e) := by
  intro u d
  have length : e < (hearDesk e c s).booth.desks.length := by rw [hearDesk_length]; exact he
  have heard : deskOf (hearDesk e c s) e = heardDesk c d := by rw [deskOf_hearDesk he, if_pos rfl]
  generalize hw : turnedDesk e r.output (hearDesk e c s) = w
  have turned : deskOf (takeOutput e r.output (!(deskOf s e).present) (hearDesk e c s)) e =
      newLanguage w r.output (heardDesk c d) := by
    rw [takeOutput_of_changed c he h, deskOf_changeLanguage length, if_pos rfl, heard, hw]
  have claims : u.claims = (standDown e (hearDesk e c s)).claims := by
    rw [answeredDesk_claims, takeOutput_of_changed c he h]
    rfl
  have state : (deskOf (hearDesk e c s) e).state = d.state := by rw [heard]; rfl
  obtain ⟨holds, intents, wants, -⟩ := standDown_claims e (hearDesk e c s)
  rw [state] at holds intents wants
  have kept : ((deskOf u e).state = .off ∧ (deskOf u e).engaged = (newLanguage w r.output (heardDesk c d)).engaged ∧
      (deskOf u e).pendingSource = (newLanguage w r.output (heardDesk c d)).pendingSource ∧
      (deskOf u e).source = (newLanguage w r.output (heardDesk c d)).source) ∧
      (deskOf u e).output = (newLanguage w r.output (heardDesk c d)).output ∧
      (deskOf u e).understood = (newLanguage w r.output (heardDesk c d)).understood := by
    have off : (newLanguage w r.output (heardDesk c d)).state = .off := takeLanguage_state _ _
    obtain ⟨reported, silent⟩ := deskOf_answeredDesk c r he
    rw [turned] at reported silent
    by_cases hr : RelayReported r.relay (deskOf s e)
    · obtain ⟨pair, hu, hen, hps, hsrc, -⟩ := takeRelay_kept r.relay (newLanguage w r.output (heardDesk c d))
      obtain ⟨hstate, hout⟩ := Prod.mk.inj pair
      rw [show deskOf u e = _ from reported hr]
      exact ⟨⟨hstate.trans off, hen, hps, hsrc⟩, hout, hu⟩
    · rw [show deskOf u e = _ from silent hr]
      exact ⟨⟨off, rfl, rfl, rfl⟩, rfl, rfl⟩
  obtain ⟨⟨koff, kengaged, kpending, ksource⟩, koutput, kunderstood⟩ := kept
  have auto : resolveAuto u (deskOf u e) = resolveAuto w (takeLanguage r.output { heardDesk c d with state := .off }) :=
    hw ▸ resolveAuto_answeredDesk c r he h koutput kunderstood
  have pending : (newLanguage w r.output (heardDesk c d)).pendingSource =
      match keptRelay r.output d with
        | .floor => .floor
        | .language l => .language l
        | .auto => resolveAuto w (takeLanguage r.output { heardDesk c d with state := .off }) := by
    have relay : (takeLanguage r.output { heardDesk c d with state := .off }).relay = keptRelay r.output d :=
      (turned_newLanguage c r.output w d).relay
    simp only [newLanguage, sourceOf, relay] <;> rfl
  have source : (newLanguage w r.output (heardDesk c d)).source = if d.source = .language r.output then .floor else d.source := by
    by_cases hr : d.relay = .language r.output <;> simp [newLanguage, takeLanguage, heardDesk, hr]
  have engaged : (newLanguage w r.output (heardDesk c d)).engaged = false := by
    by_cases hr : d.relay = .language r.output <;> simp [newLanguage, takeLanguage, heardDesk, hr]
  refine ⟨koff, by rw [kengaged, engaged], ?_, by rw [ksource, source], ?_⟩
  · rw [kpending, pending, auto]
  · rw [claims]
    exact ⟨holds, intents, wants⟩

/-- Where the language stands, so do state, engaged mark, sources and claims. -/
theorem answeredDesk_of_unchanged (he : e < s.booth.desks.length)
    (h : ¬ OutputChanged r.output (deskOf s e)) :
    let u := answeredDesk e c r s
    let d := deskOf s e
    (deskOf u e).state = d.state ∧ (deskOf u e).engaged = d.engaged ∧ u.claims = s.claims ∧
      (deskOf u e).pendingSource = d.pendingSource ∧ (deskOf u e).source = d.source := by
  intro u d
  have silentOutput := takeOutput_of_unchanged c he h
  have claims : u.claims = s.claims := by
    rw [answeredDesk_claims, silentOutput]
    rfl
  obtain ⟨reported, silent⟩ := deskOf_answeredDesk c r he
  rw [silentOutput, deskOf_hearDesk he, if_pos rfl] at reported silent
  by_cases hr : RelayReported r.relay (deskOf s e)
  · obtain ⟨pair, -, hen, hps, hsrc, -⟩ := takeRelay_kept r.relay (heardDesk c d)
    rw [show deskOf u e = _ from reported hr]
    exact ⟨(Prod.mk.inj pair).1, hen, claims, hps, hsrc⟩
  · rw [show deskOf u e = _ from silent hr]
    exact ⟨rfl, rfl, claims, rfl, rfl⟩

/-- The counts and the language of the desk after a good reply. -/
theorem answeredDesk_counts (he : e < s.booth.desks.length) :
    (deskOf (answeredDesk e c r s) e).present = true ∧ (deskOf (answeredDesk e c r s) e).miss = 0 ∧
    (deskOf (answeredDesk e c r s) e).ack = (!(deskOf s e).ack) ∧
    (deskOf (answeredDesk e c r s) e).noise = noiseAfter c (deskOf s e).noise ∧
    (deskOf (answeredDesk e c r s) e).output = some r.output := by
  obtain ⟨output, ⟨hpresent, hmiss, hack, hnoise⟩, -⟩ := heard_takeOutput c he r.output
  obtain ⟨reported, silent⟩ := deskOf_answeredDesk c r he
  generalize deskOf (takeOutput e r.output (!(deskOf s e).present) (hearDesk e c s)) e = x at *
  by_cases hr : RelayReported r.relay (deskOf s e)
  · obtain ⟨pair, -, -, -, -, kpresent, kmiss, kack, knoise⟩ := takeRelay_kept r.relay x
    rw [reported hr]
    exact ⟨kpresent.trans hpresent, kmiss.trans hmiss, kack.trans hack, knoise.trans hnoise,
      (Prod.mk.inj pair).2.trans output⟩
  · rw [silent hr]
    exact ⟨hpresent, hmiss, hack, hnoise, output⟩

/-- The selection of the desk after a good reply. -/
theorem answeredDesk_selection (he : e < s.booth.desks.length) (law : RelayLaw s) :
    let u := answeredDesk e c r s
    let d := deskOf s e
    let taken := RelayReported r.relay d ∧ r.relay ≠ .language r.output ∧ r.relay ≠ keptRelay r.output d
    (RelayReported r.relay d → (deskOf u e).reported = some r.relay ∧ (deskOf u e).loopMark = false) ∧
    (¬ RelayReported r.relay d → (deskOf u e).reported = d.reported ∧
      (deskOf u e).loopMark = if d.relay = .language r.output then false else d.loopMark) ∧
    (taken → (deskOf u e).relay = r.relay ∧ (deskOf u e).selectionAge = 0) ∧
    (¬ taken → (deskOf u e).relay = keptRelay r.output d ∧
      (deskOf u e).selectionAge = if d.relay = .language r.output then 0 else d.selectionAge) := by
  intro u d taken
  obtain ⟨output, -, hreported⟩ := heard_takeOutput c he r.output
  obtain ⟨hrelay, hloop, hage⟩ := turned_takeOutput c he law r.output
  obtain ⟨reported, silent⟩ := deskOf_answeredDesk c r he
  generalize deskOf (takeOutput e r.output (!(deskOf s e).present) (hearDesk e c s)) e = x at *
  by_cases hr : RelayReported r.relay d
  · rw [show deskOf u e = takeRelay r.relay x from reported hr]
    refine ⟨fun _ => by unfold takeRelay; split <;> exact ⟨rfl, rfl⟩, fun h => absurd hr h, fun ht => ?_, fun ht => ?_⟩
    · rw [takeRelay_of_new output ht.2.1 (fun heq => ht.2.2 (heq.symm.trans hrelay))]
      exact ⟨rfl, rfl⟩
    · have same : r.relay = .language r.output ∨ x.relay = r.relay := by
        by_contra hne
        rw [not_or] at hne
        exact ht ⟨hr, hne.1, fun heq => hne.2 (hrelay.trans heq.symm)⟩
      rw [takeRelay_of_kept output same]
      exact ⟨hrelay, hage⟩
  · rw [show deskOf u e = x from silent hr]
    exact ⟨fun h => absurd h hr, fun _ => ⟨hreported, hloop⟩, fun ht => absurd ht.1 hr, fun _ => ⟨hrelay, hage⟩⟩
end

/-- Settles O44: language, selection and Mic key are taken in this order, each on the desk that the one before leaves. -/
theorem goodDeskReply_in_order : Obligations.GoodDeskReply := by
  intro s e r hs hsize law hclose he hended hframed hdesk houtput relay hrelay h0 output clean d changed reported kept taken
  obtain ⟨-, -, -, -, -, -, hdesks⟩ := hsize
  obtain ⟨w, x, window⟩ := takeBoothWindow_booth (s := s)
  have desk : ∀ y, deskOf (takeBoothWindow s) y = deskOf s y := fun y => by rw [window]; rfl
  have range : e < (takeBoothWindow s).booth.desks.length := by rw [window]; exact hdesks ▸ he
  have law' : RelayLaw (takeBoothWindow s) := by rw [window]; exact law
  have blocks : (takeBoothWindow s).floor = s.floor ∧ (takeBoothWindow s).dlc = s.dlc ∧ (takeBoothWindow s).port = s.port ∧
      (takeBoothWindow s).lanes = s.lanes ∧ (takeBoothWindow s).room = s.room ∧ (takeBoothWindow s).peers = s.peers ∧
      (takeBoothWindow s).claims = s.claims := by rw [window]; exact ⟨rfl, rfl, rfl, rfl, rfl, rfl, rfl⟩
  obtain ⟨wfloor, wdlc, wport, wlanes, wroom, wpeers, wclaims⟩ := blocks
  have cls := classifyDesk_of_good hrelay h0 hended hframed hdesk houtput
  generalize hc : classifyDesk e (some r) = c at cls
  have noise : noiseAfter c d.noise = if clean then d.noise else min (d.noise + 1) 255 := by
    by_cases hclean : deskAgreed r = true
    · have : clean := (deskAgreed_iff r).mp hclean
      simp [cls, noiseAfter, hclean, this]
    · have : ¬ clean := mt (deskAgreed_iff r).mpr hclean
      simp [cls, noiseAfter, hclean, this, satInc]
  let content : DeskContent := ⟨(fieldValue r.desk).toNat, bitValue r.mic, output, relay⟩
  have good : closeBoothWindow e (some r) (takeBoothWindow s) = evalDemand (if bitValue r.mic = true then
      deskPress e (answeredDesk e c content (takeBoothWindow s)) else answeredDesk e c content (takeBoothWindow s)) := by
    rw [closeBoothWindow_of_good (deskContent_eq hrelay) (by rw [hc, cls]; by_cases h : deskAgreed r = true <;> simp [h]),
      hc, goodDeskReply_eq]
    rfl
  have selection := answeredDesk_selection c content range law'
  have counts := answeredDesk_counts c content range
  have turned := answeredDesk_of_changed c content range
  have stays := answeredDesk_of_unchanged c content range
  have others := fun y => deskOf_answeredDesk_of_ne (s := takeBoothWindow s) (e := e) (x := y) c content
  obtain ⟨ufloor, udlc, uport, ulanes, uroom, upeers⟩ := answeredDesk_blocks (s := takeBoothWindow s) (e := e) c content
  simp only [desk] at selection counts turned stays others
  obtain ⟨hreported, hsilent, htaken, hkept⟩ := selection
  obtain ⟨hpresent, hmiss, hack, hnoise, hout⟩ := counts
  exact ⟨_, _, exec_boothWindowClose hs hclose _, good, by rw [good]; rfl, by rw [good]; rfl, by rw [good]; rfl,
    hpresent, hmiss, hack, hnoise.trans noise, hout, hreported, hsilent, htaken, hkept, turned,
    fun h => by rw [← wclaims]; exact stays h, fun y _ hy => others y hy, by rw [ufloor, wfloor], by rw [udlc, wdlc],
    by rw [uport, wport], by rw [ulanes, wlanes], by rw [uroom, wroom], by rw [upeers, wpeers]⟩
end Sys2Proof.Machine
end

section
/-! PROOF. The Mic press of an interpreter desk (O46). -/
namespace Sys2Proof.Machine

section
variable {s : State} {e l : Nat}

theorem mem_holders_iff (h : Holder) : h ∈ holders s l ↔ (h ∈ ownHolders s ∨ h ∈ peerHolders s) ∧ h.output = l := by
  simp [holders, or_and_right]

/-- The first holder by an age is one with the greatest. -/
theorem firstHolder_of_ne_nil (age : Holder → Nat) {hs : List Holder} (hne : hs ≠ []) :
    ∃ h ∈ hs, firstHolder age hs = some h ∧ ∀ x ∈ hs, age x < age h ∨ age x = age h ∧
      (h.station < x.station ∨ h.station = x.station ∧ h.desk ≤ x.desk) := by
  have before : ∀ a b : Holder, (age a > age b || (age a == age b && (a.station < b.station ||
      (a.station == b.station && a.desk < b.desk)))) = true ↔
      age b < age a ∨ age a = age b ∧ (a.station < b.station ∨ a.station = b.station ∧ a.desk < b.desk) := fun a b => by
    simp
  have before_false : ∀ a b : Holder, (age a > age b || (age a == age b && (a.station < b.station ||
      (a.station == b.station && a.desk < b.desk)))) = false ↔
      age a < age b ∨ age a = age b ∧ (b.station < a.station ∨ b.station = a.station ∧ b.desk ≤ a.desk) := fun a b => by
    rw [← Bool.not_eq_true, before]
    omega
  obtain ⟨h, hh, hhead, first⟩ := head?_sortBy (fun a b : Holder => age a > age b || (age a == age b && (a.station < b.station ||
      (a.station == b.station && a.desk < b.desk))))
    (fun a b h => by rw [before_false]; rw [before] at h; omega)
    (fun a b c h k => by rw [before_false] at *; omega) hne
  exact ⟨h, hh, hhead, fun x hx => (before_false x h).mp (first x hx)⟩

theorem languagePending_iff : languagePending s e = true ↔ ∃ w ∈ s.claims.languageWants, w.desk = e := by
  simp [languagePending]

theorem deskPress_of_onAir (h : (deskOf s e).state = .onAir) : deskPress e s = standDown e s := by
  simp only [deskPress, standDown, h]

theorem deskPress_of_intent (h : (deskOf s e).state = .intent) : deskPress e s = standDown e s := by
  simp only [deskPress, standDown, h]

theorem deskPress_of_wanted (h : (deskOf s e).state = .off) (hw : ∃ w ∈ s.claims.languageWants, w.desk = e) :
    deskPress e s = withdrawDesk e s := by
  simp only [deskPress, h, languagePending_iff.mpr hw, if_true]

theorem deskPress_of_off (h : (deskOf s e).state = .off) (hw : ∀ w ∈ s.claims.languageWants, w.desk ≠ e)
    (hl : (deskOf s e).output = some l) : deskPress e s = pressOffDesk e l s := by
  have none : languagePending s e = false := by
    rw [← Bool.not_eq_true, languagePending_iff]
    exact fun ⟨w, hw', heq⟩ => hw w hw' heq
  simp only [deskPress, h, none, hl]
  rfl

/-- A want of a desk without an entry joins the want list. -/
theorem fileLanguageWant_of_fresh {w : LanguageWant} (hstate : s.station.state ≠ .unconfigured)
    (hw : ∀ x ∈ s.claims.languageWants, x.desk ≠ w.desk)
    (hc : ∀ c ∈ s.claims.languages, c.desk = w.desk → c.stage = .intent true) :
    fileLanguageWant w s = { s with claims := { s.claims with languageWants := s.claims.languageWants ++ [w] } } := by
  have free : s.claims.languages.any (fun c => c.desk == w.desk && c.stage != .intent true) = false := by
    simp only [List.any_eq_false, Bool.and_eq_true, beq_iff_eq, bne_iff_ne, not_and, not_not]
    exact hc
  have all : s.claims.languageWants.filter (fun x => x.desk != w.desk) = s.claims.languageWants :=
    List.filter_eq_self.mpr fun x hx => by simpa using hw x hx
  unfold fileLanguageWant
  simp [hstate, free, all]

/-- The desk without its engaged mark. -/
theorem deskOf_clearEngaged (x : Nat) : deskOf (modifyDesk e (fun d => { d with engaged := false }) s) x =
    if x = e then { deskOf s x with engaged := false } else deskOf s x :=
  deskOf_modifyDesk_of_initial rfl e x s

theorem deskPress_kept (e : Nat) (s : State) : deskPress e s = { s with
    booth := (deskPress e s).booth, claims := (deskPress e s).claims
    port := { s.port with flags := (deskPress e s).port.flags } } := by
  have port := (Port.eq_flagged_iff (deskPress e s).port s.port).mpr (by simp)
  rw [State.eq_iff]
  exact ⟨by simp, by simp, by simp, by simp, by simp, rfl, by simp, by simp, rfl, by simp, by simp, by simp, port, by simp⟩

theorem deskOf_fileLanguageWant_of_ne {w : LanguageWant} {x : Nat} (hx : x ≠ w.desk) :
    deskOf (fileLanguageWant w s) x = deskOf s x := by
  unfold fileLanguageWant
  repeat' split
  · exact deskOf_modifyDesk_of_ne hx
  · rfl
  · rfl

theorem deskOf_deskPress_of_ne {x : Nat} (hx : x ≠ e) : deskOf (deskPress e s) x = deskOf s x := by
  have cleared : deskOf (modifyDesk e (fun d => { d with engaged := false }) s) x = deskOf s x := deskOf_modifyDesk_of_ne hx
  unfold deskPress
  split
  · exact deskOf_modifyDesk_of_ne hx
  · exact deskOf_modifyDesk_of_ne hx
  · split
    · rfl
    · split
      · unfold pressOffDesk
        repeat' split
        · exact (deskOf_fileLanguageWant_of_ne hx).trans cleared
        · exact deskOf_modifyDesk_of_ne hx
        · exact (deskOf_fileLanguageWant_of_ne hx).trans cleared
      · rfl
end

/-- Settles O46, by the state of the desk and, for one that is Off, by the holders of its language. -/
theorem deskPress_by_state : Obligations.DeskPress := by
  intro s e l hsize he hstate houtput t fresh
  obtain ⟨-, -, -, -, -, -, hdesks⟩ := hsize
  have range : e < s.booth.desks.length := by omega
  obtain ⟨holds, intents, -, -⟩ := standDown_claims e s
  have filed (hf : fresh) (d : Option Named) :
      fileLanguageWant ⟨e, l, d⟩ (modifyDesk e (fun d => { d with engaged := false }) s) =
        { modifyDesk e (fun d => { d with engaged := false }) s with
          claims := { s.claims with languageWants := s.claims.languageWants ++ [⟨e, l, d⟩] } } :=
    fileLanguageWant_of_fresh (s := modifyDesk e (fun d => { d with engaged := false }) s) hstate hf.2.1 hf.2.2
  have cleared : (deskOf (modifyDesk e (fun d => { d with engaged := false }) s) e).engaged = false := by
    rw [deskOf_clearEngaged, if_pos rfl]
  refine ⟨⟨fun x _ hx => deskOf_deskPress_of_ne hx, deskPress_kept e s⟩, fun h => ?_, fun h => ?_, fun h hw => ?_,
    fun hf hnone => ?_, fun hf hsome hlock => ?_, fun hf hsome hlock => ?_⟩
  · rw [show t = standDown e s from deskPress_of_onAir h]
    exact ⟨by rw [deskOf_standDown, if_pos rfl], holds h⟩
  · rw [show t = standDown e s from deskPress_of_intent h]
    exact ⟨by rw [deskOf_standDown, if_pos rfl], intents h⟩
  · rw [show t = withdrawDesk e s from deskPress_of_wanted h hw]
    exact ⟨by simp, rfl⟩
  · have press : t = fileLanguageWant ⟨e, l, none⟩ (modifyDesk e (fun d => { d with engaged := false }) s) := by
      rw [show t = pressOffDesk e l s from deskPress_of_off hf.1 hf.2.1 houtput, pressOffDesk, hnone]
      rfl
    rw [press, filed hf]
    exact ⟨cleared, rfl, rfl⟩
  · obtain ⟨h, -, hfirst, -⟩ := firstHolder_of_ne_nil (·.onAirAge) hsome
    have press : t = engageDesk e s := by
      rw [show t = pressOffDesk e l s from deskPress_of_off hf.1 hf.2.1 houtput, pressOffDesk, hfirst]
      exact if_pos hlock
    rw [press]
    refine ⟨?_, (raise_getLsbD _ _ _).mpr (.inr rfl), rfl⟩
    exact (congrArg Desk.engaged (deskOf_modifyDesk e e (fun d => { d with engaged := true }) s range)).trans (by simp)
  · obtain ⟨h, hmem, hfirst, first⟩ := firstHolder_of_ne_nil (·.onAirAge) hsome
    have press : t = fileLanguageWant ⟨e, l, some ⟨h.station, h.desk⟩⟩
        (modifyDesk e (fun d => { d with engaged := false }) s) := by
      rw [show t = pressOffDesk e l s from deskPress_of_off hf.1 hf.2.1 houtput, pressOffDesk, hfirst]
      exact if_neg (by rw [hlock]; decide)
    rw [press, filed hf]
    exact ⟨cleared, h, hmem, fun x hx => (first x hx).elim Nat.le_of_lt fun heq => heq.1.le, rfl⟩
end Sys2Proof.Machine
end

section
/-! PROOF. A house sync mark (O13). -/
namespace Sys2Proof.Machine

/-! ### What the closing of a window leaves of the other units and desks -/

section
variable {s : State} {a b : Nat}

theorem unitOf_modifyUnit_of_ne (h : b ≠ a) (f : UnitEntry → UnitEntry) : unitOf (modifyUnit a f s) b = unitOf s b := by
  by_cases hb : b = 0
  · simp [unitOf, hb]
  by_cases ha : a = 0
  · simp [modifyUnit, ha]
  · have : a - 1 ≠ b - 1 := by omega
    simp [unitOf, modifyUnit, hb, ha, List.getD_eq_getElem?_getD, this]

theorem unitOf_of_dlc {t : State} (h : t.dlc = s.dlc) (b : Nat) : unitOf t b = unitOf s b := by simp only [unitOf, h]

theorem unitOf_reportedUnit_of_ne (h : b ≠ a) (c : ReplyClass) (r : UnitContent) :
    unitOf (reportedUnit a c r s) b = unitOf s b := by
  have heard : unitOf (heardUnit a c s) b = unitOf s b := by
    rw [← unitOf_modifyUnit_of_ne (s := s) h (fun u =>
      { u with miss := 0, noise := noiseAfter c u.noise, present := true, ack := !u.ack })]
    exact unitOf_of_dlc (by simp [heardUnit]) b
  have chosen : ∀ sel fresh v, unitOf (takeSelection a sel fresh v) b = unitOf v b := by
    intro sel fresh v
    unfold takeSelection
    split
    · rw [unitOf_modifyUnit_of_ne h]
      exact unitOf_of_dlc (by simp) b
    · rfl
  have tagged : ∀ tag v, unitOf (takeTag a tag v) b = unitOf v b := by
    intro tag v
    unfold takeTag
    split
    · rfl
    · exact unitOf_modifyUnit_of_ne h _
  rw [reportedUnit, unitOf_modifyUnit_of_ne h, tagged, chosen, heard]

theorem unitOf_closeWindow_of_ne (h : b ≠ a) (reply : Option UnitReply) : unitOf (closeWindow a reply s) b = unitOf s b := by
  have good : ∀ c r, unitOf (goodReply a c r s) b = unitOf s b := fun c r => by
    rw [goodReply_eq, (pressed_dispatchKeys a _ r.keys).others b h, unitOf_reportedUnit_of_ne h]
  have lost : unitOf (loseUnit a s) b = unitOf s b := by
    rw [loseUnit_eq, unitOf_of_dlc (t := dropSelection a (abandonedSeat a s)) (s := abandonedSeat a s) (by simp [dropSelection]) b,
      unitOf_abandonedSeat]
    exact unitOf_modifyUnit_of_ne h _
  have bad : unitOf (badReply a s) b = unitOf s b := by
    unfold badReply
    repeat' split
    · rfl
    · exact lost
    · exact unitOf_modifyUnit_of_ne h _
  unfold closeWindow
  split
  · exact good _ _
  · exact good _ _
  · exact bad

theorem unitOf_goodReply (h1 : 1 ≤ a) (h60 : a ≤ s.dlc.units.length) (c : ReplyClass) (r : UnitContent) :
    (unitOf (goodReply a c r s) a).present = true ∧ (unitOf (goodReply a c r s) a).miss = 0 ∧
    (unitOf (goodReply a c r s) a).ack = (!(unitOf s a).ack) ∧ (unitOf (goodReply a c r s) a).keys = r.keys := by
  rw [goodReply_eq, (pressed_dispatchKeys a _ r.keys).unit, unitOf_reportedUnit c r h1 h60, if_pos rfl]
  exact ⟨rfl, rfl, rfl, rfl⟩

theorem unitOf_badReply (h1 : 1 ≤ a) (h60 : a ≤ s.dlc.units.length) (hp : (unitOf s a).present = true)
    (hm : (unitOf s a).miss ≤ 2) : (unitOf (badReply a s) a).miss = (unitOf s a).miss + 1 ∧
      ((unitOf (badReply a s) a).present = true ↔ (unitOf s a).miss < 2) := by
  by_cases h2 : (unitOf s a).miss < 2
  · rw [badReply_of_early hp h2, unitOf_modifyUnit a a _ s h1 h1 h60, if_pos rfl]
    exact ⟨rfl, iff_of_true hp h2⟩
  · have kept : unitOf (loseUnit a s) a = unitOf (absentUnit a s) a := by
      rw [loseUnit_eq, ← unitOf_abandonedSeat]
      exact unitOf_of_dlc (by simp [dropSelection]) a
    rw [badReply_of_third hp (by omega), kept, unitOf_absentUnit h1 h60, if_pos rfl]
    refine ⟨?_, iff_of_false (by simp) h2⟩
    show 3 = (unitOf s a).miss + 1
    omega
end

section
variable {β : Type} {g : Desk → β} {s : State} {e x : Nat}

/-- A reading of a desk that leaves out state and engaged mark. -/
structure Calm (g : Desk → β) : Prop where
  state : ∀ d y, g { d with state := y } = g d
  engaged : ∀ d y, g { d with engaged := y } = g d

theorem map_standDown (calm : Calm g) (e : Nat) (s : State) :
    (standDown e s).booth.desks.map g = s.booth.desks.map g := by
  rcases standDown_cases e s with ⟨-, h⟩ | ⟨-, h⟩ | ⟨-, -, h⟩
  · rw [h]
    exact map_modifyDesk g (fun d => calm.state d _) e s
  · rw [h]
    exact map_modifyDesk g (fun d => calm.state d _) e s
  · rw [h]

theorem map_fileLanguageWant (calm : Calm g) (w : LanguageWant) (s : State) :
    (fileLanguageWant w s).booth.desks.map g = s.booth.desks.map g := by
  unfold fileLanguageWant
  repeat' split
  · exact map_modifyDesk g (fun d => calm.engaged d _) w.desk s
  · rfl
  · rfl

theorem map_deskPress (calm : Calm g) (e : Nat) (s : State) : (deskPress e s).booth.desks.map g = s.booth.desks.map g := by
  have cleared := map_modifyDesk g (fun d => calm.engaged d false) e s
  unfold deskPress
  split
  · exact map_modifyDesk g (fun d => calm.state d _) e s
  · exact map_modifyDesk g (fun d => calm.state d _) e s
  · split
    · rfl
    · split
      · unfold pressOffDesk
        repeat' split
        · exact (map_fileLanguageWant calm _ _).trans cleared
        · exact map_modifyDesk g (fun d => calm.engaged d true) e s
        · exact (map_fileLanguageWant calm _ _).trans cleared
      · rfl

theorem deskOf_of_map {t : State} (h : t.booth.desks.map g = s.booth.desks.map g) (x : Nat) :
    g (deskOf t x) = g (deskOf s x) := by
  have entry := congrArg (·[x]?) h
  simp only [List.getElem?_map] at entry
  unfold deskOf
  rw [List.getD_eq_getElem?_getD, List.getD_eq_getElem?_getD]
  cases ht : t.booth.desks[x]? <;> cases hs : s.booth.desks[x]? <;> simp [ht, hs] at entry
  · rfl
  · exact entry

/-- What the sync mark reads of a desk. -/
def deskFace (d : Desk) : Bool × Nat × Bool × Option Nat := (d.present, d.miss, d.ack, d.output)

theorem deskFace_eq_iff (d d' : Desk) : deskFace d = deskFace d' ↔
    d.present = d'.present ∧ d.miss = d'.miss ∧ d.ack = d'.ack ∧ d.output = d'.output := by simp [deskFace]

theorem calm_deskFace : Calm deskFace := ⟨fun _ _ => rfl, fun _ _ => rfl⟩

theorem calm_lamp : Calm Desk.lamp := ⟨fun _ _ => rfl, fun _ _ => rfl⟩

theorem goodDeskReply_answered (e : Nat) (c : ReplyClass) (r : DeskContent) (s : State) :
    goodDeskReply e c r s = evalDemand (takePress e r.mic (answeredDesk e c r s)) := rfl

theorem map_takePress (calm : Calm g) (e : Nat) (mic : Bool) (s : State) :
    (takePress e mic s).booth.desks.map g = s.booth.desks.map g := by
  unfold takePress
  split
  · exact map_deskPress calm e s
  · rfl

theorem deskFace_goodDeskReply (c : ReplyClass) (r : DeskContent) (s : State) (x : Nat) :
    deskFace (deskOf (goodDeskReply e c r s) x) = deskFace (deskOf (answeredDesk e c r s) x) :=
  deskOf_of_map (map_takePress calm_deskFace e r.mic (answeredDesk e c r s)) x

theorem deskFace_badDeskReply (he : e < s.booth.desks.length) (hp : (deskOf s e).present = true)
    (hm : (deskOf s e).miss ≤ 2) : (deskOf (badDeskReply e s) e).miss = (deskOf s e).miss + 1 ∧
      ((deskOf (badDeskReply e s) e).present = true ↔ (deskOf s e).miss < 2) := by
  by_cases h2 : (deskOf s e).miss < 2
  · rw [badDeskReply_of_early hp h2, deskOf_modifyDesk _ _ _ _ he, if_pos rfl]
    exact ⟨rfl, iff_of_true hp h2⟩
  · rw [badDeskReply_of_third hp (by omega), (lostDesk_loseDesk he).1]
    refine ⟨?_, iff_of_false (by simp) h2⟩
    show 3 = (deskOf s e).miss + 1
    omega

theorem deskFace_closeBoothWindow_of_ne (h : x ≠ e) (reply : Option DeskReply) :
    deskFace (deskOf (closeBoothWindow e reply s) x) = deskFace (deskOf s x) := by
  have good : ∀ c r, deskFace (deskOf (goodDeskReply e c r s) x) = deskFace (deskOf s x) := fun c r => by
    rw [deskFace_goodDeskReply, deskOf_answeredDesk_of_ne c r h]
  have lost : deskOf (loseDesk e s) x = deskOf s x :=
    (deskOf_modifyDesk_of_ne h).trans ((deskOf_standDown e x s).trans (if_neg h))
  have bad : deskOf (badDeskReply e s) x = deskOf s x := by
    unfold badDeskReply
    repeat' split
    · rfl
    · exact lost
    · exact deskOf_modifyDesk_of_ne h
  unfold closeBoothWindow
  split
  · exact good _ _
  · exact good _ _
  · rw [bad]

/-- The end of a booth window shows no lamp anew. -/
theorem lamps_closeBoothWindow (e : Nat) (reply : Option DeskReply) (s : State) :
    (closeBoothWindow e reply s).booth.desks.map (·.lamp) = s.booth.desks.map (·.lamp) := by
  have turned : ∀ l d, (takeLanguage l d).lamp = d.lamp := fun l d => by unfold takeLanguage; split <;> rfl
  have relayed : ∀ r d, (takeRelay r d).lamp = d.lamp := fun r d => by unfold takeRelay; split <;> rfl
  have good : ∀ c r, (goodDeskReply e c r s).booth.desks.map (·.lamp) = s.booth.desks.map (·.lamp) := by
    intro c r
    refine (map_takePress calm_lamp e r.mic (answeredDesk e c r s)).trans ?_
    have heard : (hearDesk e c s).booth.desks.map (·.lamp) = s.booth.desks.map (·.lamp) :=
      map_modifyDesk (·.lamp) (fun _ => by rfl) e s
    have output : ∀ l b, (takeOutput e l b (hearDesk e c s)).booth.desks.map (·.lamp) = s.booth.desks.map (·.lamp) := by
      intro l b
      unfold takeOutput
      split
      · rw [changeLanguage_eq]
        exact (map_modifyDesk (·.lamp) (fun d => by exact turned l d) e _).trans ((map_standDown calm_lamp e _).trans heard)
      · exact heard
    unfold answeredDesk takeReported
    split
    · exact (map_modifyDesk _ (fun d => relayed _ d) e _).trans (output _ _)
    · exact output _ _
  have bad : (badDeskReply e s).booth.desks.map (·.lamp) = s.booth.desks.map (·.lamp) := by
    unfold badDeskReply
    repeat' split
    · rfl
    · exact (map_modifyDesk (·.lamp) (fun _ => by rfl) e (standDown e s)).trans (map_standDown calm_lamp e s)
    · exact map_modifyDesk (·.lamp) (fun _ => by rfl) e s
  unfold closeBoothWindow
  split
  · exact good _ _
  · exact good _ _
  · exact bad
end

/-! ### The mark that acquires the sync away from frame 0 -/

section
variable {s : State} (u : Option UnitReply) (d : Option DeskReply)

/-- A mark away from frame 0, in Searching, as its steps. -/
def acquiredMark (s : State) : State := acquire (cutShort (resetBooth d (resetPolling u s)))

theorem exec_hsyncMark (hs : Live s) : exec (.hsyncMark u d) s = .next (hsyncOp u d s) := by
  rw [exec_of_live _ s hs]
  rfl

theorem hsyncOp_of_searching (hsync : s.lif.sync = .searching) (hframe : s.lif.frame ≠ 0) :
    hsyncOp u d s = acquiredMark u d s := by
  unfold hsyncOp acquiredMark
  simp only [hsync, hframe, if_false]

theorem resetBooth_window : (resetBooth d s).booth.window = none := by
  have withdrawn : (withdrawBoothPoll s).booth.window = none := by
    unfold withdrawBoothPoll
    split <;> rfl
  simp only [resetBooth]
  repeat' split
  · simpa using withdrawn
  · exact withdrawn
  · simp
  · assumption

theorem resetPolling_of_poll (h : isPollFrame s.lif.frame = true) :
    resetPolling u s = match s.dlc.dueWindow with
      | some a => closeWindow a u { s with dlc := { s.dlc with dueWindow := none } }
      | none => s := by
  unfold resetPolling
  rw [if_pos h] <;> rfl

/-- The state after the window of the delegate line in progress is closed at a mark away from a poll frame. -/
def lineClosed (s : State) : State := match s.dlc.window with
  | some a => closeWindow a u { s with dlc := { s.dlc with window := none } }
  | none => s

theorem resetPolling_of_other (h : isPollFrame s.lif.frame = false) : resetPolling u s = pollAt 0 (lineClosed u s) := by
  unfold resetPolling lineClosed
  rw [if_neg (by rw [h]; decide)] <;> rfl

theorem lineClosed_dlc : (lineClosed u s).dlc.window = none ∧ (lineClosed u s).dlc.pointer = s.dlc.pointer ∧
    (lineClosed u s).station = s.station := by
  unfold lineClosed
  split
  · simp
  · next h => exact ⟨h, rfl, rfl⟩

theorem isPollFrame_eq_false {k : Nat} (h0 : k ≠ 0) (h : k ∉ [24, 48, 72]) : isPollFrame k = false := by
  rw [← Bool.not_eq_true, isPollFrame_iff]
  intro hk
  simp at hk h
  omega

theorem acquiredMark_lif : (acquiredMark u d s).lif = { s.lif with
    frame := 0, sync := .locked, markMissing := 0, markSeen := true, acquired := true, superframeAligned := false
    slotFrames := [], transmitting := false, latch := { s.lif.latch with control := none } } := by
  simp [acquiredMark, acquire, cutShort]

theorem acquiredMark_blocks : (acquiredMark u d s).walls = s.walls.map (fun w => { w with history := [] }) ∧
    (acquiredMark u d s).station = s.station ∧ (acquiredMark u d s).peers = s.peers ∧
    (acquiredMark u d s).room.members = s.room.members ∧ (acquiredMark u d s).booth.window = none := by
  refine ⟨by simp [acquiredMark, acquire, cutShort], by simp [acquiredMark, acquire, cutShort],
    by simp [acquiredMark, acquire, cutShort], by simp [acquiredMark, acquire, cutShort], ?_⟩
  exact resetBooth_window d

theorem acquiredMark_dlc : (acquiredMark u d s).dlc = (resetPolling u s).dlc := by simp [acquiredMark, acquire, cutShort]

theorem acquiredMark_unit (b : Nat) : unitOf (acquiredMark u d s) b = unitOf (resetPolling u s) b :=
  unitOf_of_dlc (acquiredMark_dlc u d) b

theorem acquiredMark_desk (x : Nat) : deskOf (acquiredMark u d s) x = deskOf (resetBooth d (resetPolling u s)) x := rfl

theorem resetPolling_dlc_of_other (hs : s.station.state ≠ .unconfigured) (h : isPollFrame s.lif.frame = false) :
    (resetPolling u s).dlc.window = some s.dlc.pointer ∧ (resetPolling u s).dlc.dueWindow = none ∧
    (resetPolling u s).dlc.pollOut.map (·.address) = some s.dlc.pointer ∧
    (resetPolling u s).dlc.pointer = if seatCount s ≤ s.dlc.pointer then 1 else s.dlc.pointer + 1 := by
  obtain ⟨window, pointer, station⟩ := lineClosed_dlc (s := s) u
  have count : seatCount (lineClosed u s) = seatCount s := by simp only [seatCount, station]
  rw [resetPolling_of_other u h, pollAt_of_poll _ (by simp) (by rw [station]; exact hs), sendPoll_dlc, window, pointer, count]
  exact ⟨rfl, rfl, rfl, rfl⟩

theorem resetPolling_dlc_of_poll (h : isPollFrame s.lif.frame = true) :
    (resetPolling u s).dlc.window = s.dlc.window ∧ (resetPolling u s).dlc.dueWindow = none ∧
    (resetPolling u s).dlc.pollOut = s.dlc.pollOut ∧ (resetPolling u s).dlc.pointer = s.dlc.pointer := by
  rw [resetPolling_of_poll u h]
  split
  · simp
  · next hd => exact ⟨rfl, hd, rfl, rfl⟩

/-- The window of the delegate line that a mark at frame k closes. -/
def markWindow (s : State) : Option Nat := if s.lif.frame ∈ [24, 48, 72] then s.dlc.dueWindow else s.dlc.window

/-- The reading of a unit that a poll leaves as it is. -/
def unitFace (x : UnitEntry) : Bool × Nat × Bool × Keys := (x.present, x.miss, x.ack, x.keys)

theorem unitFace_pollAt (k b : Nat) (s : State) : unitFace (unitOf (pollAt k s) b) = unitFace (unitOf s b) := by
  unfold pollAt
  split
  · have lamp : unitOf (sendPoll s) b =
        unitOf (modifyUnit s.dlc.pointer (fun x => { x with lamp := unitLamp s s.dlc.pointer }) s) b := rfl
    rw [lamp]
    by_cases hb : b = s.dlc.pointer
    · subst hb
      by_cases hr : 1 ≤ s.dlc.pointer ∧ s.dlc.pointer ≤ s.dlc.units.length
      · rw [unitOf_modifyUnit _ _ _ _ hr.1 hr.1 hr.2, if_pos rfl]
        rfl
      · have same : modifyUnit s.dlc.pointer (fun x => { x with lamp := unitLamp s s.dlc.pointer }) s = s := by
          unfold modifyUnit
          split
          · rfl
          · rw [List.modify_eq_self (by omega)]
        rw [same]
    · rw [unitOf_modifyUnit_of_ne hb]
  · rfl

theorem isPollFrame_iff_of_pos (h0 : s.lif.frame ≠ 0) : isPollFrame s.lif.frame = true ↔ s.lif.frame ∈ [24, 48, 72] := by
  rw [isPollFrame_iff, List.mem_cons]
  exact or_iff_right h0

theorem resetPolling_of_none (h0 : s.lif.frame ≠ 0) (h : markWindow s = none) (b : Nat) :
    unitFace (unitOf (resetPolling u s) b) = unitFace (unitOf s b) := by
  unfold markWindow at h
  by_cases hf : s.lif.frame ∈ [24, 48, 72]
  · rw [if_pos hf] at h
    rw [resetPolling_of_poll u ((isPollFrame_iff_of_pos h0).mpr hf), h]
  · rw [if_neg hf] at h
    rw [resetPolling_of_other u (isPollFrame_eq_false h0 hf), unitFace_pollAt, lineClosed, h]

/-- A mark closes the window in progress on the delegate line. -/
theorem resetPolling_of_some (h0 : s.lif.frame ≠ 0) {a : Nat} (h : markWindow s = some a) :
    ∃ w x, ∀ b, unitFace (unitOf (resetPolling u s) b) =
      unitFace (unitOf (closeWindow a u { s with dlc := { s.dlc with window := w, dueWindow := x } }) b) := by
  unfold markWindow at h
  by_cases hf : s.lif.frame ∈ [24, 48, 72]
  · rw [if_pos hf] at h
    refine ⟨s.dlc.window, none, fun b => ?_⟩
    rw [resetPolling_of_poll u ((isPollFrame_iff_of_pos h0).mpr hf), h]
  · rw [if_neg hf] at h
    refine ⟨none, s.dlc.dueWindow, fun b => ?_⟩
    rw [resetPolling_of_other u (isPollFrame_eq_false h0 hf), unitFace_pollAt, lineClosed, h]

/-- The booth window that a mark at frame k closes. -/
def markBooth (s : State) : Option Nat := if s.lif.frame ∈ [12, 36, 60, 84] then s.booth.dueWindow else s.booth.window

theorem withdrawBoothPoll_of_none (h : s.booth.before = none) :
    withdrawBoothPoll s = { s with booth := { s.booth with window := none } } := by
  simp only [withdrawBoothPoll, h]

theorem withdrawBoothPoll_of_some {b : BoothBefore} (h : s.booth.before = some b) : withdrawBoothPoll s =
    { modifyDesk b.desk (fun d => { d with lamp := b.lamp }) s with booth := {
      (modifyDesk b.desk (fun d => { d with lamp := b.lamp }) s).booth with
      pollOut := b.pollOut, before := none, window := none } } := by
  simp only [withdrawBoothPoll, h]

theorem withdrawBoothPoll_desks (s : State) : (withdrawBoothPoll s).booth.dueWindow = s.booth.dueWindow ∧
    (withdrawBoothPoll s).booth.desks.length = s.booth.desks.length ∧
    ∀ x, deskFace (deskOf (withdrawBoothPoll s) x) = deskFace (deskOf s x) := by
  cases h : s.booth.before with
  | none =>
    rw [withdrawBoothPoll_of_none h]
    exact ⟨rfl, rfl, fun _ => rfl⟩
  | some b =>
    rw [withdrawBoothPoll_of_some h]
    refine ⟨rfl, by simp, fun x => deskOf_of_map (g := deskFace) ?_ x⟩
    exact map_modifyDesk deskFace (fun _ => by rfl) b.desk s

theorem boothDesk_isSome_iff (k : Nat) : (boothDesk k).isSome = true ↔ k ∈ [12, 36, 60, 84] := by
  rw [← not_iff_not, ← boothDesk_eq_none_iff, Option.not_isSome_iff_eq_none]

theorem resetBooth_of_poll (h : s.lif.frame ∈ [12, 36, 60, 84]) : resetBooth d s =
    match (withdrawBoothPoll s).booth.dueWindow with
      | some e => closeBoothWindow e d { withdrawBoothPoll s with booth := { (withdrawBoothPoll s).booth with dueWindow := none } }
      | none => withdrawBoothPoll s := by
  simp only [resetBooth, (boothDesk_isSome_iff s.lif.frame).mpr h, if_true] <;> rfl

theorem resetBooth_of_other (h : s.lif.frame ∉ [12, 36, 60, 84]) : resetBooth d s =
    match s.booth.window with
      | some e => closeBoothWindow e d { s with booth := { s.booth with window := none } }
      | none => s := by
  unfold resetBooth
  rw [if_neg (mt (boothDesk_isSome_iff s.lif.frame).mp h)] <;> rfl

/-- A mark closes the booth window in progress, on a state whose desks have the faces of s. -/
theorem resetBooth_cases (d : Option DeskReply) (s : State) : ∃ v, v.booth.desks.length = s.booth.desks.length ∧
    (∀ x, deskFace (deskOf v x) = deskFace (deskOf s x)) ∧
    resetBooth d s = match markBooth s with
      | some e => closeBoothWindow e d v
      | none => v := by
  unfold markBooth
  by_cases hf : s.lif.frame ∈ [12, 36, 60, 84]
  · obtain ⟨due, length, faces⟩ := withdrawBoothPoll_desks s
    rw [resetBooth_of_poll d hf, if_pos hf, due]
    cases s.booth.dueWindow with
    | none => exact ⟨_, length, faces, rfl⟩
    | some e =>
      exact ⟨{ withdrawBoothPoll s with booth := { (withdrawBoothPoll s).booth with dueWindow := none } }, length, faces, rfl⟩
  · rw [resetBooth_of_other d hf, if_neg hf]
    cases s.booth.window with
    | none => exact ⟨s, rfl, fun _ => rfl, rfl⟩
    | some e => exact ⟨{ s with booth := { s.booth with window := none } }, rfl, fun _ => rfl, rfl⟩

/-- What a mark leaves of the units. -/
theorem acquiredMark_units (h0 : s.lif.frame ≠ 0) (hlen : s.dlc.units.length = 60) :
    let t := acquiredMark u d s
    (∀ a ≤ 60, 1 ≤ a → markWindow s = some a →
      (u = none → (unitOf s a).present = true → (unitOf s a).miss ≤ 2 →
        (unitOf t a).miss = (unitOf s a).miss + 1 ∧ ((unitOf t a).present = true ↔ (unitOf s a).miss < 2)) ∧
      (∀ r, u = some r → classifyUnit a u = .clean ∨ classifyUnit a u = .noisy →
        (unitOf t a).present = true ∧ (unitOf t a).miss = 0 ∧ (unitOf t a).ack = !(unitOf s a).ack ∧
        (unitOf t a).keys = (unitContent r).keys)) ∧
    (∀ a ≤ 60, 1 ≤ a → markWindow s ≠ some a → (unitOf t a).miss = (unitOf s a).miss ∧
      (unitOf t a).ack = (unitOf s a).ack ∧ (unitOf t a).keys = (unitOf s a).keys) := by
  intro t
  have unit : ∀ b, unitOf t b = unitOf (resetPolling u s) b := acquiredMark_unit u d
  have face (b : Nat) (v : State) (h : unitFace (unitOf t b) = unitFace (unitOf v b)) :
      (unitOf t b).present = (unitOf v b).present ∧ (unitOf t b).miss = (unitOf v b).miss ∧
        (unitOf t b).ack = (unitOf v b).ack ∧ (unitOf t b).keys = (unitOf v b).keys := by
    simpa [unitFace] using h
  refine ⟨fun a h60 h1 hw => ?_, fun a h60 h1 hw => ?_⟩
  · obtain ⟨w, x, closed⟩ := resetPolling_of_some u h0 hw
    have range : a ≤ ({ s with dlc := { s.dlc with window := w, dueWindow := x } } : State).dlc.units.length := hlen ▸ h60
    obtain ⟨present, miss, ack, keys⟩ := face a _ ((congrArg unitFace (unit a)).trans (closed a))
    rw [present, miss, ack, keys]
    refine ⟨?_, ?_⟩
    · rintro rfl hp hm
      rw [closeWindow_of_bad (.inl rfl)]
      exact unitOf_badReply h1 range hp hm
    · rintro r rfl hcls
      rw [closeWindow_of_good hcls]
      exact unitOf_goodReply h1 range _ _
  · cases hm : markWindow s with
    | none =>
      obtain ⟨-, miss, ack, keys⟩ := face a s ((congrArg unitFace (unit a)).trans (resetPolling_of_none u h0 hm a))
      exact ⟨miss, ack, keys⟩
    | some b =>
      obtain ⟨w, x, closed⟩ := resetPolling_of_some u h0 hm
      have ne : a ≠ b := fun heq => hw (by rw [hm, heq])
      obtain ⟨-, miss, ack, keys⟩ := face a _ ((congrArg unitFace (unit a)).trans (closed a))
      rw [miss, ack, keys, unitOf_closeWindow_of_ne ne]
      exact ⟨rfl, rfl, rfl⟩

/-- What a mark leaves of the desks. -/
theorem acquiredMark_desks (hlen : s.booth.desks.length = 4) :
    let t := acquiredMark u d s
    (∀ e < 4, markBooth s = some e →
      (d = none → (deskOf s e).present = true → (deskOf s e).miss ≤ 2 →
        (deskOf t e).miss = (deskOf s e).miss + 1 ∧ ((deskOf t e).present = true ↔ (deskOf s e).miss < 2)) ∧
      (∀ r, d.bind deskContent = some r → classifyDesk e d = .clean ∨ classifyDesk e d = .noisy →
        (deskOf t e).present = true ∧ (deskOf t e).miss = 0 ∧ (deskOf t e).ack = !(deskOf s e).ack ∧
        (deskOf t e).output = some r.output)) ∧
    (∀ e < 4, markBooth s ≠ some e → (deskOf t e).miss = (deskOf s e).miss ∧ (deskOf t e).ack = (deskOf s e).ack ∧
      (deskOf t e).output = (deskOf s e).output) := by
  intro t
  have before : (resetPolling u s).booth = s.booth ∧ (resetPolling u s).lif = s.lif := by simp
  obtain ⟨booth, lif⟩ := before
  have window : markBooth (resetPolling u s) = markBooth s := by simp only [markBooth, booth, lif]
  obtain ⟨v, length, faces, closed⟩ := resetBooth_cases d (resetPolling u s)
  rw [window] at closed
  rw [booth] at length
  have desk : ∀ x, deskOf t x = deskOf (resetBooth d (resetPolling u s)) x := acquiredMark_desk u d
  have was (x : Nat) : (deskOf v x).present = (deskOf s x).present ∧ (deskOf v x).miss = (deskOf s x).miss ∧
      (deskOf v x).ack = (deskOf s x).ack ∧ (deskOf v x).output = (deskOf s x).output := by
    have same : deskOf (resetPolling u s) x = deskOf s x := by simp only [deskOf, booth]
    have h := faces x
    rw [same] at h
    simpa [deskFace] using h
  refine ⟨fun e he hw => ?_, fun e he hw => ?_⟩
  · obtain ⟨present, miss, ack, output⟩ := was e
    rw [hw] at closed
    rw [desk, closed]
    refine ⟨?_, ?_⟩
    · rintro rfl hp hm
      dsimp only
      rw [closeBoothWindow_of_bad (.inl rfl), ← miss]
      exact deskFace_badDeskReply (by omega) (present ▸ hp) (miss ▸ hm)
    · intro r hr hcls
      dsimp only
      cases d with
      | none => simp at hr
      | some reply =>
        rw [closeBoothWindow_of_good (by simpa using hr) hcls, ← ack]
        obtain ⟨hp, hm, ha, ho⟩ := (deskFace_eq_iff _ _).mp
          (deskFace_goodDeskReply (e := e) (classifyDesk e (some reply)) r v e)
        obtain ⟨cp, cm, ca, -, co⟩ := answeredDesk_counts (s := v) (e := e) (classifyDesk e (some reply)) r (by omega)
        exact ⟨hp.trans cp, hm.trans cm, ha.trans ca, ho.trans co⟩
  · obtain ⟨-, miss, ack, output⟩ := was e
    have kept : deskFace (deskOf t e) = deskFace (deskOf v e) := by
      rw [desk, closed]
      cases hm : markBooth s with
      | none => rfl
      | some x => exact deskFace_closeBoothWindow_of_ne (fun heq => hw (by rw [hm, heq])) d
    obtain ⟨-, km, ka, ko⟩ := (deskFace_eq_iff _ _).mp kept
    exact ⟨km.trans miss, ka.trans ack, ko.trans output⟩
end

/-! ### A mark at the frame of a booth poll -/

section
variable {s : State}

theorem lamps_resetBooth {p : Option DeskPoll} {l : List DeskLamp} (d : Option DeskReply)
    (hout : (withdrawBoothPoll s).booth.pollOut = p) (hlamps : (withdrawBoothPoll s).booth.desks.map (·.lamp) = l)
    (hframe : s.lif.frame ∈ [12, 36, 60, 84]) :
    (resetBooth d s).booth.pollOut = p ∧ (resetBooth d s).booth.desks.map (·.lamp) = l := by
  rw [resetBooth_of_poll d hframe]
  split
  · rw [lamps_closeBoothWindow]
    exact ⟨by simpa using hout, hlamps⟩
  · exact ⟨hout, hlamps⟩

/-- Withdrawing a booth poll that was just sent puts poll and lamps back. -/
theorem withdrawBoothPoll_of_sent (e : Nat) {t : State} (h : t.booth = (sendBoothPoll e s).booth) :
    (withdrawBoothPoll t).booth.pollOut = s.booth.pollOut ∧
    (withdrawBoothPoll t).booth.desks.map (·.lamp) = s.booth.desks.map (·.lamp) := by
  have before : t.booth.before = some ⟨e, (deskOf s e).lamp, s.booth.pollOut⟩ := by rw [h, sendBoothPoll_booth]
  rw [withdrawBoothPoll_of_some before]
  refine ⟨rfl, ?_⟩
  have desks : t.booth.desks = (modifyDesk e (fun d => { d with lamp := deskLamp s e }) s).booth.desks := by rw [h]; rfl
  refine List.ext_getElem? fun i => ?_
  simp only [modifyDesk, desks, List.getElem?_map, List.getElem?_modify]
  cases hi : s.booth.desks[i]? with
  | none => simp
  | some x =>
    by_cases hie : e = i
    · subst hie
      have here : deskOf s e = x := by simp [deskOf, List.getD_eq_getElem?_getD, hi]
      simp [here]
    · simp [hie]

/-- Withdrawing the booth poll of a boundary, whether it was sent or not, puts poll and lamps back. -/
theorem withdrawBoothPoll_of_boothPollAt {k e : Nat} (hk : boothDesk k = some e) {t : State}
    (h : t.booth = (boothPollAt k s).booth) : (withdrawBoothPoll t).booth.pollOut = s.booth.pollOut ∧
      (withdrawBoothPoll t).booth.desks.map (·.lamp) = s.booth.desks.map (·.lamp) := by
  by_cases idle : s.station.state = .unconfigured ∨ (deskOf s e).fitted = false
  · rw [boothPollAt_of_unfitted s hk idle] at h
    rw [withdrawBoothPoll_of_none (by rw [h]), h]
    exact ⟨rfl, rfl⟩
  · rw [not_or, Bool.not_eq_false] at idle
    rw [boothPollAt_of_fitted s hk idle.1 idle.2] at h
    exact withdrawBoothPoll_of_sent e h
end

/-- Settles O13. -/
theorem houseSyncMark : Obligations.HouseSyncMark := by
  refine ⟨fun s u d hs => ⟨fun hsync hframe => ?_, fun hsync hframe => ?_, fun hsync hframe => ?_, fun hsync hframe => ?_⟩,
    fun s u d hs hsync hframe hsize => ?_, fun s f u d hs ht hsync hframe => ?_⟩
  · rw [exec_hsyncMark u d hs, hsyncOp, hsync]
    simp [hframe]
  · rw [exec_hsyncMark u d hs, hsyncOp, hsync]
    simp [hframe]
  · rw [exec_hsyncMark u d hs, hsyncOp, hsync]
    simp [hframe, acquire]
  · refine ⟨acquiredMark u d s, by rw [exec_hsyncMark u d hs, hsyncOp_of_searching u d hsync hframe],
      acquiredMark_lif u d, ?_⟩
    obtain ⟨walls, station, peers, members, window⟩ := acquiredMark_blocks (s := s) u d
    refine ⟨walls, station, peers, members, window, fun hstate hother => ?_, fun hpoll => ?_⟩
    · rw [acquiredMark_dlc]
      exact resetPolling_dlc_of_other u hstate (isPollFrame_eq_false hframe hother)
    · rw [acquiredMark_dlc]
      exact resetPolling_dlc_of_poll u ((isPollFrame_iff_of_pos hframe).mpr hpoll)
  · obtain ⟨-, -, -, -, hunits, -, hdesks⟩ := hsize
    obtain ⟨closedUnit, otherUnits⟩ := acquiredMark_units u d hframe hunits
    obtain ⟨closedDesk, otherDesks⟩ := acquiredMark_desks u d hdesks
    exact ⟨acquiredMark u d s, by rw [exec_hsyncMark u d hs, hsyncOp_of_searching u d hsync hframe], closedUnit, otherUnits,
      closedDesk, otherDesks⟩
  · have next := exec_boundary f hs ht
    obtain ⟨station, -, -⟩ := boundary_blocks f s
    have lif := boundary_lif f s
    have booth : (beginFrame f (endFrame f s)).booth =
        (boothPollAt ((s.lif.frame + 1) % 96) (unpolledBooth s f)).booth := by rw [boundary_eq]; rfl
    generalize beginFrame f (endFrame f s) = t at next station lif booth
    have live : Live t := by unfold Live; rw [station]; exact hs
    have frame : t.lif.frame ∈ [12, 36, 60, 84] := by rw [lif]; exact hframe
    have away : t.lif.frame ≠ 0 := fun h => by simp [h] at frame
    have sync : t.lif.sync = .searching := by rw [lif]; exact hsync
    refine ⟨t, acquiredMark u d t, next, by rw [exec_hsyncMark u d live, hsyncOp_of_searching u d sync away],
      (acquiredMark_blocks u d).2.2.2.2, ?_⟩
    have kept : (resetPolling u t).booth = t.booth ∧ (resetPolling u t).lif = t.lif := by simp
    have origin := unpolledBooth_booth s f
    obtain ⟨e, due⟩ := Option.isSome_iff_exists.mp ((boothDesk_isSome_iff _).mpr hframe)
    obtain ⟨poll, lamps⟩ := withdrawBoothPoll_of_boothPollAt due (kept.1.trans booth)
    rw [origin] at poll lamps
    exact lamps_resetBooth (s := resetPolling u t) d poll lamps (by rw [kept.2]; exact frame)
end Sys2Proof.Machine
end

section
/-! PROOF. What a switch point advances, and the events of one mic (O16, O20). -/
namespace Sys2Proof.Machine

/-! ### One mic -/

section
variable {s : State}

theorem fadedOut_advanceMic (m : Mic) : fadedOut (advanceMic m) = true ↔ m.phase = .closing ∧ m.step ≤ 1 := by
  rw [advanceMic_eq]
  cases hp : m.phase <;> simp [fadedOut]
  omega

theorem timeExpired_iff (s : State) (m : Mic) : timeExpired s m = true ↔ m.cls ≤ 1 ∧ m.phase ≠ .closing ∧
    0 < (context s).speakingTime ∧ (context s).speakingTime * 500 ≤ m.used := by
  have sounds : sounding m.phase = true ↔ m.phase ≠ .closing := by cases m.phase <;> simp [sounding]
  simp only [timeExpired, counted, Config.superframesPerSecond, Bool.and_eq_true, sounds, and_assoc]
  exact and_congr decide_eq_true_iff (and_congr_right fun _ => and_congr decide_eq_true_iff decide_eq_true_iff)

theorem timeExpired_congr {t : State} (h : t.room = s.room) : timeExpired t = timeExpired s := funext fun m => by
  have same : context t = context s := by simp only [context, h]
  rw [Bool.eq_iff_iff, timeExpired_iff, timeExpired_iff, same]

theorem raiseIf_getLsbD (b : Bool) (f : EventFlag) (s : State) (n : Nat) :
    (raiseIf b f s).port.flags.getLsbD n = true ↔ s.port.flags.getLsbD n = true ∨ b = true ∧ n = flagBit f := by
  cases b with
  | false => simp [raiseIf]
  | true =>
    simp only [raiseIf, if_true]
    rw [raise_getLsbD]
    simp

/-! ### The end of a hold, on the uplink channels -/

theorem foldl_frees {g : State → PlaceClaim → State} (hg : ∀ s c, (g s c).dlc.uplinks = s.dlc.uplinks.set c.uplink none)
    (l : List PlaceClaim) : ∀ (s : State) (i : Nat),
    (l.foldl g s).dlc.uplinks.length = s.dlc.uplinks.length ∧
    ((s.dlc.uplinks[i]? = some none ∨ (∃ c ∈ l, c.uplink = i) ∧ i < s.dlc.uplinks.length) →
      (l.foldl g s).dlc.uplinks[i]? = some none) := by
  induction l with
  | nil =>
    intro s i
    exact ⟨rfl, fun h => h.elim id fun h => absurd h.1 (by simp)⟩
  | cons x xs ih =>
    intro s i
    have length : (g s x).dlc.uplinks.length = s.dlc.uplinks.length := by simp [hg]
    obtain ⟨hlen, hfree⟩ := ih (g s x) i
    refine ⟨hlen.trans length, fun h => hfree ?_⟩
    rw [length]
    by_cases hx : x.uplink = i
    · by_cases hi : i < s.dlc.uplinks.length
      · exact .inl (by simp [hg, hx, hi])
      · have free := h.resolve_right fun k => hi k.2
        rw [List.getElem?_eq_none (by omega)] at free
        simp at free
    · rcases h with h | ⟨⟨c, hc, hci⟩, hi⟩
      · exact .inl (by simpa [hg, List.getElem?_set, hx] using h)
      · rcases List.mem_cons.mp hc with rfl | hc
        · exact absurd hci hx
        · exact .inr ⟨⟨c, hc, hci⟩, hi⟩

theorem endPlaceHold_frees (seat : Nat) (s : State) (i : Nat) :
    (endPlaceHold seat s).dlc.uplinks.length = s.dlc.uplinks.length ∧
    (s.dlc.uplinks[i]? = some none → (endPlaceHold seat s).dlc.uplinks[i]? = some none) ∧
    (∀ c ∈ s.claims.places, c.seat = seat → c.stage = .hold → c.uplink = i → i < s.dlc.uplinks.length →
      (endPlaceHold seat s).dlc.uplinks[i]? = some none) := by
  obtain ⟨length, free⟩ := foldl_frees (g := fun s' c => setUplink c.uplink none s') (fun _ _ => rfl)
    (s.claims.places.filter (fun c => c.seat == seat && c.stage == .hold))
    { s with claims := { s.claims with places := s.claims.places.filter (fun c => !(c.seat == seat && c.stage == .hold)) } } i
  exact ⟨length, fun h => free (.inl h), fun c hc hseat hstage hi hlt =>
    free (.inr ⟨⟨c, List.mem_filter.mpr ⟨hc, by simp [hseat, hstage]⟩, hi⟩, hlt⟩)⟩

theorem foldl_endPlaceHold (seats : List Nat) : ∀ s : State,
    let t := seats.foldl (fun s' seat => endPlaceHold seat s') s
    t.claims.places = s.claims.places.filter (fun c => !(c.stage == .hold && seats.contains c.seat)) ∧
    ∀ i, (s.dlc.uplinks[i]? = some none → t.dlc.uplinks[i]? = some none) ∧
      (∀ c ∈ s.claims.places, c.seat ∈ seats → c.stage = .hold → c.uplink = i → i < s.dlc.uplinks.length →
        t.dlc.uplinks[i]? = some none) := by
  induction seats with
  | nil => exact fun s => ⟨by simp, fun i => ⟨id, fun c _ hc => by simp at hc⟩⟩
  | cons x xs ih =>
    intro s t
    obtain ⟨places, free⟩ := ih (endPlaceHold x s)
    refine ⟨?_, fun i => ?_⟩
    · rw [show t.claims.places = _ from places, endPlaceHold_places, List.filter_filter]
      refine List.filter_congr fun c _ => ?_
      by_cases hx : c.seat = x <;> by_cases hh : c.stage = .hold <;> simp [hx, hh]
    · obtain ⟨length, stays, frees⟩ := endPlaceHold_frees x s i
      obtain ⟨later, ends⟩ := free i
      refine ⟨fun h => later (stays h), fun c hc hseat hstage hi hlt => ?_⟩
      by_cases hx : c.seat = x
      · exact later (frees c hc hx hstage hi hlt)
      · refine ends c ?_ ((List.mem_cons.mp hseat).resolve_left hx) hstage hi (by omega)
        rw [endPlaceHold_places]
        exact List.mem_filter.mpr ⟨hc, by simp [hx]⟩

/-! ### The work of a switch point -/

theorem requestBefore_iff (a b : Request) : requestBefore a b = true ↔
    b.cls < a.cls ∨ a.cls = b.cls ∧ (b.age < a.age ∨ a.age = b.age ∧ a.seat < b.seat) := by
  simp [requestBefore]

theorem requestBefore_eq_false_iff (a b : Request) : requestBefore a b = false ↔
    a.cls < b.cls ∨ a.cls = b.cls ∧ (a.age < b.age ∨ a.age = b.age ∧ b.seat ≤ a.seat) := by
  rw [← Bool.not_eq_true, requestBefore_iff]
  omega

theorem sortBy_requestBefore_ordered (l : List Request) : (sortBy requestBefore l).Pairwise (fun a b =>
    b.cls < a.cls ∨ b.cls = a.cls ∧ (b.age < a.age ∨ b.age = a.age ∧ a.seat ≤ b.seat)) :=
  (sortBy_ordered requestBefore (fun a b h => by rw [requestBefore_eq_false_iff]; rw [requestBefore_iff] at h; omega)
    (fun a b c h k => by rw [requestBefore_eq_false_iff] at *; omega) l).imp
      fun h => (requestBefore_eq_false_iff _ _).mp h

/-- The floor part of a switch point, as its steps. -/
def floorAdvanced (s : State) : State := { s with floor := { s.floor with
  mics := s.floor.mics.map advanceMic
  requests := sortBy requestBefore (s.floor.requests.map (fun r => { r with age := satInc Config.ageLimit r.age })) } }

theorem floorSwitchPoint_eq (s : State) : floorSwitchPoint s = expireSpeaking (removeFaded (floorAdvanced s)) := rfl

/-- The seats whose mics have faded out. -/
def fadedSeats (s : State) : List Nat := ((s.floor.mics.map advanceMic).filter fadedOut).map (·.seat)

theorem mem_fadedSeats (s : State) (seat : Nat) : seat ∈ fadedSeats s ↔
    ∃ m ∈ s.floor.mics, m.phase = .closing ∧ m.step ≤ 1 ∧ m.seat = seat := by
  simp only [fadedSeats, List.mem_map, List.mem_filter]
  constructor
  · rintro ⟨x, ⟨⟨m, hm, rfl⟩, hx⟩, hseat⟩
    obtain ⟨hp, hstep⟩ := (fadedOut_advanceMic m).mp hx
    exact ⟨m, hm, hp, hstep, (advanceMic_seat_uplink m).1.symm.trans hseat⟩
  · rintro ⟨m, hm, hp, hstep, hseat⟩
    exact ⟨advanceMic m, ⟨⟨m, hm, rfl⟩, (fadedOut_advanceMic m).mpr ⟨hp, hstep⟩⟩, (advanceMic_seat_uplink m).1.trans hseat⟩

theorem removeFaded_floorAdvanced (s : State) : (removeFaded (floorAdvanced s)).floor =
    { (floorAdvanced s).floor with mics := (s.floor.mics.filter (fun m => !fadedOut (advanceMic m))).map advanceMic } := by
  have mics : ((s.floor.mics.map advanceMic).filter (fun m => !fadedOut m)) =
      (s.floor.mics.filter (fun m => !fadedOut (advanceMic m))).map advanceMic := by
    rw [List.filter_map]
    rfl
  have keep : ∀ (seats : List Nat) (v : State), (seats.foldl (fun s' seat => endPlaceHold seat s') v).floor = v.floor :=
    fun seats v => foldl_keeps (fun v => v.floor) (fun s' seat => by simp) seats v
  unfold removeFaded
  rw [keep]
  simp only [floorAdvanced, mics]

theorem removeFaded_claims (s : State) :
    (removeFaded (floorAdvanced s)).claims.places = s.claims.places.filter (fun c =>
      !(c.stage == .hold && (fadedSeats s).contains c.seat)) ∧
    ∀ c ∈ s.claims.places, c.seat ∈ fadedSeats s → c.stage = .hold → c.uplink < s.dlc.uplinks.length →
      (removeFaded (floorAdvanced s)).dlc.uplinks[c.uplink]? = some none := by
  obtain ⟨places, free⟩ := foldl_endPlaceHold (fadedSeats s) { floorAdvanced s with
    floor := { (floorAdvanced s).floor with mics := (floorAdvanced s).floor.mics.filter (fun m => !fadedOut m) } }
  exact ⟨places, fun c hc hseat hstage hlt => (free c.uplink).2 c hc hseat hstage rfl hlt⟩

/-- What a switch point makes of the floor. -/
theorem floorSwitchPoint_floor (s : State) : (floorSwitchPoint s).floor = { s.floor with
    requests := sortBy requestBefore (s.floor.requests.map (fun r => { r with age := satInc Config.ageLimit r.age }))
    mics := ((s.floor.mics.filter (fun m => !fadedOut (advanceMic m))).map advanceMic).map
      (fun m => if timeExpired s m then closed m else m) } := by
  have same : timeExpired (removeFaded (floorAdvanced s)) = timeExpired s :=
    timeExpired_congr (by simp [floorAdvanced])
  rw [floorSwitchPoint_eq]
  simp only [expireSpeaking, raiseIf_keeps, closeMics, removeFaded_floorAdvanced, same]
  rfl

theorem floorSwitchPoint_flags (s : State) (n : Nat) : (floorSwitchPoint s).port.flags.getLsbD n = true ↔
    s.port.flags.getLsbD n = true ∨ n = 7 ∧ (s.floor.mics.map advanceMic).any (timeExpired s) = true := by
  have port : (removeFaded (floorAdvanced s)).port = s.port := by simp [floorAdvanced]
  have same : timeExpired (removeFaded (floorAdvanced s)) = timeExpired s :=
    timeExpired_congr (by simp [floorAdvanced])
  have any : (removeFaded (floorAdvanced s)).floor.mics.any (timeExpired s) = true ↔
      (s.floor.mics.map advanceMic).any (timeExpired s) = true := by
    rw [removeFaded_floorAdvanced]
    simp only [List.any_map, List.any_filter, List.any_eq_true, Function.comp, Bool.and_eq_true, Bool.not_eq_true']
    refine exists_congr fun m => and_congr_right fun _ => and_iff_right_of_imp fun h => ?_
    rw [← Bool.not_eq_true, fadedOut_advanceMic]
    intro hfaded
    refine ((timeExpired_iff s _).mp h).2.1 ?_
    rw [advanceMic_eq]
    simp [hfaded.1]
  rw [floorSwitchPoint_eq, expireSpeaking, raiseIf_getLsbD, same, any, closeMics]
  simp only [port, flagBit]
  exact or_congr_right and_comm

/-! ### The whole switch point -/

theorem exec_switchPoint (hs : Live s) :
    exec .switchPoint s = .next (takeLinkRecovery (takeLinkFailure (switchPointWork s))) := by
  rw [exec_of_live _ s hs]
  rfl

theorem linkBad_iff (s : State) : linkBad s = true ↔ 2 ≤ s.lif.markMissing ∨ 3 ≤ s.lif.unaligned := by
  simp only [linkBad, Bool.or_eq_true]
  exact or_congr (decide_eq_true_iff (p := s.lif.markMissing ≥ 2)) (decide_eq_true_iff (p := s.lif.unaligned ≥ 3))

theorem onLink_iff (s : State) : onLink s = true ↔ s.station.state = .joining ∨ s.station.state = .running := by
  simp [onLink]

/-- A link failure is due: the station is on the link, and a count is at its limit. -/
def FailureDue (s : State) : Prop :=
  (s.station.state = .joining ∨ s.station.state = .running) ∧ (2 ≤ s.lif.markMissing ∨ 3 ≤ s.lif.unaligned)

/-- A link recovery is due: the station is Isolated, and the good count is at its limit. -/
def RecoveryDue (s : State) : Prop := s.station.state = .isolated ∧ 4 ≤ s.lif.good

theorem failureDue_iff (s : State) : (onLink s && linkBad s) = true ↔ FailureDue s := by
  rw [Bool.and_eq_true, onLink_iff, linkBad_iff, FailureDue]

theorem takeLinkFailure_of_not (h : ¬ FailureDue s) : takeLinkFailure s = s :=
  if_neg (mt (failureDue_iff s).mp h)

theorem takeLinkFailure_of_due (h : FailureDue s) : takeLinkFailure s =
    enterIsolated (raiseIf (s.lif.unaligned ≥ Config.unalignedLimit) .linkLost
      (raiseIf (s.lif.markMissing ≥ Config.markLimit) .syncLost s)) :=
  if_pos ((failureDue_iff s).mpr h)

theorem recoveryDue_iff (s : State) : (s.station.state = .isolated && s.lif.good ≥ Config.goodLimit) = true ↔ RecoveryDue s := by
  rw [Bool.and_eq_true]
  exact and_congr decide_eq_true_iff (decide_eq_true_iff (p := s.lif.good ≥ 4))

theorem takeLinkRecovery_of_not (h : ¬ RecoveryDue s) : takeLinkRecovery s = s :=
  if_neg (mt (recoveryDue_iff s).mp h)

theorem takeLinkRecovery_of_due (h : RecoveryDue s) : takeLinkRecovery s = leaveIsolated s :=
  if_pos ((recoveryDue_iff s).mpr h)

theorem switchPointWork_counts (s : State) : (switchPointWork s).lif.markMissing = (evaluateLink s.lif).markMissing ∧
    (switchPointWork s).lif.unaligned = (evaluateLink s.lif).unaligned ∧
    (switchPointWork s).lif.good = (evaluateLink s.lif).good ∧ (switchPointWork s).lif.sync = (evaluateLink s.lif).sync := by
  simp [switchPointWork, latchWriteSet]

/-- Where the counts hand nothing over, the work is all. -/
theorem exec_switchPoint_of_nothing (hs : Live s) (h : HandsNothingOver s) :
    exec .switchPoint s = .next (switchPointWork s) := by
  obtain ⟨missing, unaligned, good, -⟩ := switchPointWork_counts s
  have station : (switchPointWork s).station = s.station := by simp
  have nofail : ¬ FailureDue (switchPointWork s) := by
    rw [FailureDue, station, missing, unaligned]
    rintro ⟨hstate, hcount⟩
    obtain ⟨h1, h2⟩ := h.1 ((onLink_iff s).mpr hstate)
    omega
  have norecover : ¬ RecoveryDue (switchPointWork s) := by
    rw [RecoveryDue, station, good]
    rintro ⟨hstate, hcount⟩
    have := h.2 hstate
    omega
  rw [exec_switchPoint hs, takeLinkFailure_of_not nofail, takeLinkRecovery_of_not norecover]

/-- The state after the steps of a switch point that advance ages, floor and desks. -/
def advanced (s : State) : State :=
  advanceLanes (advanceDesks (floorSwitchPoint (advanceFull (advancePeers { s with lif := evaluateLink s.lif }))))

theorem switchPointWork_eq (s : State) :
    switchPointWork s = forgetLeft (latchPlan (applySources (latchWriteSet (advanced s)))) := rfl

theorem floorSwitchPoint_congr {t : State} (h : t = s) : floorSwitchPoint t = floorSwitchPoint s := by rw [h]

theorem switchPointWork_floor (s : State) : (switchPointWork s).floor = { s.floor with
    requests := sortBy requestBefore (s.floor.requests.map (fun r => { r with age := satInc Config.ageLimit r.age }))
    mics := ((s.floor.mics.filter (fun m => !fadedOut (advanceMic m))).map advanceMic).map
      (fun m => if timeExpired s m then closed m else m) } := by
  have steps : (switchPointWork s).floor =
      (floorSwitchPoint (advanceFull (advancePeers { s with lif := evaluateLink s.lif }))).floor := by
    rw [switchPointWork_eq]
    simp [advanced, latchWriteSet, applySources, latchPlan, forgetLeft]
  rw [steps, floorSwitchPoint_floor, timeExpired_congr (s := s) (by simp [advancePeers, advanceFull])]
  rfl

theorem switchPointWork_flags (s : State) (n : Nat) : (switchPointWork s).port.flags.getLsbD n = true ↔
    s.port.flags.getLsbD n = true ∨ n = 7 ∧ (s.floor.mics.map advanceMic).any (timeExpired s) = true := by
  have steps : (switchPointWork s).port =
      (floorSwitchPoint (advanceFull (advancePeers { s with lif := evaluateLink s.lif }))).port := by
    rw [switchPointWork_eq]
    simp [advanced, latchWriteSet, applySources, latchPlan, forgetLeft]
  rw [steps, floorSwitchPoint_flags, timeExpired_congr (s := s) (by simp [advancePeers, advanceFull])]
  rfl

theorem switchPointWork_places (s : State) : (switchPointWork s).claims.places = s.claims.places.filter (fun c =>
      !(c.stage == .hold && (fadedSeats s).contains c.seat)) ∧
    ∀ c ∈ s.claims.places, c.seat ∈ fadedSeats s → c.stage = .hold → c.uplink < s.dlc.uplinks.length →
      (switchPointWork s).dlc.uplinks[c.uplink]? = some none := by
  let v : State := advanceFull (advancePeers { s with lif := evaluateLink s.lif })
  have claims : (switchPointWork s).claims = (removeFaded (floorAdvanced v)).claims ∧
      (switchPointWork s).dlc = (removeFaded (floorAdvanced v)).dlc := by
    rw [switchPointWork_eq]
    have h : advanced s = advanceLanes (advanceDesks (expireSpeaking (removeFaded (floorAdvanced v)))) := rfl
    rw [h]
    simp [latchWriteSet, applySources, latchPlan, forgetLeft]
  rw [claims.1, claims.2]
  exact removeFaded_claims v

theorem switchPointWork_booth (s : State) : (switchPointWork s).booth = { s.booth with
    left := []
    desks := s.booth.desks.map (fun d => { d with
      onAirAge := if s.station.state ≠ .unconfigured ∧ d.state = .onAir then min (d.onAirAge + 1) 65535 else d.onAirAge
      selectionAge := if s.station.state ≠ .unconfigured ∧ d.fitted = true then min (d.selectionAge + 1) 65535
        else d.selectionAge
      source := d.pendingSource }) } := by
  have steps : (switchPointWork s).booth = { (advanceDesks (floorSwitchPoint (advanceFull (advancePeers
      { s with lif := evaluateLink s.lif })))).booth with
      left := []
      desks := (advanceDesks (floorSwitchPoint (advanceFull (advancePeers
        { s with lif := evaluateLink s.lif })))).booth.desks.map (fun d => { d with source := d.pendingSource }) } := by
    rw [switchPointWork_eq]
    simp [advanced, latchWriteSet, applySources, latchPlan, forgetLeft]
  have state : (floorSwitchPoint (advanceFull (advancePeers { s with lif := evaluateLink s.lif }))).station = s.station ∧
      (floorSwitchPoint (advanceFull (advancePeers { s with lif := evaluateLink s.lif }))).booth = s.booth := by
    simp [advancePeers, advanceFull]
  rw [steps, advanceDesks, state.1]
  by_cases h : s.station.state = .unconfigured
  · simp [h]
  · simp only [h, if_false, state.2, List.map_map, ne_eq, not_false_eq_true, true_and]
    rfl

theorem switchPointWork_tables (s : State) :
    (switchPointWork s).peers = s.peers.map (fun e => e.map (fun x => { x with since := min (x.since + 1) 65535 })) ∧
    (switchPointWork s).dlc.units = s.dlc.units.map (fun u => { u with fullTimer := u.fullTimer - 1 }) ∧
    (switchPointWork s).lanes = ⟨s.lanes.holdings.map (fun h => if h.held then { h with age := min (h.age + 1) 65535 } else h),
      s.lanes.shortage⟩ ∧
    (switchPointWork s).claims.languages = s.claims.languages ∧ (switchPointWork s).claims.lanes = s.claims.lanes := by
  refine ⟨?_, ?_, ?_, ?_, ?_⟩
  all_goals rw [switchPointWork_eq, advanced]
  · simp [latchWriteSet, applySources, latchPlan, forgetLeft, advancePeers, satInc, Config.ageLimit]
  · simp [latchWriteSet, applySources, latchPlan, forgetLeft, advancePeers, advanceFull]
  · simp [latchWriteSet, applySources, latchPlan, forgetLeft, advanceLanes, setHoldings, satInc, Config.ageLimit]
  · simp [latchWriteSet, applySources, latchPlan, forgetLeft, advancePeers, advanceFull]
  · simp [latchWriteSet, applySources, latchPlan, forgetLeft, advancePeers, advanceFull]
end

/-- Settles O16. -/
theorem switchPointAdvancesAgesAndFloor : Obligations.SwitchPointAdvancesAgesAndFloor := by
  refine ⟨fun s hs => ?_, fun s hs => ?_⟩
  · intro t
    obtain ⟨peers, units, lanes, languages, laneClaims⟩ := switchPointWork_tables s
    refine ⟨exec_switchPoint_of_nothing hs, peers, units, ?_, ?_, by simp [t], by simp [t], by simp [t], by simp [t], ?_,
      languages, laneClaims, ?_⟩
    · rw [switchPointWork_booth]
    · rw [lanes]
    · rw [lanes]
    · rw [switchPointWork_floor]
  · intro aged gone expired t
    have aged_eq : ∀ m, aged m = advanceMic m := fun m => by
      rw [advanceMic_eq]
      cases hp : m.phase <;> simp [aged, hp]
    have gone_eq : ∀ m, gone m = fadedOut (advanceMic m) := fun m => by
      rw [Bool.eq_iff_iff, fadedOut_advanceMic]
      simp [gone]
    have expired_eq : ∀ m, expired m = timeExpired s m := fun m => by
      rw [Bool.eq_iff_iff, timeExpired_iff]
      exact decide_eq_true_iff
    have seats : ∀ c : PlaceClaim, (s.floor.mics.any (fun m => gone m && m.seat == c.seat)) = (fadedSeats s).contains c.seat := by
      intro c
      rw [Bool.eq_iff_iff, List.contains_iff_mem, mem_fadedSeats]
      simp [gone, and_assoc]
    obtain ⟨places, freed⟩ := switchPointWork_places s
    refine ⟨exec_switchPoint_of_nothing hs, ?_, ?_, ?_, fun c hc hgone hlt => ?_, ?_, ?_⟩
    · rw [switchPointWork_floor]
      simp only [funext aged_eq, gone_eq, expired_eq, closed_eq]
    · rw [switchPointWork_flags, funext aged_eq, funext expired_eq]
      simp
    · rw [places]
      simp only [seats]
    · rw [show t.claims.places = _ from places, List.mem_filter, not_and, Bool.not_eq_true, Bool.not_eq_false',
        Bool.and_eq_true, beq_iff_eq, List.contains_iff_mem] at hgone
      exact freed c hc (hgone hc).2 (hgone hc).1 hlt
    · rw [switchPointWork_floor]
      exact sortBy_perm _ _
    · rw [switchPointWork_floor]
      exact sortBy_requestBefore_ordered _

/-! ### The events of one mic -/

section
variable {s : State} {seat : Nat}

theorem fadeInOp_eq (seat : Nat) (s : State) : fadeInOp seat s = { s with floor := { s.floor with
    mics := s.floor.mics.map (fun m => if m.seat = seat ∧ m.phase = .opening ∧ 7 ≤ m.step then
      { m with
        age := min (m.age + 1) 65535, phase := .opened, step := 8
        used := if m.cls ≤ 1 then min (m.used + 1) 1800000 else m.used }
      else m) } } := by
  have mics : s.floor.mics.map (fun m =>
        if m.seat == seat && m.phase == .opening && m.step + 1 ≥ Config.fadeSteps then advanceMic m else m) =
      s.floor.mics.map (fun m => if m.seat = seat ∧ m.phase = .opening ∧ 7 ≤ m.step then
        { m with
          age := min (m.age + 1) 65535, phase := .opened, step := 8
          used := if m.cls ≤ 1 then min (m.used + 1) 1800000 else m.used }
        else m) := by
    refine List.map_congr_left fun m _ => ?_
    by_cases h : m.seat = seat ∧ m.phase = .opening ∧ 7 ≤ m.step
    · rw [if_pos h, if_pos (by simp [h.1, h.2.1, Config.fadeSteps, h.2.2]), advanceMic_eq]
      simp [h.2.1, h.2.2]
    · rw [if_neg h, if_neg]
      simpa [Config.fadeSteps, and_assoc] using h
  rw [fadeInOp, mics]

theorem fading_iff : s.floor.mics.any (fun m => m.seat == seat && m.phase == .closing && m.step ≤ 1) = true ↔
    ∃ m ∈ s.floor.mics, m.seat = seat ∧ m.phase = .closing ∧ m.step ≤ 1 := by
  simp [and_assoc]

theorem endPlaceHold_kept (seat : Nat) (s : State) : endPlaceHold seat s = { s with
    claims := { s.claims with places := s.claims.places.filter (fun c => ¬ (c.seat = seat ∧ c.stage = .hold)) }
    dlc := { s.dlc with uplinks := (endPlaceHold seat s).dlc.uplinks } } := by
  have fields : ∀ x y : Dlc, x.units = y.units → x.pointer = y.pointer → x.window = y.window →
      x.dueWindow = y.dueWindow → x.pollOut = y.pollOut → x.uplinkIn = y.uplinkIn → x = { y with uplinks := x.uplinks } := by
    intro x y h1 h2 h3 h4 h5 h6
    cases x
    cases y
    simp_all
  have claims : ∀ x y : Claims, x.languages = y.languages → x.lanes = y.lanes → x.placeWants = y.placeWants →
      x.languageWants = y.languageWants → x = { y with places := x.places } := by
    intro x y h1 h2 h3 h4
    cases x
    cases y
    simp_all
  have places : (endPlaceHold seat s).claims.places =
      s.claims.places.filter (fun c => ¬ (c.seat = seat ∧ c.stage = .hold)) := by
    rw [endPlaceHold_places]
    refine List.filter_congr fun c _ => ?_
    by_cases h1 : c.seat = seat <;> by_cases h2 : c.stage = .hold <;> simp [h1, h2]
  have hclaims := claims (endPlaceHold seat s).claims s.claims (by simp) (by simp) (by simp) (by simp)
  rw [places] at hclaims
  rw [State.eq_iff]
  exact ⟨by simp, by simp, by simp, by simp, by simp, hclaims,
    fields _ _ (by simp) (by simp) (by simp) (by simp) (by simp) (by simp), by simp, by simp, by simp, by simp, by simp,
    by simp, by simp⟩

theorem expiring_iff : s.floor.mics.any (fun m => m.seat == seat && timeExpired s m) = true ↔
    ∃ m ∈ s.floor.mics, m.seat = seat ∧ m.cls ≤ 1 ∧ m.phase ≠ .closing ∧ 0 < (context s).speakingTime ∧
      (context s).speakingTime * 500 ≤ m.used := by
  simp only [List.any_eq_true, Bool.and_eq_true, beq_iff_eq, timeExpired_iff]
end

/-- Settles O20. -/
theorem oneMicAtASwitchPoint : Obligations.OneMicAtASwitchPoint := by
  intro s seat hs
  have fadeIn : exec (.fadeInComplete seat) s = .next (fadeInOp seat s) := by rw [exec_of_live _ s hs]; rfl
  have fadeOut : exec (.fadeOutEnd seat) s = .next (fadeOutOp seat s) := by rw [exec_of_live _ s hs]; rfl
  have expiry : exec (.speakingTimeExpiry seat) s = .next (speakingExpiryOp seat s) := by rw [exec_of_live _ s hs]; rfl
  refine ⟨by rw [fadeIn, fadeInOp_eq], fun h => ?_, fun h => ?_, fun h => ?_, fun h => ?_⟩
  · rw [fadeOut, fadeOutOp, if_neg (mt fading_iff.mp h)]
  · rw [fadeOutOp, if_pos (fading_iff.mpr h)] at fadeOut
    have mics : s.floor.mics.filter (fun m => m.seat != seat) = s.floor.mics.filter (fun m => m.seat ≠ seat) :=
      List.filter_congr fun m _ => by by_cases h : m.seat = seat <;> simp [h]
    have kept := endPlaceHold_kept seat { s with floor := { s.floor with
      mics := s.floor.mics.filter (fun m => m.seat != seat) } }
    refine ⟨_, fadeOut, ?_, ?_, fun c hc hseat hstage hlt => ?_, ?_⟩
    · rw [kept, mics]
    · rw [kept]
    · exact (endPlaceHold_frees seat _ c.uplink).2.2 c hc hseat hstage rfl hlt
    · rw [State.eq_iff]
      refine ⟨by simp, by simp, by simp, by simp, by simp, rfl, ?_, rfl, by simp, by simp, by simp, by simp, by simp, by simp⟩
      rw [kept]
  · rw [expiry, speakingExpiryOp, if_neg (mt expiring_iff.mp h)]
  · rw [expiry, speakingExpiryOp, if_pos (expiring_iff.mpr h)]
    have mics : s.floor.mics.map (fun m => if m.seat == seat then closed m else m) =
        s.floor.mics.map (fun m => if m.seat = seat then { m with phase := .closing } else m) := by
      simp only [closed_eq, beq_iff_eq]
    rw [closeSeatMic, closeMics, mics]
    rfl
end Sys2Proof.Machine
end

section
/-! PROOF. What a switch point hands over: a link failure and a link recovery (O18, O19, O15). -/
namespace Sys2Proof.Machine

/-! ### The flags of a change of state -/

section
variable (s : State)

theorem recompute_flags (n : Nat) : (recompute s).port.flags.getLsbD n = true ↔
    s.port.flags.getLsbD n = true ∨ n = 0 ∧ membershipOf s ≠ s.room.members := by
  have members : (recomposed s).room.members = membershipOf s := rfl
  have port : (recomposed s).port = s.port := rfl
  simp only [recompute, presentContextChange_keeps]
  split
  · next h =>
    rw [members] at h
    simp [h]
  · next h =>
    rw [members] at h
    rw [presentMembership_raises, raise_getLsbD, port]
    simp [h, flagBit]

theorem changeState_flags (st : StationState) (timer : Option Nat) (hst : st ≠ .running) (n : Nat) :
    (changeState st timer s).port.flags.getLsbD n = true ↔
      s.port.flags.getLsbD n = true ∨ n = 0 ∧ s.room.members ≠ [s.station.number] := by
  have port : (changeState st timer s).port =
      (recompute { s with station := { s.station with state := st, joinTimer := timer } }).port := by simp [changeState]
  rw [port, recompute_flags, membershipOf_of_not_running (by exact hst)]
  exact or_congr_right (and_congr_right fun _ => ne_comm)

theorem changeState_room (st : StationState) (timer : Option Nat) (hst : st ≠ .running) :
    (changeState st timer s).room.members = [s.station.number] ∧ (changeState st timer s).room.head = s.station.number ∧
    (changeState st timer s).room.adopted = homeContext s := by
  obtain ⟨hmembers, hhead, hadopted, -⟩ := recompute_of_not_running
    (s := { s with station := { s.station with state := st, joinTimer := timer } }) (by exact hst)
  exact ⟨hmembers, hhead, hadopted⟩

theorem forall₂_map_eq {α β : Type} {r : α → α → Prop} {g : α → β} (h : ∀ a b, r a b → g b = g a) {l m : List α}
    (hlm : List.Forall₂ r l m) : m.map g = l.map g := by
  induction hlm with
  | nil => rfl
  | cons hab _ ih => simp [h _ _ hab, ih]

theorem changeState_seats (st : StationState) (timer : Option Nat) :
    (changeState st timer s).floor.mics.map (·.seat) = s.floor.mics.map (·.seat) := by
  have soft := (soft_recompute { s with station := { s.station with state := st, joinTimer := timer } }).mics
  exact forall₂_map_eq (g := (·.seat)) (fun _ _ h => h.1) soft
end

/-! ### Lanes given up -/

/-- Folding the withdrawal of lane Intents takes out the Intents of those lanes, and no other claim. -/
theorem mem_dropLaneIntents (l : List LaneClaim) : ∀ (s : State) (x : LaneClaim),
    x ∈ (l.foldl (fun s' c => dropLaneIntent c s') s).claims.lanes ↔
      x ∈ s.claims.lanes ∧ ¬ (isIntent x.stage = true ∧ ∃ c ∈ l, c.lane = x.lane) := by
  induction l with
  | nil => simp
  | cons c l ih =>
    intro s x
    have now : x ∈ (dropLaneIntent c s).claims.lanes ↔
        x ∈ s.claims.lanes ∧ ¬ (x.lane = c.lane ∧ isIntent x.stage = true) := by
      simp [dropLaneIntent, dropHolding, setHoldings, imp_iff_not_or]
    rw [List.foldl_cons, ih, now]
    simp only [List.mem_cons, exists_eq_or_imp, and_assoc, eq_comm (a := c.lane)]
    generalize (∃ c ∈ l, c.lane = x.lane) = later
    tauto

theorem mem_loseLanes (l : List Nat) : ∀ s : State,
    (∀ h, h ∈ (l.foldl (fun s' n => loseLane n s') s).lanes.holdings ↔ h ∈ s.lanes.holdings ∧ h.lane ∉ l) ∧
    (∀ c, c ∈ (l.foldl (fun s' n => loseLane n s') s).claims.lanes ↔
      c ∈ s.claims.lanes ∧ ¬ (c.stage = .hold ∧ c.lane ∈ l)) := by
  induction l with
  | nil => exact fun s => ⟨fun h => by simp, fun c => by simp⟩
  | cons n l ih =>
    intro s
    obtain ⟨holdings, claims⟩ := ih (loseLane n s)
    refine ⟨fun h => ?_, fun c => ?_⟩
    · rw [List.foldl_cons, holdings]
      simp [loseLane, dropHolding, endLaneHold, setHoldings, and_assoc]
    · rw [List.foldl_cons, claims]
      simp [loseLane, dropHolding, endLaneHold, setHoldings]
      tauto

/-- Where no lane Intent stands, releasing all lanes leaves none. -/
theorem releaseAllLanes_of_holds {s : State} (law : LaneLaw s) (h : ∀ c ∈ s.claims.lanes, isIntent c.stage = false) :
    (releaseAllLanes s).lanes = ⟨[], []⟩ ∧ (releaseAllLanes s).claims.lanes = [] := by
  have byLane : (heldLanes s).map (·.lane) = (s.lanes.holdings.filter (·.held)).map (·.lane) := by
    simp [heldLanes, Function.comp_def]
  obtain ⟨holdings, claims⟩ := mem_loseLanes ((heldLanes s).map (·.lane)) s
  have held : ∀ x ∈ s.lanes.holdings, x.held = true := fun x hx => by
    obtain ⟨-, -, -, c, hc, -, -, hstage⟩ := law.2.2.2.1 x hx
    refine hstage.mpr ?_
    have := h c hc
    cases hst : c.stage <;> simp_all [isIntent]
  have listed : ∀ x ∈ s.lanes.holdings, x.lane ∈ (heldLanes s).map (·.lane) := fun x hx => by
    rw [byLane]
    exact List.mem_map.mpr ⟨x, List.mem_filter.mpr ⟨hx, held x hx⟩, rfl⟩
  have noHolding : (((heldLanes s).map (·.lane)).foldl (fun s' n => loseLane n s') s).lanes.holdings = [] :=
    List.eq_nil_iff_forall_not_mem.mpr fun x hx => ((holdings x).mp hx).2 (listed x ((holdings x).mp hx).1)
  have noClaim : (((heldLanes s).map (·.lane)).foldl (fun s' n => loseLane n s') s).claims.lanes = [] :=
    List.eq_nil_iff_forall_not_mem.mpr fun c hc => by
      obtain ⟨hmem, hnot⟩ := (claims c).mp hc
      obtain ⟨x, hx, hlane⟩ := law.2.2.2.2 c hmem
      refine hnot ⟨?_, hlane ▸ listed x hx⟩
      have := h c hmem
      cases hst : c.stage <;> simp_all [isIntent]
  have shape : releaseAllLanes s = { ((heldLanes s).map (·.lane)).foldl (fun s' n => loseLane n s') s with
      lanes := { (((heldLanes s).map (·.lane)).foldl (fun s' n => loseLane n s') s).lanes with shortage := [] } } := rfl
  rw [shape]
  generalize ((heldLanes s).map (·.lane)).foldl (fun s' n => loseLane n s') s = v at noHolding noClaim
  exact ⟨congrArg (Lanes.mk · []) noHolding, noClaim⟩

theorem isolateClaims_claims (s : State) : (∀ c ∈ (isolateClaims s).claims.lanes, isIntent c.stage = false) ∧
    (∀ c ∈ (isolateClaims s).claims.languages, isIntent c.stage = true → ∀ n ∈ c.displaced, n.station = s.station.number) := by
  let s1 := (s.claims.lanes.filter (fun c => isIntent c.stage)).foldl (fun s' c => dropLaneIntent c s') s
  have shape : isolateClaims s = (s1.claims.languages.filter (fun c => isIntent c.stage && foreignTakeover s c.displaced)).foldl
    (fun s' c => withdrawLanguage c s') s1 := rfl
  have lanes : (isolateClaims s).claims.lanes = s1.claims.lanes := by rw [shape]; simp
  refine ⟨fun c hc => ?_, fun c hc hintent n hn => ?_⟩
  · rw [lanes] at hc
    obtain ⟨hmem, hnot⟩ := (mem_dropLaneIntents _ s c).mp hc
    rw [← Bool.not_eq_true]
    exact fun h => hnot ⟨h, c, List.mem_filter.mpr ⟨hmem, h⟩, rfl⟩
  · rw [shape] at hc
    obtain ⟨hmem, hnot⟩ := (mem_withdrawLanguages _ s1 c).mp hc
    by_contra hne
    refine hnot ⟨hintent, c, List.mem_filter.mpr ⟨hmem, ?_⟩, rfl⟩
    rw [Option.mem_def] at hn
    simp [hintent, foreignTakeover, hn, hne]

/-! ### A link failure -/

section
variable {s : State}

/-- The state of a link failure after its change of state, before claims and lanes go. -/
def isolated (s : State) : State := forgetPeers (changeState .isolated none (isolateLink s))

theorem enterIsolated_eq (s : State) :
    enterIsolated s = isolatePlan (releaseAllLanes (isolateClaims (isolated s))) := rfl

theorem isolated_station (s : State) : (isolated s).station.number = s.station.number := by simp [isolated]

theorem keeps_isolated (s : State) : Keeps s (isolated s) :=
  (((soft_isolateLink s).trans (soft_changeState _ _ _)).trans (soft_forgetPeers _)).keeps

theorem withoutLane_source (x : Listening) (n : Nat) : (withoutLane x).source ≠ .lane n := by
  unfold withoutLane
  split <;> simp [*]

/-- What a link failure leaves. -/
theorem enterIsolated_spec (law : LaneLaw s) :
    let t := enterIsolated s
    t.peers = List.replicate 16 none ∧
      t.room.members = [s.station.number] ∧ t.room.head = s.station.number ∧ t.room.adopted = homeContext s ∧
      t.room.marks = List.replicate 16 false ∧ t.room.lastSeen = List.replicate 16 none ∧
      t.room.queue = s.room.queue ∧ t.room.current = s.room.current ∧ t.room.counter = s.room.counter ∧
      t.lanes = ⟨[], []⟩ ∧ t.claims.lanes = [] ∧
      (∀ c ∈ t.claims.languages, isIntent c.stage = true → ∀ n ∈ c.displaced, n.station = s.station.number) ∧
      t.mix.plan.members = [s.station.number] ∧ t.mix.plan.writeSet = [] ∧
      t.mix.plan.openMics = s.floor.mics.length ∧ (∀ x ∈ t.mix.plan.listeners, ∀ n, x.source ≠ .lane n) ∧
      t.mix.plan.channelsLeave = List.replicate 8 none ∧ t.mix.plan.headphonesLeave = List.replicate 4 none ∧
      t.floor.mics.map (·.seat) = s.floor.mics.map (·.seat) := by
  intro t
  obtain ⟨members, head, adopted⟩ := changeState_room (isolateLink s) .isolated none (by decide)
  have law' : LaneLaw (isolateClaims (isolated s)) := (keeps_isolateClaims _).lane ((keeps_isolated s).lane law)
  obtain ⟨intents, foreign⟩ := isolateClaims_claims (isolated s)
  obtain ⟨lanes, claims⟩ := releaseAllLanes_of_holds law' intents
  have room : t.room = { (changeState .isolated none (isolateLink s)).room with
      marks := List.replicate 16 false, lastSeen := List.replicate 16 none } := by
    rw [show t = _ from enterIsolated_eq s]
    simp [isolated]
    rfl
  have seats : t.floor.mics.map (·.seat) = s.floor.mics.map (·.seat) := by
    have floor : t.floor = (changeState .isolated none (isolateLink s)).floor := by
      rw [show t = _ from enterIsolated_eq s]
      simp [isolated]
    rw [floor, changeState_seats]
    rfl
  have plan : t.mix.plan = { s.mix.plan with
      members := [s.station.number], openMics := s.floor.mics.length, factor := nomFactor s.floor.mics.length
      writeSet := [], listeners := s.mix.plan.listeners.map withoutLane
      channelsLeave := List.replicate 8 none, headphonesLeave := List.replicate 4 none } := by
    have length : (isolated s).floor.mics.length = s.floor.mics.length := by
      have h := congrArg List.length (changeState_seats (isolateLink s) .isolated none)
      simpa [isolated] using h
    rw [show t = _ from enterIsolated_eq s]
    simp [isolatePlan, isolated_station, length]
    simp [isolated]
  refine ⟨by rw [show t = _ from enterIsolated_eq s]; simp [isolated, isolateLink], by rw [room]; exact members,
    by rw [room]; exact head, by rw [room]; exact adopted, by rw [room], by rw [room], ?_, ?_, ?_, ?_, ?_, ?_, by rw [plan],
    by rw [plan], by rw [plan], ?_, by rw [plan], by rw [plan], seats⟩
  · rw [room]
    simp [changeState]
  · rw [room]
    simp [changeState]
  · rw [room]
    simp [changeState]
  · exact lanes
  · exact claims
  · have languages : t.claims.languages = (isolateClaims (isolated s)).claims.languages := by
      rw [show t = _ from enterIsolated_eq s]
      simp
    rw [languages, ← isolated_station s]
    exact foreign
  · rw [plan]
    intro x hx n
    obtain ⟨y, -, rfl⟩ := List.mem_map.mp hx
    exact withoutLane_source y n

theorem enterIsolated_flags (n : Nat) : (enterIsolated s).port.flags.getLsbD n = true ↔
    s.port.flags.getLsbD n = true ∨ n = 0 ∧ s.room.members ≠ [s.station.number] := by
  have port : (enterIsolated s).port = (changeState .isolated none (isolateLink s)).port := by simp [enterIsolated]
  rw [port, changeState_flags _ _ _ (by decide)]
  simp

/-- What a link failure is taken on: the state with the flags of the counts at their limits. -/
def failureFlagged (s : State) : State := raiseIf (s.lif.unaligned ≥ Config.unalignedLimit) .linkLost
  (raiseIf (s.lif.markMissing ≥ Config.markLimit) .syncLost s)

theorem failureFlagged_eq (s : State) :
    failureFlagged s = { s with port := { s.port with flags := (failureFlagged s).port.flags } } := by
  unfold failureFlagged raiseIf
  split <;> split <;> rfl

theorem failureFlagged_flags (n : Nat) : (failureFlagged s).port.flags.getLsbD n = true ↔
    s.port.flags.getLsbD n = true ∨ n = 4 ∧ 2 ≤ s.lif.markMissing ∨ n = 5 ∧ 3 ≤ s.lif.unaligned := by
  unfold failureFlagged
  rw [raiseIf_getLsbD, raiseIf_getLsbD, or_assoc]
  refine or_congr_right (or_congr ?_ ?_)
  · exact (and_congr_left' (decide_eq_true_iff (p := s.lif.markMissing ≥ 2))).trans and_comm
  · exact (and_congr_left' (decide_eq_true_iff (p := s.lif.unaligned ≥ 3))).trans and_comm

theorem takeLinkFailure_eq (h : FailureDue s) : takeLinkFailure s = enterIsolated (failureFlagged s) :=
  takeLinkFailure_of_due h

theorem takeLinkFailure_flags (h : FailureDue s) (n : Nat) : (takeLinkFailure s).port.flags.getLsbD n = true ↔
    (s.port.flags.getLsbD n = true ∨ n = 4 ∧ 2 ≤ s.lif.markMissing ∨ n = 5 ∧ 3 ≤ s.lif.unaligned) ∨
      n = 0 ∧ s.room.members ≠ [s.station.number] := by
  rw [takeLinkFailure_eq h, enterIsolated_flags, failureFlagged_flags, failureFlagged_eq]
end

/-- Settles O18. -/
theorem linkFailureIsolates : Obligations.LinkFailureIsolates := by
  intro s hs due
  have failure : exec .linkFailure s = .next (takeLinkFailure s) := by rw [exec_of_live _ s hs]; rfl
  refine ⟨fun h => by rw [failure, takeLinkFailure_of_not h], fun h law => ⟨_, failure, ?_⟩⟩
  have flags := takeLinkFailure_flags h
  rw [takeLinkFailure_eq h] at flags ⊢
  have flagged := failureFlagged_eq s
  generalize failureFlagged s = v at flags flagged ⊢
  have law' : LaneLaw v := by rw [flagged]; exact law
  obtain ⟨peers, members, head, adopted, marks, lastSeen, queue, current, counter, lanes, laneClaims, foreign, plan⟩ :=
    enterIsolated_spec law'
  have same : v.station = s.station ∧ v.lif = s.lif ∧ v.walls = s.walls ∧ v.seats = s.seats ∧ v.room = s.room ∧
      v.floor = s.floor ∧ v.dlc = s.dlc := by rw [flagged]; exact ⟨rfl, rfl, rfl, rfl, rfl, rfl, rfl⟩
  obtain ⟨station, lif, walls, seats, room, floor, dlc⟩ := same
  have home : homeContext v = homeContext s := by simp only [homeContext, station, floor]
  rw [station] at members head foreign
  rw [home] at adopted
  rw [room] at queue current counter
  rw [station, floor] at plan
  obtain ⟨planMembers, planWrites, planMics, planLanes, planChannels, planHeadphones, micSeats⟩ := plan
  refine ⟨by rw [enterIsolated_station, station], by rw [enterIsolated_lif, lif], peers, by simp [walls], by simp [seats],
    members, head, adopted, marks, lastSeen, queue, current, counter, lanes, laneClaims, foreign, planMembers, planWrites,
    planMics, planLanes, planChannels, planHeadphones, micSeats, by simp [dlc], ?_, ?_, fun hm => ?_⟩
  · rw [flags]
    simp
  · rw [flags]
    simp
  · exact (flags 0).mpr (.inr ⟨rfl, hm⟩)
end Sys2Proof.Machine
end

section
/-! PROOF. A link recovery, and the counts of a switch point that hand it over (O19, O15). -/
namespace Sys2Proof.Machine

/-! ### A link recovery -/

section
variable {s : State}

theorem isIntent_eq_false_iff (x : Stage) : isIntent x = false ↔ x = .hold := by cases x <;> simp [isIntent]

/-- The place Intents withdrawn, then the language Intents. -/
def placesWithdrawn (s : State) : State :=
  (s.claims.places.filter (fun c => isIntent c.stage)).foldl (fun s' c => dropPlaceIntent c s') s

def languagesWithdrawn (s : State) : State :=
  (s.claims.languages.filter (fun c => isIntent c.stage)).foldl (fun s' c => withdrawLanguage c s') s

def lanesWithdrawn (s : State) : State :=
  (s.claims.lanes.filter (fun c => isIntent c.stage)).foldl (fun s' c => dropLaneIntent c s') s

theorem withdrawAllIntents_eq (s : State) :
    withdrawAllIntents s = lanesWithdrawn (languagesWithdrawn (placesWithdrawn s)) := rfl

theorem placesWithdrawn_holds (s : State) : ∀ c ∈ (placesWithdrawn s).claims.places, c.stage = .hold := fun c hc => by
  obtain ⟨hmem, hnot⟩ := (mem_dropPlaceIntents _ s c).mp hc
  rw [← isIntent_eq_false_iff, ← Bool.not_eq_true]
  exact fun h => hnot ⟨h, c, List.mem_filter.mpr ⟨hmem, h⟩, rfl⟩

theorem languagesWithdrawn_holds (s : State) : ∀ c ∈ (languagesWithdrawn s).claims.languages, c.stage = .hold := fun c hc => by
  obtain ⟨hmem, hnot⟩ := (mem_withdrawLanguages _ s c).mp hc
  rw [← isIntent_eq_false_iff, ← Bool.not_eq_true]
  exact fun h => hnot ⟨h, c, List.mem_filter.mpr ⟨hmem, h⟩, rfl⟩

theorem lanesWithdrawn_holds (s : State) : ∀ c ∈ (lanesWithdrawn s).claims.lanes, c.stage = .hold := fun c hc => by
  obtain ⟨hmem, hnot⟩ := (mem_dropLaneIntents _ s c).mp hc
  rw [← isIntent_eq_false_iff, ← Bool.not_eq_true]
  exact fun h => hnot ⟨h, c, List.mem_filter.mpr ⟨hmem, h⟩, rfl⟩

theorem withdrawAllIntents_holds (s : State) : (∀ c ∈ (withdrawAllIntents s).claims.places, c.stage = .hold) ∧
    (∀ c ∈ (withdrawAllIntents s).claims.languages, c.stage = .hold) ∧
    (∀ c ∈ (withdrawAllIntents s).claims.lanes, c.stage = .hold) := by
  rw [withdrawAllIntents_eq]
  refine ⟨?_, ?_, lanesWithdrawn_holds _⟩
  · have kept : (lanesWithdrawn (languagesWithdrawn (placesWithdrawn s))).claims.places = (placesWithdrawn s).claims.places := by
      simp [lanesWithdrawn, languagesWithdrawn]
    rw [kept]
    exact placesWithdrawn_holds s
  · have kept : (lanesWithdrawn (languagesWithdrawn (placesWithdrawn s))).claims.languages =
        (languagesWithdrawn (placesWithdrawn s)).claims.languages := by simp [lanesWithdrawn]
    rw [kept]
    exact languagesWithdrawn_holds _

theorem withdrawAllIntents_frees (law : UplinkLaw s) {c : PlaceClaim} (hc : c ∈ s.claims.places) (h : c.stage ≠ .hold) :
    (withdrawAllIntents s).dlc.uplinks[c.uplink]? = some none := by
  have kept : (withdrawAllIntents s).dlc = (placesWithdrawn s).dlc := by
    rw [withdrawAllIntents_eq]
    simp [lanesWithdrawn, languagesWithdrawn]
  have intent : isIntent c.stage = true := by
    rw [← Bool.not_eq_false, isIntent_eq_false_iff]
    exact h
  rw [kept]
  refine (foldl_frees (g := fun s' c => dropPlaceIntent c s') (fun _ _ => rfl) _ s c.uplink).2 (.inr ⟨⟨c, ?_, rfl⟩, ?_⟩)
  · exact List.mem_filter.mpr ⟨hc, intent⟩
  · have := law.uplink_lt hc
    have := law.1
    omega

/-- The state of a link recovery before the station changes its state. -/
def recovered (s : State) : State := forgetPeers (removeCurrent (withdrawAllIntents s))

theorem leaveIsolated_eq (s : State) : leaveIsolated s = enterJoining (recovered s) := rfl

theorem forall₂_holds {α : Type} {r : α → α → Prop} {p : α → Prop} (h : ∀ a b, r a b → p a → p b) {l m : List α}
    (hlm : List.Forall₂ r l m) (hl : ∀ a ∈ l, p a) : ∀ b ∈ m, p b := by
  induction hlm with
  | nil => simp
  | cons hab _ ih =>
    intro b hb
    rcases List.mem_cons.mp hb with rfl | hb
    · exact h _ _ hab (hl _ List.mem_cons_self)
    · exact ih (fun a ha => hl a (List.mem_cons_of_mem _ ha)) b hb

theorem leaveIsolated_holds (s : State) : (∀ c ∈ (leaveIsolated s).claims.places, c.stage = .hold) ∧
    (∀ c ∈ (leaveIsolated s).claims.languages, c.stage = .hold) ∧
    (∀ c ∈ (leaveIsolated s).claims.lanes, c.stage = .hold) := by
  obtain ⟨places, languages, lanes⟩ := withdrawAllIntents_holds s
  have soft : Soft (withdrawAllIntents s) (leaveIsolated s) :=
    ((soft_removeCurrent _).trans (soft_forgetPeers _)).trans (soft_enterJoining _)
  exact ⟨forall₂_holds (fun _ _ h => h.2.2.mpr) soft.places places,
    forall₂_holds (fun _ _ h => h.2.2.1.mpr) soft.languages languages,
    forall₂_holds (fun _ _ h => h.2.2.mpr) soft.lanes lanes⟩

theorem removeCurrent_room (s : State) : (removeCurrent s).room = { s.room with
    current := none, queue := if s.room.current = none then s.room.queue else s.room.queue.tail } := by
  unfold removeCurrent
  cases h : s.room.current with
  | none => simp [← h]
  | some c => simp

theorem recovered_room (s : State) : (recovered s).room = { s.room with
    current := none, queue := if s.room.current = none then s.room.queue else s.room.queue.tail
    marks := List.replicate 16 false, lastSeen := List.replicate 16 none } := by
  have kept : (withdrawAllIntents s).room = s.room := by simp
  rw [recovered, forgetPeers, removeCurrent_room, kept]

theorem recovered_blocks (s : State) : (recovered s).station = s.station ∧ (recovered s).floor = s.floor ∧
    (recovered s).peers = s.peers ∧ (recovered s).port = s.port := by
  simp [recovered]

theorem enterJoining_commands (s : State) : (enterJoining s).room.queue = s.room.queue ∧
    (enterJoining s).room.current = s.room.current := by
  simp [enterJoining, changeState]

/-- While Joining a recomputation makes no peer a member, and so marks no command as seen. -/
theorem lastSeen_of_alone (h : s.station.state ≠ .running) : (recompute s).room.lastSeen = s.room.lastSeen := by
  have members : (recomposed s).room.members = [s.station.number] := membershipOf_of_not_running h
  have marked : ∀ before, (markNewcomers before (claimsAtMembership (raise .roomChanged (recomposed s)))).room.lastSeen =
      s.room.lastSeen := by
    intro before
    have room : (claimsAtMembership (raise .roomChanged (recomposed s))).room = (recomposed s).room := by simp
    have station : (claimsAtMembership (raise .roomChanged (recomposed s))).station = s.station := by simp [recomposed]
    have seen : (recomposed s).room.lastSeen = s.room.lastSeen := rfl
    unfold markNewcomers
    simp only [room, station, members, seen]
    refine List.ext_getElem? fun i => ?_
    simp only [List.getElem?_map, List.getElem?_zipIdx, Nat.zero_add]
    cases s.room.lastSeen[i]? with
    | none => rfl
    | some x =>
      by_cases hi : i = s.station.number <;> simp [hi]
  simp only [recompute, presentContextChange_keeps]
  split
  · rfl
  · rw [presentMembership]
    exact marked _

theorem enterJoining_lastSeen (s : State) : (enterJoining s).room.lastSeen = s.room.lastSeen := by
  have h : (enterJoining s).room.lastSeen = (recompute { s with
      lif := { s.lif with epoch := (s.lif.epoch + 1) % 256 }
      station := { s.station with state := .joining, joinTimer := some Config.joiningFrames } }).room.lastSeen := by
    simp [enterJoining, changeState]
  rw [h, lastSeen_of_alone (by simp)]

theorem leaveIsolated_flags (n : Nat) : (leaveIsolated s).port.flags.getLsbD n = true ↔
    s.port.flags.getLsbD n = true ∨ n = 0 ∧ s.room.members ≠ [s.station.number] := by
  obtain ⟨station, -, -, port⟩ := recovered_blocks s
  rw [leaveIsolated_eq, enterJoining, changeState_flags _ _ _ (by decide)]
  simp only [port, station, recovered_room]
end

/-- Settles O19. -/
theorem linkRecoveryRejoins : Obligations.LinkRecoveryRejoins := by
  intro s hs due
  have recovery : exec .linkRecovery s = .next (takeLinkRecovery s) := by rw [exec_of_live _ s hs]; rfl
  refine ⟨fun h => by rw [recovery, takeLinkRecovery_of_not h], fun h => ?_⟩
  obtain ⟨station, floor, -, -⟩ := recovered_blocks s
  obtain ⟨places, languages, lanes⟩ := leaveIsolated_holds s
  obtain ⟨members, -, adopted, -⟩ := enterJoining_room (s := recovered s)
  obtain ⟨queue, current⟩ := enterJoining_commands (recovered s)
  have lastSeen := enterJoining_lastSeen (recovered s)
  rw [← leaveIsolated_eq] at members adopted queue current lastSeen
  rw [recovered_room] at queue current lastSeen
  rw [takeLinkRecovery_of_due h] at recovery
  refine ⟨_, recovery, leaveIsolated_station s, leaveIsolated_lif s, places, languages, lanes, fun law c hc hst => ?_, current,
    queue, lastSeen, by rw [members, station], by rw [adopted]; simp only [homeContext, station, floor], by simp, by simp,
    by simp⟩
  rw [show (leaveIsolated s).dlc = (withdrawAllIntents s).dlc by simp [leaveIsolated]]
  exact withdrawAllIntents_frees law hc hst

/-! ### The counts of a switch point -/

section
variable (l : Lif)

theorem evaluateLink_of_searching (h : l.sync = .searching) :
    (evaluateLink l).sync = .searching ∧ (evaluateLink l).markMissing = l.markMissing := by
  simp [evaluateLink, evaluateAlignment, evaluateSync, h]

theorem evaluateLink_of_mark (h : l.sync = .locked) (hmark : l.markSeen = true) :
    (evaluateLink l).sync = .locked ∧ (evaluateLink l).markMissing = 0 := by
  simp [evaluateLink, evaluateAlignment, evaluateSync, h, hmark]

theorem evaluateLink_of_noMark (h : l.sync = .locked) (hmark : l.markSeen = false) :
    (evaluateLink l).markMissing = min (l.markMissing + 1) 2 ∧
    ((evaluateLink l).sync = .searching ↔ (evaluateLink l).markMissing = 2) := by
  by_cases hlimit : l.markMissing + 1 ≥ 2
  · have hlimit' : l.markMissing + 1 ≥ Config.markLimit := hlimit
    simp only [evaluateLink, evaluateAlignment, evaluateSync, h, hmark, Bool.false_eq_true, if_false, hlimit', if_true, true_iff]
    exact ⟨(Nat.min_eq_right hlimit).symm, rfl⟩
  · have hlimit' : ¬ l.markMissing + 1 ≥ Config.markLimit := hlimit
    simp only [evaluateLink, evaluateAlignment, evaluateSync, h, hmark, Bool.false_eq_true, if_false, hlimit']
    refine ⟨by omega, iff_of_false (by decide) (by omega)⟩

theorem evaluateLink_good : (evaluateLink l).good = if l.sync = .locked ∧ l.acquired = false ∧ l.markSeen = true ∧
    l.superframeAligned = true then min (l.good + 1) 4 else 0 := by
  have good : goodSuperframe l = true ↔ l.sync = .locked ∧ l.acquired = false ∧ l.markSeen = true ∧
      l.superframeAligned = true := by simp [goodSuperframe, and_assoc]
  have shape : (evaluateLink l).good = if goodSuperframe l then min (l.good + 1) 4 else 0 := rfl
  rw [shape]
  by_cases h : goodSuperframe l = true
  · rw [if_pos h, if_pos (good.mp h)]
  · rw [if_neg h, if_neg (mt good.mpr h)]

/-- A superframe that counts as good leaves no count at its limit. -/
theorem evaluateLink_bad (h : 2 ≤ (evaluateLink l).markMissing ∨ 3 ≤ (evaluateLink l).unaligned) :
    (evaluateLink l).good = 0 := by
  rw [evaluateLink_good]
  refine if_neg ?_
  rintro ⟨hsync, -, hmark, haligned⟩
  have missing := (evaluateLink_of_mark l hsync hmark).2
  have unaligned : (evaluateLink l).unaligned = if l.superframeAligned then 0 else min (l.unaligned + 1) 3 := by
    cases hs : l.sync <;> simp [evaluateLink, evaluateAlignment, evaluateSync, hs, hmark, haligned]
  rw [haligned, if_pos rfl] at unaligned
  omega
end

section
variable {s : State}

theorem takeLinkFailure_counts (s : State) : (takeLinkFailure s).lif.markMissing = s.lif.markMissing ∧
    (takeLinkFailure s).lif.unaligned = s.lif.unaligned ∧ (takeLinkFailure s).lif.good = s.lif.good ∧
    (takeLinkFailure s).lif.sync = s.lif.sync := by
  unfold takeLinkFailure
  split <;> simp

theorem takeLinkRecovery_counts (s : State) : (takeLinkRecovery s).lif.markMissing = s.lif.markMissing ∧
    (takeLinkRecovery s).lif.unaligned = s.lif.unaligned ∧ (takeLinkRecovery s).lif.good = s.lif.good ∧
    (takeLinkRecovery s).lif.sync = s.lif.sync := by
  unfold takeLinkRecovery
  split <;> simp

/-- What a switch point hands over: a failure from a station on the link, a recovery from an Isolated one. -/
theorem exec_switchPoint_cases (hs : Live s) :
    (s.station.state = .unconfigured → exec .switchPoint s = .next (switchPointWork s)) ∧
    (s.station.state = .joining ∨ s.station.state = .running →
      exec .switchPoint s = .next (takeLinkFailure (switchPointWork s))) ∧
    (s.station.state = .isolated → exec .switchPoint s = .next (takeLinkRecovery (switchPointWork s))) := by
  have station : (switchPointWork s).station = s.station := by simp
  obtain ⟨missing, unaligned, good, -⟩ := switchPointWork_counts s
  refine ⟨fun h => ?_, fun h => ?_, fun h => ?_⟩
  · rw [exec_switchPoint hs, takeLinkFailure_of_not (by simp [FailureDue, h]),
      takeLinkRecovery_of_not (by simp [RecoveryDue, h])]
  · rw [exec_switchPoint hs, takeLinkRecovery_of_not]
    rintro ⟨hstate, hgood⟩
    by_cases hdue : FailureDue (switchPointWork s)
    · have bad : (evaluateLink s.lif).good = 0 := by
        refine evaluateLink_bad s.lif ?_
        rw [← missing, ← unaligned]
        exact hdue.2
      rw [(takeLinkFailure_counts _).2.2.1, good, bad] at hgood
      omega
    · rw [takeLinkFailure_of_not hdue, station] at hstate
      rw [hstate] at h
      simp at h
  · rw [exec_switchPoint hs, takeLinkFailure_of_not (by simp [FailureDue, h])]

theorem takeLinkFailure_state (s : State) (h : s.station.state = .joining ∨ s.station.state = .running) :
    (takeLinkFailure s).station.state =
      if 2 ≤ s.lif.markMissing ∨ 3 ≤ s.lif.unaligned then .isolated else s.station.state := by
  by_cases hbad : 2 ≤ s.lif.markMissing ∨ 3 ≤ s.lif.unaligned
  · rw [takeLinkFailure_of_due ⟨h, hbad⟩, if_pos hbad, enterIsolated_station]
  · rw [takeLinkFailure_of_not (fun hdue => hbad hdue.2), if_neg hbad]

theorem takeLinkFailure_flag (s : State) {n : Nat} (hn : n ≠ 0) : (takeLinkFailure s).port.flags.getLsbD n = true ↔
    s.port.flags.getLsbD n = true ∨ (s.station.state = .joining ∨ s.station.state = .running) ∧
      (n = 4 ∧ 2 ≤ s.lif.markMissing ∨ n = 5 ∧ 3 ≤ s.lif.unaligned) := by
  by_cases hdue : FailureDue s
  · rw [takeLinkFailure_flags hdue]
    simp [hn, hdue.1]
  · rw [takeLinkFailure_of_not hdue]
    refine (or_iff_left ?_).symm
    rintro ⟨hstate, hcount⟩
    exact hdue ⟨hstate, hcount.imp And.right And.right⟩

theorem evaluateLink_good_le (l : Lif) : (evaluateLink l).good ≤ 4 := by
  rw [evaluateLink_good]
  split <;> omega

theorem switchPoint_flag (hs : Live s) {t : State} (h : exec .switchPoint s = .next t) {n : Nat} (hn : n ≠ 0) (h7 : n ≠ 7) :
    t.port.flags.getLsbD n = true ↔ s.port.flags.getLsbD n = true ∨
      (s.station.state = .joining ∨ s.station.state = .running) ∧
        (n = 4 ∧ 2 ≤ (evaluateLink s.lif).markMissing ∨ n = 5 ∧ 3 ≤ (evaluateLink s.lif).unaligned) := by
  obtain ⟨idle, onlink, isolated⟩ := exec_switchPoint_cases hs
  obtain ⟨missing, unaligned, good, -⟩ := switchPointWork_counts s
  have work : (switchPointWork s).port.flags.getLsbD n = true ↔ s.port.flags.getLsbD n = true := by
    rw [switchPointWork_flags]
    simp [h7]
  have station : (switchPointWork s).station = s.station := by simp
  cases hstate : s.station.state with
  | unconfigured =>
    rw [Host.Outcome.next.inj (h.symm.trans (idle hstate)), work]
    simp
  | isolated =>
    rw [Host.Outcome.next.inj (h.symm.trans (isolated hstate))]
    unfold takeLinkRecovery
    split
    · rw [leaveIsolated_flags, work]
      simp [hn]
    · rw [work]
      simp
  | joining =>
    rw [Host.Outcome.next.inj (h.symm.trans (onlink (.inl hstate))), takeLinkFailure_flag _ hn, work, station, missing,
      unaligned, hstate]
  | running =>
    rw [Host.Outcome.next.inj (h.symm.trans (onlink (.inr hstate))), takeLinkFailure_flag _ hn, work, station, missing,
      unaligned, hstate]
end

/-- Settles O15. -/
theorem switchPointJudgesTheLink : Obligations.SwitchPointJudgesTheLink := by
  refine ⟨fun s hs => ?_, fun s hs => ?_⟩
  · obtain ⟨missing, unaligned, good, sync⟩ := switchPointWork_counts s
    have station : (switchPointWork s).station = s.station := by simp
    have next := exec_switchPoint hs
    obtain ⟨fmissing, funaligned, fgood, fsync⟩ := takeLinkFailure_counts (switchPointWork s)
    obtain ⟨rmissing, runaligned, rgood, rsync⟩ := takeLinkRecovery_counts (takeLinkFailure (switchPointWork s))
    have tmissing := rmissing.trans (fmissing.trans missing)
    have tunaligned := runaligned.trans (funaligned.trans unaligned)
    have tgood := rgood.trans (fgood.trans good)
    have tsync := rsync.trans (fsync.trans sync)
    obtain ⟨idle, onlink, isolated⟩ := exec_switchPoint_cases hs
    refine ⟨_, next, fun h => ?_, fun h hm => ?_, fun h hm => ?_, ?_, fun h => ?_, fun h => ?_, fun h => ?_, ?_, ?_⟩
    · rw [tsync, tmissing]
      exact evaluateLink_of_searching s.lif h
    · rw [tsync, tmissing]
      exact evaluateLink_of_mark s.lif h hm
    · rw [tsync, tmissing]
      exact evaluateLink_of_noMark s.lif h hm
    · rw [tgood]
      exact evaluateLink_good s.lif
    · rw [Host.Outcome.next.inj (next.symm.trans (idle h)), station]
      exact h
    · rw [tmissing, tunaligned, Host.Outcome.next.inj (next.symm.trans (onlink h)),
        takeLinkFailure_state _ (by rw [station]; exact h), missing, unaligned, station]
    · have full : RecoveryDue (switchPointWork s) ↔ (evaluateLink s.lif).good = 4 := by
        have := evaluateLink_good_le s.lif
        rw [RecoveryDue, station, good, and_iff_right h]
        omega
      rw [tgood, Host.Outcome.next.inj (next.symm.trans (isolated h))]
      by_cases hgood : (evaluateLink s.lif).good = 4
      · rw [if_pos hgood, takeLinkRecovery_of_due (full.mpr hgood), leaveIsolated_station]
      · rw [if_neg hgood, takeLinkRecovery_of_not (mt full.mp hgood), station, h]
    · rw [switchPoint_flag hs next (by decide) (by decide), tmissing]
      simp
    · rw [switchPoint_flag hs next (by decide) (by decide), tunaligned]
      simp
  · intro w
    obtain ⟨missing, unaligned, good, -⟩ := switchPointWork_counts s
    obtain ⟨idle, onlink, isolated⟩ := exec_switchPoint_cases hs
    have live : Live w := by simpa [w, Live] using hs
    refine ⟨idle, fun h => ?_, fun h => ?_, exec_switchPoint_of_nothing hs, by simp [w], missing, unaligned, good⟩
    · rw [onlink h, exec_of_live .linkFailure w live]
      rfl
    · rw [isolated h, exec_of_live .linkRecovery w live]
      rfl
end Sys2Proof.Machine
end

section
/-! PROOF. The plan that a switch point latches (O17). -/
namespace Sys2Proof.Machine

/-! ### The source of a listener -/

/-- The desk is on air for language l. -/
def AirsLanguage (l : Nat) (d : Desk) : Prop := d.state = .onAir ∧ d.output = some l

/-- A member announces lane n Held for language l. -/
def LaneOffered (s : State) (l n : Nat) : Prop :=
  ∃ p ∈ memberPeers s, ∃ x ∈ p.2.content.lanes, x.held = true ∧ x.language = l ∧ x.lane = n

/-- What makes src the source of a listener of language l. -/
def SourceFor (s : State) (l : Nat) : Listener → Prop
  | .ownDesk e => (∃ d, s.booth.desks[e]? = some d ∧ AirsLanguage l d) ∧
      ∀ e' < e, ∀ d, s.booth.desks[e']? = some d → ¬ AirsLanguage l d
  | .lane n => (∀ d ∈ s.booth.desks, ¬ AirsLanguage l d) ∧ LaneOffered s l n ∧ ∀ m, LaneOffered s l m → n ≤ m
  | .floor => (∀ d ∈ s.booth.desks, ¬ AirsLanguage l d) ∧ ∀ m, ¬ LaneOffered s l m

section
variable {s : State} {l : Nat}

/-- The holder that an own desk stands for. -/
def holderOf (number : Nat) (x : Desk × Nat) : Option Holder := match x.1.state, x.1.output with
  | .onAir, some l => some ⟨number, x.2, l, x.1.relay, x.1.onAirAge, x.1.selectionAge, 0, x.1.displaced⟩
  | _, _ => none

theorem ownHolders_eq (s : State) : ownHolders s = s.booth.desks.zipIdx.filterMap (holderOf s.station.number) := rfl

theorem holderOf_any_iff (number : Nat) (x : Desk × Nat) :
    (holderOf number x).any (fun h => h.output == l) = true ↔ AirsLanguage l x.1 := by
  obtain ⟨d, e⟩ := x
  cases hst : d.state <;> cases hout : d.output <;> simp [holderOf, AirsLanguage, hst, hout]

theorem holderOf_desk {number : Nat} {x : Desk × Nat} {h : Holder} (hx : holderOf number x = some h) : h.desk = x.2 := by
  obtain ⟨d, e⟩ := x
  cases hst : d.state <;> cases hout : d.output <;> simp [holderOf, hst, hout] at hx
  rw [← hx]

theorem find_ownHolders_of_some {e : Nat} {d : Desk} (hd : s.booth.desks[e]? = some d) (hair : AirsLanguage l d)
    (first : ∀ e' < e, ∀ d', s.booth.desks[e']? = some d' → ¬ AirsLanguage l d') :
    ∃ h, (ownHolders s).find? (fun h => h.output == l) = some h ∧ h.desk = e := by
  have found : s.booth.desks.zipIdx.find? (fun x => (holderOf s.station.number x).any (fun h => h.output == l)) = some (d, e) := by
    rw [List.find?_eq_some_iff_getElem]
    obtain ⟨he, hget⟩ := List.getElem?_eq_some_iff.mp hd
    refine ⟨(holderOf_any_iff _ _).mpr hair, e, by simpa using he, by simp [hget], fun j hj => ?_⟩
    rw [Bool.not_eq_true', ← Bool.not_eq_true, holderOf_any_iff]
    exact first j hj _ (by simp [List.getElem?_eq_getElem (show j < s.booth.desks.length by omega)])
  rw [ownHolders_eq, List.find?_filterMap, found, Option.bind_some]
  cases hh : holderOf s.station.number (d, e) with
  | none =>
    have any := (holderOf_any_iff s.station.number (d, e)).mpr hair
    simp [hh] at any
  | some h => exact ⟨h, rfl, holderOf_desk hh⟩

theorem find_ownHolders_of_none (h : ∀ d ∈ s.booth.desks, ¬ AirsLanguage l d) :
    (ownHolders s).find? (fun h => h.output == l) = none := by
  rw [List.find?_eq_none]
  intro x hx heq
  obtain ⟨e, d, k, hd, hstate, hout, rfl⟩ := (mem_ownHolders s x).mp hx
  have hk : k = l := by simpa using heq
  exact h d (List.mem_of_getElem? hd) ⟨hstate, hk ▸ hout⟩

/-- The lanes that members announce Held for language l. -/
def offeredLanes (s : State) (l : Nat) : List Nat :=
  (memberPeers s).flatMap (fun p => (p.2.content.lanes.filter (fun x => x.held && x.language == l)).map (·.lane))

theorem mem_offeredLanes (n : Nat) : n ∈ offeredLanes s l ↔ LaneOffered s l n := by
  simp [offeredLanes, LaneOffered, and_assoc]

theorem listenerOf_of_air {e : Nat} {d : Desk} (hd : s.booth.desks[e]? = some d) (hair : AirsLanguage l d)
    (first : ∀ e' < e, ∀ d', s.booth.desks[e']? = some d' → ¬ AirsLanguage l d') : listenerOf s l = .ownDesk e := by
  obtain ⟨h, hfind, hdesk⟩ := find_ownHolders_of_some hd hair first
  simp only [listenerOf, hfind, hdesk]

theorem listenerOf_of_silence (h : ∀ d ∈ s.booth.desks, ¬ AirsLanguage l d) : listenerOf s l =
    match (sortBy (fun a b => decide (a < b)) (offeredLanes s l)).head? with
    | some n => .lane n
    | none => .floor := by
  simp only [listenerOf, find_ownHolders_of_none h]
  generalize hl : sortBy (fun a b => decide (a < b)) (offeredLanes s l) = lanes
  have shape : sortBy (fun a b => decide (a < b)) ((memberPeers s).flatMap (fun p =>
    (p.2.content.lanes.filter (fun x => x.held && x.language == l)).map (·.lane))) = lanes := hl
  rw [shape]
  cases lanes <;> rfl

theorem sourceFor_listenerOf (s : State) (l : Nat) : SourceFor s l (listenerOf s l) := by
  by_cases h : ∃ (e : Nat) (d : Desk), s.booth.desks[e]? = some d ∧ AirsLanguage l d
  · classical
    obtain ⟨d, hd, hair⟩ := Nat.find_spec h
    have first : ∀ e' < Nat.find h, ∀ d', s.booth.desks[e']? = some d' → ¬ AirsLanguage l d' :=
      fun e' he' d' hd' hair' => Nat.find_min h he' ⟨d', hd', hair'⟩
    rw [listenerOf_of_air hd hair first]
    exact ⟨⟨d, hd, hair⟩, first⟩
  · have silent : ∀ d ∈ s.booth.desks, ¬ AirsLanguage l d := fun d hd hair => by
      obtain ⟨e, he⟩ := List.mem_iff_getElem?.mp hd
      exact h ⟨e, d, he, hair⟩
    rw [listenerOf_of_silence silent]
    by_cases hlanes : offeredLanes s l = []
    · rw [hlanes]
      exact ⟨silent, fun m hm => by rw [← mem_offeredLanes, hlanes] at hm; simp at hm⟩
    · obtain ⟨n, hn, hhead, first⟩ := head?_sortBy (fun a b : Nat => decide (a < b)) (fun a b h => by simp at *; omega)
        (fun a b c h k => by simp at *; omega) hlanes
      rw [hhead]
      refine ⟨silent, (mem_offeredLanes n).mp hn, fun m hm => ?_⟩
      simpa using first m ((mem_offeredLanes m).mpr hm)

theorem sourceFor_unique {a b : Listener} (ha : SourceFor s l a) (hb : SourceFor s l b) : a = b := by
  have clash : ∀ {e : Nat}, (∃ d, s.booth.desks[e]? = some d ∧ AirsLanguage l d) →
      ¬ ∀ d ∈ s.booth.desks, ¬ AirsLanguage l d := fun ⟨d, hd, hair⟩ h => h d (List.mem_of_getElem? hd) hair
  cases a with
  | ownDesk e =>
    cases b with
    | ownDesk e' =>
      obtain ⟨⟨d, hd, hair⟩, first⟩ := ha
      obtain ⟨⟨d', hd', hair'⟩, first'⟩ := hb
      have h1 : ¬ e' < e := fun h => first e' h d' hd' hair'
      have h2 : ¬ e < e' := fun h => first' e h d hd hair
      exact congrArg Listener.ownDesk (by omega)
    | lane n => exact absurd hb.1 (clash ha.1)
    | floor => exact absurd hb.1 (clash ha.1)
  | lane n =>
    cases b with
    | ownDesk e => exact absurd ha.1 (clash hb.1)
    | lane m => exact congrArg Listener.lane (Nat.le_antisymm (ha.2.2 m hb.2.1) (hb.2.2 n ha.2.1))
    | floor => exact absurd ha.2.1 (hb.2 n)
  | floor =>
    cases b with
    | ownDesk e => exact absurd ha.1 (clash hb.1)
    | lane n => exact absurd hb.2.1 (ha.2 n)
    | floor => rfl

theorem sourceFor_iff (src : Listener) : SourceFor s l src ↔ src = listenerOf s l :=
  ⟨fun h => sourceFor_unique h (sourceFor_listenerOf s l), fun h => h ▸ sourceFor_listenerOf s l⟩

theorem mem_foldr_insertNat (n : Nat) (xs : List Nat) : n ∈ xs.foldr insertNat [] ↔ n ∈ xs := by
  induction xs with
  | nil => rfl
  | cons x xs ih => simp [ih]

theorem sourceLanguage_eq_some_iff (x : Source) (l : Nat) : sourceLanguage x = some l ↔ x = .language l := by
  cases x <;> simp [sourceLanguage]

theorem mem_listenedLanguages : l ∈ listenedLanguages s ↔
    (∃ c ∈ s.seats.channels, c.map (·.language) = some l) ∨ ∃ d ∈ s.booth.desks, d.source = .language l := by
  simp only [listenedLanguages, mem_foldr_insertNat, List.mem_append, List.mem_filterMap, sourceLanguage_eq_some_iff]

theorem mem_listeners (src : Listener) : (⟨l, src⟩ : Listening) ∈ (planOf s).listeners ↔
    l ∈ listenedLanguages s ∧ SourceFor s l src := by
  rw [sourceFor_iff]
  simp [planOf, eq_comm]
end

/-! ### Members of a state whose peers have aged -/

section
variable {s t : State}

theorem runningPeers_aged {f : PeerEntry → PeerEntry} (hf : ∀ x, (f x).content = x.content)
    (hstation : t.station = s.station) (hpeers : t.peers = s.peers.map (fun e => e.map f)) :
    runningPeers t = (runningPeers s).map (fun p => (p.1, f p.2)) := by
  unfold runningPeers
  rw [List.map_filterMap, hstation]
  refine List.filterMap_congr fun n _ => ?_
  have peer : peerAt t n = (peerAt s n).map f := by
    unfold peerAt
    rw [hpeers, List.getD_eq_getElem?_getD, List.getD_eq_getElem?_getD, List.getElem?_map]
    cases s.peers[n]? <;> rfl
  rw [peer]
  split
  · rfl
  · cases peerAt s n with
    | none => rfl
    | some e => by_cases h : e.content.running = true <;> simp [hf, h]

theorem memberPeers_aged {f : PeerEntry → PeerEntry} (hf : ∀ x, (f x).content = x.content)
    (hstation : t.station = s.station) (hroom : t.room = s.room) (hpeers : t.peers = s.peers.map (fun e => e.map f)) :
    memberPeers t = (memberPeers s).map (fun p => (p.1, f p.2)) := by
  unfold memberPeers
  rw [runningPeers_aged hf hstation hpeers, List.filter_map, hroom]
  rfl

theorem laneOffered_aged {f : PeerEntry → PeerEntry} (hf : ∀ x, (f x).content = x.content)
    (hmembers : memberPeers t = (memberPeers s).map (fun p => (p.1, f p.2))) (l n : Nat) :
    LaneOffered t l n ↔ LaneOffered s l n := by
  simp [LaneOffered, hmembers, hf]

theorem openMicCount_aged {f : PeerEntry → PeerEntry} (hf : ∀ x, (f x).content = x.content)
    (hmembers : memberPeers t = (memberPeers s).map (fun p => (p.1, f p.2))) (hstation : t.station = s.station)
    (hmix : t.mix.announced = s.mix.announced) : openMicCount t =
      ((memberPeers s).map (fun p => (p.2.content.mics.filter (fun m => m.phase != .intent)).length)).sum +
        (if s.station.state = .running then s.mix.announced else t.floor.mics.length) := by
  simp only [openMicCount, hmembers, List.map_map, Function.comp_def, hf, hstation, hmix]
end

/-! ### The plan -/

section
variable {s : State}

theorem nomFactor_eq (n : Nat) :
    nomFactor n = [32768, 32768, 23170, 18919, 16384, 14654, 13378, 12385, 11585].getD (min n 8) 0 := by
  by_cases h : n < 8
  · have all : ∀ k < 8, nomFactor k = [32768, 32768, 23170, 18919, 16384, 14654, 13378, 12385, 11585].getD (min k 8) 0 := by
      decide
    exact all n h
  · rw [Nat.min_eq_right (by omega)]
    unfold nomFactor
    split <;> simp_all

theorem seatGain_eq (s : State) (seat : Nat) : seatGain s seat =
    match s.station.config.bind (fun c => c.seats.find? (fun e => e.seat == seat)) with
    | some e => e.gain
    | none => 32768 := by
  unfold seatGain
  cases s.station.config with
  | none => rfl
  | some c =>
    simp only [Option.bind_some, beq_eq_decide]
    cases c.seats.find? (fun e => decide (e.seat = seat)) <;> rfl

/-- The state that a switch point takes its plan from. -/
def planned (s : State) : State := applySources (latchWriteSet (advanced s))

theorem latchPlan_blocks (v : State) : (forgetLeft (latchPlan v)).floor = v.floor ∧
    (forgetLeft (latchPlan v)).booth.desks = v.booth.desks ∧ (forgetLeft (latchPlan v)).peers = v.peers ∧
    (forgetLeft (latchPlan v)).lif = v.lif ∧ (forgetLeft (latchPlan v)).mix.plan = planOf v := ⟨rfl, rfl, rfl, rfl, rfl⟩

theorem switchPointWork_planned (s : State) : switchPointWork s = forgetLeft (latchPlan (planned s)) := rfl

theorem switchPointWork_plan (s : State) : (switchPointWork s).mix.plan = planOf (planned s) := by
  rw [switchPointWork_planned]
  exact (latchPlan_blocks (planned s)).2.2.2.2

theorem planned_blocks (s : State) : (planned s).station = s.station ∧ (planned s).room = s.room ∧
    (planned s).seats = s.seats ∧ (planned s).mix = s.mix ∧ (planned s).floor = (switchPointWork s).floor ∧
    (planned s).booth.desks = (switchPointWork s).booth.desks ∧ (planned s).booth.left = s.booth.left ∧
    (planned s).peers = (switchPointWork s).peers ∧ (planned s).lif = (switchPointWork s).lif := by
  have left : (planned s).booth.left = s.booth.left := by simp [planned, advanced, applySources]
  obtain ⟨floor, desks, peers, lif, -⟩ := latchPlan_blocks (planned s)
  rw [← switchPointWork_planned] at floor desks peers lif
  exact ⟨by simp [planned, advanced], by simp [planned, advanced], by simp [planned, advanced],
    by simp [planned, advanced], floor.symm, desks.symm, left, peers.symm, lif.symm⟩

/-- A desk as the switch point leaves it. -/
def sourcedDesk (s : State) (d : Desk) : Desk := { d with
  onAirAge := if s.station.state ≠ .unconfigured ∧ d.state = .onAir then min (d.onAirAge + 1) 65535 else d.onAirAge
  selectionAge := if s.station.state ≠ .unconfigured ∧ d.fitted = true then min (d.selectionAge + 1) 65535
    else d.selectionAge
  source := d.pendingSource }

theorem sourcedDesk_kept (s : State) (d : Desk) :
    (sourcedDesk s d).state = d.state ∧ (sourcedDesk s d).output = d.output := ⟨rfl, rfl⟩

/-- The desks of the plan: those of s, each with its pending source. -/
theorem planned_desks (s : State) : (planned s).booth.desks = s.booth.desks.map (sourcedDesk s) := by
  obtain ⟨-, -, -, -, -, hdesks, -⟩ := planned_blocks s
  rw [hdesks, switchPointWork_booth]
  rfl

theorem mem_producers (e l : Nat) : (⟨e, l⟩ : Producer) ∈ (planOf s).producers ↔
    ∃ d, s.booth.desks[e]? = some d ∧ d.state = .onAir ∧ d.output = some l := by
  simp only [planOf, List.mem_map, mem_ownHolders, Producer.mk.injEq]
  constructor
  · rintro ⟨h, ⟨x, d, k, hd, hstate, hout, rfl⟩, rfl, rfl⟩
    exact ⟨d, hd, hstate, hout⟩
  · rintro ⟨d, hd, hstate, hout⟩
    exact ⟨_, ⟨e, d, l, hd, hstate, hout, rfl⟩, rfl, rfl⟩

/-- The air of a language by desk, after a change that keeps state and language of each. -/
theorem airs_map {f : Desk → Desk} (hf : ∀ d, (f d).state = d.state ∧ (f d).output = d.output) (l : Nat) (d : Desk) :
    AirsLanguage l (f d) ↔ AirsLanguage l d := by
  rw [AirsLanguage, AirsLanguage, (hf d).1, (hf d).2]

/-- A listener's source is read of desks and members alone. -/
theorem sourceFor_congr {t : State} {f : Desk → Desk} (hf : ∀ d, (f d).state = d.state ∧ (f d).output = d.output)
    (hdesks : t.booth.desks = s.booth.desks.map f) (hlanes : ∀ l n, LaneOffered t l n ↔ LaneOffered s l n) (l : Nat)
    (src : Listener) : SourceFor t l src ↔ SourceFor s l src := by
  have silent : (∀ d ∈ t.booth.desks, ¬ AirsLanguage l d) ↔ ∀ d ∈ s.booth.desks, ¬ AirsLanguage l d := by
    rw [hdesks]
    simp only [List.forall_mem_map, airs_map hf]
  have airs (e : Nat) : (∃ d, t.booth.desks[e]? = some d ∧ AirsLanguage l d) ↔
      ∃ d, s.booth.desks[e]? = some d ∧ AirsLanguage l d := by
    simp only [hdesks, List.getElem?_map, Option.map_eq_some_iff]
    constructor
    · rintro ⟨_, ⟨d, hd, rfl⟩, hair⟩
      exact ⟨d, hd, (airs_map hf l d).mp hair⟩
    · rintro ⟨d, hd, hair⟩
      exact ⟨_, ⟨d, hd, rfl⟩, (airs_map hf l d).mpr hair⟩
  cases src with
  | ownDesk e =>
    refine and_congr (airs e) (forall_congr' fun e' => forall_congr' fun _ => ?_)
    have none (v : State) : (∀ d, v.booth.desks[e']? = some d → ¬ AirsLanguage l d) ↔
        ¬ ∃ d, v.booth.desks[e']? = some d ∧ AirsLanguage l d := by simp
    rw [none, none, airs]
  | lane n => exact and_congr silent (and_congr (hlanes l n) (forall_congr' fun m => imp_congr_left (hlanes l m)))
  | floor => exact and_congr silent (forall_congr' fun m => not_congr (hlanes l m))

theorem planned_members (s : State) : memberPeers (planned s) =
    (memberPeers s).map (fun p => (p.1, { p.2 with since := min (p.2.since + 1) 65535 })) := by
  obtain ⟨hstation, hroom, -, -, -, -, -, hpeers, -⟩ := planned_blocks s
  exact memberPeers_aged (f := fun x => { x with since := min (x.since + 1) 65535 }) (fun _ => rfl) hstation hroom
    (hpeers.trans (switchPointWork_tables s).1)

theorem planned_offers (s : State) (l n : Nat) : LaneOffered (planned s) l n ↔ LaneOffered s l n :=
  laneOffered_aged (f := fun x => { x with since := min (x.since + 1) 65535 }) (fun _ => rfl) (planned_members s) l n

theorem planned_sourceFor (s : State) (l : Nat) (src : Listener) : SourceFor (planned s) l src ↔ SourceFor s l src :=
  sourceFor_congr (sourcedDesk_kept s) (planned_desks s) (planned_offers s) l src

theorem planned_listened (s : State) (l : Nat) : l ∈ listenedLanguages (planned s) ↔
    (∃ c ∈ s.seats.channels, c.map (·.language) = some l) ∨ ∃ d ∈ s.booth.desks, d.pendingSource = .language l := by
  obtain ⟨-, -, hseats, -⟩ := planned_blocks s
  rw [mem_listenedLanguages, hseats, planned_desks]
  refine or_congr_right ?_
  simp [sourcedDesk]

theorem switchPointWork_writeSet (s : State) : (switchPointWork s).lif.writeSet =
      (if s.station.state = .joining ∨ s.station.state = .running then
        (s.lanes.holdings.filter (·.held)).map (fun h => ⟨h.lane, h.language⟩) else []) ∧
    (switchPointWork s).lif.latch.lanes = (switchPointWork s).lif.writeSet ∧
    (planned s).lif.writeSet = (switchPointWork s).lif.writeSet := by
  have link : onLink (advanced s) = onLink s := by simp [onLink, advanced]
  have held : heldLanes (advanced s) = (s.lanes.holdings.filter (·.held)).map (fun h => ⟨h.lane, h.language⟩) := by
    have holdings : (advanced s).lanes.holdings =
        s.lanes.holdings.map (fun h => if h.held then { h with age := min (h.age + 1) 65535 } else h) :=
      congrArg Lanes.holdings (switchPointWork_tables s).2.2.1
    unfold heldLanes
    rw [holdings, List.filter_map, List.map_map]
    have heldAlike : s.lanes.holdings.filter ((fun x : Holding => x.held) ∘
        fun h => if h.held then { h with age := min (h.age + 1) 65535 } else h) = s.lanes.holdings.filter (·.held) :=
      List.filter_congr fun h _ => by by_cases hh : h.held = true <;> simp [hh]
    rw [heldAlike]
    exact List.map_congr_left fun h _ => by by_cases hh : h.held = true <;> simp [hh]
  have writes : (switchPointWork s).lif.writeSet = if onLink (advanced s) then heldLanes (advanced s) else [] := rfl
  refine ⟨?_, rfl, rfl⟩
  rw [writes, link, held]
  by_cases h : s.station.state = .joining ∨ s.station.state = .running
  · rw [if_pos h, if_pos ((onLink_iff s).mpr h)]
  · rw [if_neg h, if_neg (mt (onLink_iff s).mp h)]

/-! ### Lanes that listeners leave -/

theorem plannedSource_eq_lane_iff (p : Plan) (l n : Nat) : plannedSource p l = .lane n ↔
    (p.listeners.find? (fun x => x.language == l)).map (·.source) = some (.lane n) := by
  unfold plannedSource
  cases p.listeners.find? (fun x => x.language == l) <;> simp

/-- A listener of language l stops using lane n, which an announcement has let go. -/
def StopsLane (s : State) (n l : Nat) : Prop := (⟨n, l⟩ : LaneUse) ∈ s.booth.left ∧
  (⟨l, .lane n⟩ : Listening) ∉ (planOf (planned s)).listeners ∧
  (s.mix.plan.listeners.find? (fun x => x.language == l)).map (·.source) = some (.lane n)

theorem laneLeft_planned {was now : Option Nat} {n : Nat} (hnow : ∀ l, now = some l → l ∈ listenedLanguages (planned s)) :
    laneLeft (planned s) was now = some n ↔ ∃ l, was = some l ∧ now = some l ∧ StopsLane s n l := by
  obtain ⟨-, -, -, hmix, -, -, hleft, -⟩ := planned_blocks s
  rw [laneLeft_eq_some, hmix, hleft]
  refine exists_congr fun l => and_congr_right fun _ => and_congr_right fun hl => ?_
  rw [plannedSource_eq_lane_iff, StopsLane, mem_listeners, sourceFor_iff, and_iff_right (hnow l hl),
    eq_comm (a := Listener.lane n)]
  exact ⟨fun ⟨a, b, c⟩ => ⟨b, c, a⟩, fun ⟨b, c, a⟩ => ⟨a, b, c⟩⟩

theorem getD_eq_some_iff {α : Type} (l : List (Option α)) (i : Nat) (x : α) :
    l.getD i none = some x ↔ l[i]? = some (some x) := by
  rw [List.getD_eq_getElem?_getD]
  cases l[i]? <;> simp

theorem channelsLeave_iff (s : State) (c n : Nat) : (planOf (planned s)).channelsLeave[c]? = some (some n) ↔
    ∃ l, s.mix.plan.channels[c]? = some (some l) ∧ (planOf (planned s)).channels[c]? = some (some l) ∧ StopsLane s n l := by
  obtain ⟨-, -, hseats, hmix, -⟩ := planned_blocks s
  have entry : (planOf (planned s)).channelsLeave[c]? = (s.seats.channels[c]?).map (fun d =>
      laneLeft (planned s) (s.mix.plan.channels.getD c none) (d.map (·.language))) := by
    simp [planOf, channelsLeft, hseats, hmix, List.getElem?_map, List.getElem?_zipIdx]
    cases s.seats.channels[c]? <;> simp
  have channel : (planOf (planned s)).channels[c]? = (s.seats.channels[c]?).map (fun d => d.map (·.language)) := by
    simp [planOf, hseats]
  rw [entry, channel]
  cases hc : s.seats.channels[c]? with
  | none => simp
  | some d =>
    have listened : ∀ l, d.map (·.language) = some l → l ∈ listenedLanguages (planned s) := fun l hl =>
      (planned_listened s l).mpr (.inl ⟨d, List.mem_of_getElem? hc, hl⟩)
    simp only [Option.map_some, Option.some.injEq]
    rw [laneLeft_planned listened]
    simp only [getD_eq_some_iff]

theorem headphonesLeave_iff (s : State) (e n : Nat) : (planOf (planned s)).headphonesLeave[e]? = some (some n) ↔
    ∃ l, s.mix.plan.headphones[e]? = some (Source.language l) ∧
      (planOf (planned s)).headphones[e]? = some (Source.language l) ∧ StopsLane s n l := by
  obtain ⟨-, -, -, hmix, -⟩ := planned_blocks s
  have entry : (planOf (planned s)).headphonesLeave[e]? = (s.booth.desks[e]?).map (fun d =>
      laneLeft (planned s) (sourceLanguage (s.mix.plan.headphones.getD e .floor)) (sourceLanguage d.pendingSource)) := by
    simp [planOf, headphonesLeft, planned_desks, hmix, List.getElem?_map, List.getElem?_zipIdx]
    cases s.booth.desks[e]? <;> simp [sourcedDesk]
  have headphone : (planOf (planned s)).headphones[e]? = (s.booth.desks[e]?).map (·.pendingSource) := by
    simp [planOf, planned_desks, sourcedDesk, Function.comp_def]
  rw [entry, headphone]
  cases he : s.booth.desks[e]? with
  | none => simp
  | some d =>
    have listened : ∀ l, sourceLanguage d.pendingSource = some l → l ∈ listenedLanguages (planned s) := fun l hl =>
      (planned_listened s l).mpr (.inr ⟨d, List.mem_of_getElem? he, (sourceLanguage_eq_some_iff _ l).mp hl⟩)
    simp only [Option.map_some, Option.some.injEq]
    rw [laneLeft_planned listened]
    refine exists_congr fun l => and_congr ?_ (and_congr_left' (sourceLanguage_eq_some_iff _ l))
    rw [sourceLanguage_eq_some_iff, List.getD_eq_getElem?_getD]
    cases s.mix.plan.headphones[e]? <;> simp
end

/-- Settles O17. -/
theorem switchPointLatchesThePlan : Obligations.SwitchPointLatchesThePlan := by
  intro s hs t
  obtain ⟨hstation, hroom, hseats, hmix, hfloor, -, -, -, hlif⟩ := planned_blocks s
  obtain ⟨writes, latched, planWrites⟩ := switchPointWork_writeSet s
  have plan : t.mix.plan = planOf (planned s) := switchPointWork_plan s
  have mics := openMicCount_aged (f := fun x => { x with since := min (x.since + 1) 65535 }) (fun _ => rfl)
    (planned_members s) hstation (by rw [hmix])
  rw [hfloor] at mics
  refine ⟨exec_switchPoint_of_nothing hs, by rw [plan, planOf, hroom], ?_,
    by rw [plan]; exact mics, ?_, fun e l => ?_, writes, planWrites, latched,
    by rw [plan, planOf, hseats], ?_, fun l src => ?_, ⟨fun c n => ?_, fun e n => ?_⟩, ?_⟩
  · have gain : ∀ seat, seatGain (planned s) seat = seatGain s seat := fun seat => by simp only [seatGain, hstation]
    rw [plan]
    simp only [planOf, hfloor, gain, seatGain_eq] <;> rfl
  · rw [plan]
    exact nomFactor_eq _
  · rw [plan, mem_producers, planned_desks]
    simp only [List.getElem?_map, Option.map_eq_some_iff]
    constructor
    · rintro ⟨_, ⟨d, hd, rfl⟩, hair⟩
      exact ⟨d, hd, hair⟩
    · rintro ⟨d, hd, hair⟩
      exact ⟨_, ⟨d, hd, rfl⟩, hair⟩
  · rw [plan]
    simp [planOf, planned_desks, sourcedDesk, Function.comp_def]
  · rw [plan, mem_listeners, planned_listened, planned_sourceFor]
    refine and_congr_right fun _ => ?_
    cases src with
    | ownDesk e => exact Iff.rfl
    | lane n =>
      refine and_congr_right fun _ => and_congr_right fun _ => ⟨fun h p hp x hx hheld hl => h _ ⟨p, hp, x, hx, hheld, hl, rfl⟩, ?_⟩
      rintro h m ⟨p, hp, x, hx, hheld, hl, rfl⟩
      exact h p hp x hx hheld hl
    | floor =>
      refine and_congr_right fun _ => ⟨fun h p hp x hx hheld hl => h _ ⟨p, hp, x, hx, hheld, hl, rfl⟩, ?_⟩
      rintro h m ⟨p, hp, x, hx, hheld, hl, rfl⟩
      exact h p hp x hx hheld hl
  · rw [plan]
    exact channelsLeave_iff s c n
  · rw [plan]
    exact headphonesLeave_iff s e n
  · rw [show t.booth = _ from switchPointWork_booth s]
end Sys2Proof.Machine
end

section

/-! SUPPORT and PROOF for O24 (PlaceSettlement): a Normal place intent is counted against the limit, an Override against
the mic it names; a win puts its mic into the table, a loss takes the claim out. -/

namespace Sys2Proof.Machine

section
variable (c : PlaceClaim) (own : Nat) (s : State)

@[simp] theorem afterPlaceWon_claims : (afterPlaceWon c own s).claims = s.claims := by
  unfold afterPlaceWon
  split
  · split <;> simp
  · simp

@[simp] theorem afterPlaceWon_uplinks : (afterPlaceWon c own s).dlc.uplinks = s.dlc.uplinks :=
  (soft_afterPlaceWon c own s).uplinks

@[simp] theorem afterPlaceWon_station : (afterPlaceWon c own s).station = s.station := by
  unfold afterPlaceWon
  split
  · split <;> simp
  · simp

@[simp] theorem afterPlaceWon_room : (afterPlaceWon c own s).room = s.room := by
  unfold afterPlaceWon
  split
  · split <;> simp
  · simp

@[simp] theorem afterPlaceWon_peers : (afterPlaceWon c own s).peers = s.peers := by
  unfold afterPlaceWon
  split
  · split <;> simp
  · simp

@[simp] theorem afterPlaceWon_requests :
    (afterPlaceWon c own s).floor.requests = s.floor.requests.filter (fun r => r.seat != c.seat) := by
  unfold afterPlaceWon
  split
  · split <;> simp
  · simp

end

theorem afterPlaceWon_mics_of_normal {c : PlaceClaim} (own : Nat) (s : State) (h : c.displaced = none) :
    (afterPlaceWon c own s).floor.mics = s.floor.mics := by
  simp [afterPlaceWon, h]

theorem afterPlaceWon_mics_of_override {c : PlaceClaim} {n : Named} (own : Nat) (s : State) (h : c.displaced = some n) :
    (afterPlaceWon c own s).floor.mics =
      if n.station = own then s.floor.mics.map (fun m => if m.seat == n.item then closed m else m) else s.floor.mics := by
  simp only [afterPlaceWon, h]
  split <;> simp [closeSeatMic, closeMics]

/-- The members' announcements are those of the peers, the number and the membership. -/
theorem memberPeers_congr {s t : State} (hp : t.peers = s.peers) (hs : t.station = s.station) (hr : t.room = s.room) :
    memberPeers t = memberPeers s := by
  simp only [memberPeers, runningPeers, peerAt, hp, hs, hr]

/-! ### The two settlement rules -/

theorem normalPlaceWins_iff (s : State) (c : PlaceClaim) : normalPlaceWins s c = true ↔ 2 ≤ c.cls ∨
    countedHolders s + ((countedIntents s).filter
      (fun k => placeHigher k ⟨c.cls, s.station.number, c.seat⟩)).length < (context s).speakerLimit := by
  rw [normalPlaceWins, Bool.or_eq_true, decide_eq_true_iff, Bool.not_eq_true', counted, decide_eq_false_iff_not, not_le]
  exact Iff.rfl

theorem overrideWins_of_target {s : State} {n : Named} {m : RoomMic} (c : PlaceClaim)
    (h : (roomMics s).find? (fun m => m.station == n.station && m.seat == n.item) = some m) :
    overrideWins s c n = true ↔
      (∀ k ∈ overrideKeys s n, placeHigher k ⟨c.cls, s.station.number, c.seat⟩ = false) ∧
      ∀ y ∈ roomMics s, y.displaced = some n → m.age ≤ y.age := by
  simp only [overrideWins, h, ownKey]
  simp

theorem overrideWins_of_no_target {s : State} {n : Named} (c : PlaceClaim)
    (h : (roomMics s).find? (fun m => m.station == n.station && m.seat == n.item) = none) :
    overrideWins s c n = false := by
  simp only [overrideWins, h]

/-- The mic that an Override that wins has named. -/
theorem exists_target_of_wins {s : State} {c : PlaceClaim} {n : Named} (h : overrideWins s c n = true) :
    ∃ m ∈ roomMics s, m.station = n.station ∧ m.seat = n.item ∧
      (∀ k ∈ overrideKeys s n, placeHigher k ⟨c.cls, s.station.number, c.seat⟩ = false) ∧
      ∀ y ∈ roomMics s, y.displaced = some n → m.age ≤ y.age := by
  cases hf : (roomMics s).find? (fun m => m.station == n.station && m.seat == n.item) with
  | none => simp [overrideWins_of_no_target c hf] at h
  | some m =>
    obtain ⟨hkeys, hages⟩ := (overrideWins_of_target c hf).mp h
    have named := List.find?_some hf
    simp only [Bool.and_eq_true, beq_iff_eq] at named
    exact ⟨m, List.mem_of_find?_eq_some hf, named.1, named.2, hkeys, hages⟩

theorem mem_overrideKeys_own {s : State} {n : Named} {x : PlaceClaim} (hx : x ∈ s.claims.places)
    (hi : isIntent x.stage = true) (hd : x.displaced = some n) :
    (⟨x.cls, s.station.number, x.seat⟩ : PlaceKey) ∈ overrideKeys s n :=
  List.mem_append_left _ (List.mem_map.mpr ⟨x, List.mem_filter.mpr ⟨hx, by simp [hi, hd]⟩, rfl⟩)

theorem mem_overrideKeys_peer {s : State} {n : Named} {p : Nat × PeerEntry} (hp : p ∈ memberPeers s) {x : AnnMic}
    (hx : x ∈ p.2.content.mics) (hi : x.phase = .intent) (hd : x.displaced = some n) :
    (⟨x.cls, p.1, x.seat⟩ : PlaceKey) ∈ overrideKeys s n :=
  List.mem_append_right _ (List.mem_flatMap.mpr ⟨p, hp,
    List.mem_map.mpr ⟨x, List.mem_filter.mpr ⟨hx, by simp [hi, hd]⟩, rfl⟩⟩)

/-! ### What a settlement leaves -/

/-- An own mic of the view is in the open-mic table. -/
theorem own_of_mem_roomMics {s : State} {m : RoomMic} (hm : m ∈ roomMics s) (hs : m.station = s.station.number) :
    ∃ x ∈ s.floor.mics, x.seat = m.seat := by
  rcases List.mem_append.mp hm with h | h
  · obtain ⟨x, hx, rfl⟩ := List.mem_map.mp h
    exact ⟨x, (List.mem_filter.mp hx).1, rfl⟩
  · obtain ⟨p, hp, h⟩ := List.mem_flatMap.mp h
    obtain ⟨x, -, rfl⟩ := List.mem_map.mp h
    exact absurd hs (mem_memberPeers_ne hp)

/-- A seat with an Intent has no mic. -/
theorem UplinkLaw.no_mic_of_intent {s : State} {c : PlaceClaim} (law : UplinkLaw s) (hc : c ∈ s.claims.places)
    (hi : isIntent c.stage = true) : ∀ m ∈ s.floor.mics, m.seat ≠ c.seat := by
  obtain ⟨-, hseats, -, -, -, hheld, -⟩ := law
  intro m hm h
  obtain ⟨d, hd, hst, hs, -⟩ := hheld m hm
  rw [List.inj_on_of_nodup_map hseats hd hc (hs.trans h)] at hst
  simp [hst, isIntent] at hi

section
variable {s : State} {c : PlaceClaim} (law : UplinkLaw s) (hc : c ∈ s.claims.places) (hi : isIntent c.stage = true)
include law hc hi

/-- An Override never names the seat that raises it and wins. -/
theorem override_names_another {n : Named} (hn : c.displaced = some n) (hw : placeWins s c = true)
    (own : n.station = s.station.number) : n.item ≠ c.seat := by
  intro same
  simp only [placeWins, hn] at hw
  obtain ⟨m, hm, hst, hseat, -⟩ := exists_target_of_wins hw
  obtain ⟨x, hx, hxs⟩ := own_of_mem_roomMics hm (hst.trans own)
  exact law.no_mic_of_intent hc hi x hx (hxs.trans (hseat.trans same))

/-- A win puts the mic of the seat into the table, Opening. -/
theorem wonMic_mem (hw : placeWins s c = true) : wonMic s c ∈ (settlePlace s c).floor.mics := by
  have added : wonMic s c ∈ (addMic (wonMic s c) (seatHeld c.seat s)).floor.mics := mem_addMic.mpr (.inl rfl)
  rw [settlePlace_of_wins hw]
  cases hn : c.displaced with
  | none => rwa [afterPlaceWon_mics_of_normal _ _ hn]
  | some n =>
    rw [afterPlaceWon_mics_of_override _ _ hn]
    split
    · next own =>
      have other := override_names_another law hc hi hn hw own
      exact List.mem_map.mpr ⟨_, added, if_neg (by simpa [wonMic] using other.symm)⟩
    · exact added

theorem settlePlace_win (hw : placeWins s c = true) :
    { c with stage := .hold } ∈ (settlePlace s c).claims.places ∧
    (settlePlace s c).dlc.uplinks = s.dlc.uplinks ∧
    (∀ r ∈ (settlePlace s c).floor.requests, r.seat ≠ c.seat) ∧
    ∃ m ∈ (settlePlace s c).floor.mics, m.seat = c.seat ∧ m.cls = c.cls ∧ m.uplink = c.uplink ∧ m.phase = .opening ∧
      m.step = 0 ∧ m.age = 0 ∧ m.used = 0 ∧ m.displaced = c.displaced := by
  refine ⟨?_, ?_, ?_, wonMic s c, wonMic_mem law hc hi hw, rfl, rfl, rfl, rfl, rfl, rfl, rfl, rfl⟩
  · rw [settlePlace_of_wins hw, afterPlaceWon_claims, ← holdSeat_self c]
    exact List.mem_map_of_mem hc
  · rw [settlePlace_of_wins hw, afterPlaceWon_uplinks]
    rfl
  · rw [settlePlace_of_wins hw, afterPlaceWon_requests]
    exact fun r hr => by simpa using (List.mem_filter.mp hr).2

theorem settlePlace_loss (hw : placeWins s c = false) :
    (∀ x ∈ (settlePlace s c).claims.places, x.seat ≠ c.seat) ∧
    (settlePlace s c).dlc.uplinks = s.dlc.uplinks.set c.uplink none ∧
    (settlePlace s c).floor = s.floor ∧
    (c.origin = .press → (settlePlace s c).port.flags.getLsbD 6 = true) := by
  rw [settlePlace_of_loses hw]
  refine ⟨fun x hx => ?_, ?_, ?_, fun press => ?_⟩
  · rw [show (placeRefused c.origin c.seat (dropPlaceIntent c s)).claims = (dropPlaceIntent c s).claims by simp] at hx
    exact (((dropPlaceIntent_gone law.2.1 hc hi).1 x).mp hx).2
  · rw [(soft_placeRefused _ _ _).uplinks, dropPlaceIntent]
    rfl
  · simp
  · simp [placeRefused, press, refusePress, flagBit]

end

/-- An Override that wins against an own mic leaves it Closing. -/
theorem override_closes {s : State} {c : PlaceClaim} {n : Named} (hn : c.displaced = some n) (hw : placeWins s c = true)
    (own : n.station = s.station.number) : ∀ m ∈ (settlePlace s c).floor.mics, m.seat = n.item → m.phase = .closing := by
  rw [settlePlace_of_wins hw, afterPlaceWon_mics_of_override _ _ hn, if_pos own]
  intro m hm hseat
  obtain ⟨x, -, rfl⟩ := List.mem_map.mp hm
  have named : x.seat = n.item := by
    split at hseat
    · simpa [closed, apply_ite] using hseat
    · exact hseat
  rw [if_pos (by simp [named]), closed]
  cases hp : x.phase <;> simp [sounding, hp]

/-- A settlement adds at most the one counted mic that the limit has room for. -/
theorem countedHolders_settlePlace_le {s : State} {c : PlaceClaim} (hn : c.displaced = none) (hcls : c.cls ≤ 1) :
    countedHolders (settlePlace s c) ≤ max (countedHolders s) (context s).speakerLimit := by
  cases hw : placeWins s c with
  | true =>
    have wins := hw
    simp only [placeWins, hn, normalPlaceWins_iff] at wins
    have room := wins.resolve_left (by omega)
    have peers : memberPeers (settlePlace s c) = memberPeers s := by
      rw [settlePlace_of_wins hw]
      exact memberPeers_congr (by simp [addMic, seatHeld]) (by simp [addMic, seatHeld]) (by simp [addMic, seatHeld])
    have mics : (settlePlace s c).floor.mics = insertBy (fun a b => a.seat < b.seat) (wonMic s c) s.floor.mics := by
      rw [settlePlace_of_wins hw, afterPlaceWon_mics_of_normal _ _ hn]
      rfl
    have count := ((insertBy_perm (fun a b => decide (a.seat < b.seat)) (wonMic s c) s.floor.mics).filter
      (fun m => counted m.cls && sounding m.phase)).length_eq
    have one : ((wonMic s c :: s.floor.mics).filter (fun m => counted m.cls && sounding m.phase)).length ≤
        (s.floor.mics.filter (fun m => counted m.cls && sounding m.phase)).length + 1 := by
      rw [List.filter_cons]
      split <;> simp
    simp only [countedHolders, peers, mics] at room ⊢
    omega
  | false =>
    have same : countedHolders (settlePlace s c) = countedHolders s := by
      have peers : memberPeers (settlePlace s c) = memberPeers s := by
        rw [settlePlace_of_loses hw]
        exact memberPeers_congr (by simp) (by simp) (by simp)
      have floor : (settlePlace s c).floor = s.floor := by simp [settlePlace_of_loses hw]
      simp only [countedHolders, peers, floor]
    omega

/-- Settles O24: each settlement is read from the two rules and from what a win and a loss do to the tables. -/
theorem placeSettlement : Obligations.PlaceSettlement := by
  unfold Obligations.PlaceSettlement
  refine ⟨fun s c law hc hi => ⟨fun hn => ?_, fun hn hcls => countedHolders_settlePlace_le hn hcls,
    settlePlace_win law hc hi, settlePlace_loss law hc hi⟩, fun s c n law hc hi hn => ?_⟩
  · simp only [placeWins, hn]
    exact normalPlaceWins_iff s c
  · have rule : placeWins s c = overrideWins s c n := by simp only [placeWins, hn]
    refine ⟨fun hw => ?_, fun none => ?_, fun ⟨m, hm, hst, hseat⟩ keys ages => ?_, override_closes hn⟩
    · obtain ⟨m, hm, hst, hseat, keys, ages⟩ := exists_target_of_wins (rule ▸ hw)
      exact ⟨m, hm, hst, hseat, fun x hx hxi hxd => keys _ (mem_overrideKeys_own hx hxi hxd),
        fun p hp x hx hxi hxd => keys _ (mem_overrideKeys_peer hp hx hxi hxd), ages⟩
    · rw [rule, overrideWins_of_no_target]
      simpa using none
    · rw [rule]
      cases hf : (roomMics s).find? (fun m => m.station == n.station && m.seat == n.item) with
      | none =>
        have := List.find?_eq_none.mp hf m hm
        simp [hst, hseat] at this
      | some t =>
        have named := List.find?_some hf
        simp only [Bool.and_eq_true, beq_iff_eq] at named
        exact (overrideWins_of_target c hf).mpr ⟨keys, ages t (List.mem_of_find?_eq_some hf) named.1 named.2⟩

end Sys2Proof.Machine
end

section

/-! PROOF for O25 (LanguageSettlement): the two rules read through their keys, and a win and a loss through `deskWon_spec`. -/

namespace Sys2Proof.Machine

theorem deskHigher_eq_false_iff (a b : Named) : deskHigher a b = false ↔
    b.station < a.station ∨ b.station = a.station ∧ b.item ≤ a.item := by
  simp only [deskHigher, Bool.or_eq_false_iff, Bool.and_eq_false_iff, decide_eq_false_iff_not, beq_eq_false_iff_ne]
  omega

/-- No key of the own intents that pass p, nor of the members' that pass q, is higher than that of desk e. -/
theorem no_higher_desk_iff (s : State) (p : LanguageClaim → Bool) (q : AnnDesk → Bool) (e : Nat) :
    ((s.claims.languages.filter p).map (fun c => ownDeskKey s c.desk) ++ (memberPeers s).flatMap (fun x =>
      (x.2.content.desks.filter q).map (fun d => (⟨x.1, d.desk⟩ : Named)))).any
        (fun k => deskHigher k (ownDeskKey s e)) = false ↔
    (∀ x ∈ s.claims.languages, p x = true → e ≤ x.desk) ∧
    ∀ t ∈ memberPeers s, ∀ x ∈ t.2.content.desks, q x = true →
      s.station.number < t.1 ∨ s.station.number = t.1 ∧ e ≤ x.desk := by
  simp only [List.any_eq_false, List.mem_append, List.mem_map, List.mem_flatMap, List.mem_filter, Bool.not_eq_true,
    deskHigher_eq_false_iff, ownDeskKey]
  constructor
  · refine fun h => ⟨fun x hx hp => ?_, fun t ht x hx hq => ?_⟩
    · have := h _ (.inl ⟨x, ⟨hx, hp⟩, rfl⟩)
      simpa using this
    · exact h _ (.inr ⟨t, ht, x, ⟨hx, hq⟩, rfl⟩)
  · rintro ⟨own, others⟩ k (⟨x, ⟨hx, hp⟩, rfl⟩ | ⟨t, ht, x, ⟨hx, hq⟩, rfl⟩)
    · exact .inr ⟨rfl, own x hx hp⟩
    · exact others t ht x hx hq

theorem hasHolder_eq_false_iff (s : State) (l : Nat) : hasHolder s l = false ↔
    (∀ d ∈ s.booth.desks, ¬ (d.state = .onAir ∧ d.output = some l)) ∧
    ∀ p ∈ memberPeers s, ∀ x ∈ p.2.content.desks, ¬ (x.state = .onAir ∧ x.output = l) := by
  rw [← Bool.not_eq_true, hasHolder_iff]
  push Not
  rfl

/-- Desk n.item of station n.station is a holder of language l. -/
theorem named_holder_iff (s : State) (l : Nat) (n : Named) :
    (holders s l).any (fun h => h.station == n.station && h.desk == n.item) = true ↔
    (n.station = s.station.number ∧ ∃ d, s.booth.desks[n.item]? = some d ∧ d.state = .onAir ∧ d.output = some l) ∨
      ∃ p ∈ memberPeers s, p.1 = n.station ∧ ∃ x ∈ p.2.content.desks, x.desk = n.item ∧ x.state = .onAir ∧
        x.output = l := by
  simp only [List.any_eq_true, mem_holders_iff, Bool.and_eq_true, beq_iff_eq]
  constructor
  · rintro ⟨h, ⟨hown | hpeer, hout⟩, hst, hdesk⟩
    · obtain ⟨e, d, k, hd, hair, hk, rfl⟩ := (mem_ownHolders s h).mp hown
      exact .inl ⟨hst.symm, d, hdesk ▸ hd, hair, hk.trans (by rw [← hout])⟩
    · obtain ⟨p, hp, d, hd, hair, rfl⟩ := (mem_peerHolders s h).mp hpeer
      exact .inr ⟨p, hp, hst, d, hd, hdesk, hair, hout⟩
  · rintro (⟨hst, d, hd, hair, hk⟩ | ⟨p, hp, hst, d, hd, hdesk, hair, hout⟩)
    · exact ⟨_, ⟨.inl ((mem_ownHolders s _).mpr ⟨n.item, d, l, hd, hair, hk, rfl⟩), rfl⟩, hst.symm, rfl⟩
    · exact ⟨_, ⟨.inr ((mem_peerHolders s _).mpr ⟨p, hp, d, hd, hair, rfl⟩), hout⟩, hst, hdesk⟩

theorem normalLanguage_wins_iff {s : State} {c : LanguageClaim} (hn : c.displaced = none) : languageWins s c = true ↔
    (∀ d ∈ s.booth.desks, ¬ (d.state = .onAir ∧ d.output = some c.language)) ∧
    (∀ p ∈ memberPeers s, ∀ x ∈ p.2.content.desks, ¬ (x.state = .onAir ∧ x.output = c.language)) ∧
    (∀ x ∈ s.claims.languages, isIntent x.stage = true → x.language = c.language → c.desk ≤ x.desk) ∧
    ∀ p ∈ memberPeers s, ∀ x ∈ p.2.content.desks, x.state = .intent → x.output = c.language →
      s.station.number < p.1 ∨ s.station.number = p.1 ∧ c.desk ≤ x.desk := by
  simp only [languageWins, hn, languageKeys, Bool.and_eq_true, Bool.not_eq_true', hasHolder_eq_false_iff,
    no_higher_desk_iff, beq_iff_eq, and_imp, and_assoc]

theorem takeover_wins_iff {s : State} {c : LanguageClaim} {n : Named} (hn : c.displaced = some n) :
    languageWins s c = true ↔
    ((n.station = s.station.number ∧ (∃ d, s.booth.desks[n.item]? = some d ∧ d.state = .onAir ∧ d.output = some c.language)) ∨
      ∃ p ∈ memberPeers s, p.1 = n.station ∧ ∃ x ∈ p.2.content.desks, x.desk = n.item ∧ x.state = .onAir ∧
        x.output = c.language) ∧
    (∀ x ∈ s.claims.languages, isIntent x.stage = true → x.displaced = some n → c.desk ≤ x.desk) ∧
    (∀ p ∈ memberPeers s, ∀ x ∈ p.2.content.desks, x.state = .intent → x.displaced = some n →
      s.station.number < p.1 ∨ s.station.number = p.1 ∧ c.desk ≤ x.desk) := by
  simp only [languageWins, hn, takeoverKeys, Bool.and_eq_true, Bool.not_eq_true', named_holder_iff,
    no_higher_desk_iff, beq_iff_eq, and_imp]

/-- A desk of the table is what the table holds for it. -/
theorem getElem?_of_deskOf {s : State} {e : Nat} (he : e < s.booth.desks.length) :
    s.booth.desks[e]? = some (deskOf s e) := by
  simp [deskOf, List.getD_eq_getElem?_getD, List.getElem?_eq_getElem he]

theorem deskOf_of_getElem? {s : State} {e : Nat} {d : Desk} (h : s.booth.desks[e]? = some d) : deskOf s e = d := by
  simp [deskOf, List.getD_eq_getElem?_getD, h]

/-! ### What a settlement leaves -/

section
variable {s : State} {c : LanguageClaim} (he : c.desk < s.booth.desks.length)
include he

omit he in
theorem settleLanguage_count_of_wins (hw : languageWins s c = true) :
    (settleLanguage s c).booth.desks.length = s.booth.desks.length := by
  rw [settleLanguage_of_wins hw, deskWon_eq]
  simp [modifyDesk, standAsides_count, namedAside_count, claimHeld]

/-- A won settlement, desk by desk and claim by claim. -/
theorem settleLanguage_won (hw : languageWins s c = true) :
    deskOf (settleLanguage s c) c.desk = aired c.displaced (deskOf s c.desk) ∧
    (∀ x, x ≠ c.desk → StandsAside s c.desk c.language c.displaced x →
      deskOf (settleLanguage s c) x = { deskOf s x with state := .off, engaged := true } ∧
      (settleLanguage s c).port.flags.getLsbD 9 = true) ∧
    (∀ x, x ≠ c.desk → ¬ StandsAside s c.desk c.language c.displaced x → deskOf (settleLanguage s c) x = deskOf s x) ∧
    (∀ x, x ∈ (settleLanguage s c).claims.languages ↔ x ∈ s.claims.languages.map (holdFor c.desk) ∧
      ¬ (x.stage = .hold ∧ StandsAside s c.desk c.language c.displaced x.desk)) := by
  rw [settleLanguage_of_wins hw]
  exact deskWon_spec (s := claimHeld c.desk s) he fun x hx =>
    onAirFor_of_takeover (s := s) hx hw

theorem settleLanguage_won_others (hw : languageWins s c = true) {e : Nat} (h4 : e < 4) (hne : e ≠ c.desk) :
    ((deskOf s e).state = .onAir ∧ (deskOf s e).output = some c.language →
      deskOf (settleLanguage s c) e = { deskOf s e with state := .off, engaged := true } ∧
      (settleLanguage s c).port.flags.getLsbD 9 = true ∧
      ∀ x ∈ (settleLanguage s c).claims.languages, x.desk = e → x.stage ≠ .hold) ∧
    (¬ ((deskOf s e).state = .onAir ∧ (deskOf s e).output = some c.language) →
      deskOf (settleLanguage s c) e = deskOf s e ∧
      ∀ x ∈ s.claims.languages, x.desk = e → x ∈ (settleLanguage s c).claims.languages) := by
  obtain ⟨-, asides, others, claims⟩ := settleLanguage_won he hw
  refine ⟨fun air => ?_, fun air => ?_⟩
  · have aside : StandsAside s c.desk c.language c.displaced e := ⟨onAirFor_iff.mpr air, .inl ⟨hne, h4⟩⟩
    obtain ⟨desk, flag⟩ := asides e hne aside
    exact ⟨desk, flag, fun x hx hxe hold => ((claims x).mp hx).2 ⟨hold, hxe ▸ aside⟩⟩
  · have stays : ¬ StandsAside s c.desk c.language c.displaced e := fun aside => air (onAirFor_iff.mp aside.1)
    refine ⟨others e hne stays, fun x hx hxe => (claims x).mpr ⟨?_, fun h => stays (hxe ▸ h.2)⟩⟩
    exact List.mem_map.mpr ⟨x, hx, holdFor_of_ne (hxe ▸ hne)⟩

theorem settleLanguage_won_desk (hc : c ∈ s.claims.languages) (hw : languageWins s c = true) :
    ∃ d, (settleLanguage s c).booth.desks[c.desk]? = some d ∧ d.state = .onAir ∧
      d.onAirAge = 0 ∧ d.displaced = c.displaced ∧ d.engaged = false ∧
      (c.displaced ≠ some ⟨s.station.number, c.desk⟩ → { c with stage := .hold } ∈ (settleLanguage s c).claims.languages) ∧
      (∀ n, c.displaced = some n → n.station = s.station.number → n.item ≠ c.desk →
        (∀ x ∈ (settleLanguage s c).claims.languages, x.desk = n.item → x.stage ≠ .hold) ∧
        ∀ x, (settleLanguage s c).booth.desks[n.item]? = some x → x.state = .off ∧ x.engaged = true) := by
  obtain ⟨won, asides, -, claims⟩ := settleLanguage_won he hw
  refine ⟨_, getElem?_of_deskOf (by rwa [settleLanguage_count_of_wins hw]), by rw [won, aired], by rw [won, aired],
    by rw [won, aired], by rw [won, aired], fun other => (claims _).mpr ⟨?_, fun h => ?_⟩, fun n hn own hne => ?_⟩
  · exact List.mem_map.mpr ⟨c, hc, by simp [holdFor]⟩
  · exact h.2.2.elim (fun k => k.1 rfl) other
  · obtain ⟨t, x⟩ := n
    subst own
    have aside : StandsAside s c.desk c.language c.displaced x := ⟨onAirFor_of_takeover hn hw, .inr hn⟩
    refine ⟨fun y hy hyx hold => ((claims y).mp hy).2 ⟨hold, hyx ▸ aside⟩, fun d hd => ?_⟩
    rw [← deskOf_of_getElem? hd, (asides x hne aside).1]
    exact ⟨rfl, rfl⟩

theorem settleLanguage_lost (hw : languageWins s c = false) :
    ∃ d, (settleLanguage s c).booth.desks[c.desk]? = some d ∧ d.state = .off ∧
      d.engaged = true ∧ (settleLanguage s c).port.flags.getLsbD 9 = true ∧
      ∀ x ∈ (settleLanguage s c).claims.languages, x.desk = c.desk → x.stage = .hold := by
  rw [settleLanguage_of_loses hw]
  refine ⟨{ deskOf s c.desk with state := .off, engaged := true }, ?_, rfl, rfl, ?_, fun x hx hdesk => ?_⟩
  · simp [deskLost, engageDesk, setDeskOff, modifyDesk, getElem?_of_deskOf he]
  · simp [deskLost, engageDesk, flagBit]
  · have kept : x ∈ (dropLanguageIntent c s).claims.languages := by simpa using hx
    have := (List.mem_filter.mp kept).2
    cases hs : x.stage with
    | hold => rfl
    | intent m => simp [hdesk, hs, isIntent] at this

end

/-- Settles O25. -/
theorem languageSettlement : Obligations.LanguageSettlement := by
  unfold Obligations.LanguageSettlement
  intro s c hc _ he
  exact ⟨normalLanguage_wins_iff, fun n => takeover_wins_iff,
    fun hw e h4 hne => settleLanguage_won_others he hw h4 hne, settleLanguage_won_desk he hc, settleLanguage_lost he⟩

end Sys2Proof.Machine
end

section

/-! PROOF for O27 (RaiseStepRaisesOrRefuses): the raise of a place want and of a language want from their three cases, the
lane search from what makes a lane busy. -/

namespace Sys2Proof.Machine

/-! ### Place wants -/

theorem freeUplink_eq_none_iff (s : State) : freeUplink s = none ↔ ∀ x ∈ s.dlc.uplinks, x ≠ none := by
  simp only [freeUplink, List.findIdx?_eq_none_iff]
  refine forall₂_congr fun x _ => ?_
  cases x <;> simp

theorem raisePlace_refused {s : State} {w : PlaceWant} (idle : ¬ ((∃ c ∈ s.claims.places, c.seat = w.seat) ∨
      ∃ m ∈ s.floor.mics, m.seat = w.seat))
    (full : (∀ x ∈ s.dlc.uplinks, x ≠ none) ∨ w.displaced = none ∧ w.cls ≤ 1 ∧ freePlaces s = 0) :
    raisePlace s w = placeRefused w.origin w.seat s := by
  rcases raisePlace_cases s w with ⟨busy, -⟩ | ⟨-, -, -, heq⟩ | ⟨-, -, place, ch, hch, -⟩
  · exact absurd busy idle
  · exact heq
  · rcases full with noChannel | noPlace
    · simp [(freeUplink_eq_none_iff s).mpr noChannel] at hch
    · exact absurd noPlace place

theorem raisePlace_raised {s : State} {w : PlaceWant} (idle : ¬ ((∃ c ∈ s.claims.places, c.seat = w.seat) ∨
      ∃ m ∈ s.floor.mics, m.seat = w.seat))
    (place : ¬ (w.displaced = none ∧ w.cls ≤ 1 ∧ freePlaces s = 0)) {ch : Nat} (hlt : ch < s.dlc.uplinks.length)
    (free : s.dlc.uplinks[ch]? = some none) (lowest : ∀ k < ch, s.dlc.uplinks[k]? ≠ some none) :
    raisePlace s w = raisePlaceOn ch w s := by
  have found : freeUplink s = some ch := (freeUplink_spec s ch).mpr ⟨free, fun k hk => by
    have here : s.dlc.uplinks[k]? = some s.dlc.uplinks[k] := List.getElem?_eq_getElem (hk.trans hlt)
    cases hx : s.dlc.uplinks[k] with
    | none => exact absurd (here.trans (by rw [hx])) (lowest k hk)
    | some seat => exact ⟨seat, here.trans (by rw [hx])⟩⟩
  rcases raisePlace_cases s w with ⟨busy, -⟩ | ⟨-, -, full, -⟩ | ⟨-, -, -, x, hx, heq⟩
  · exact absurd busy idle
  · rcases full with noChannel | noPlace
    · simp [found] at noChannel
    · exact absurd noPlace place
  · rw [found, Option.some.injEq] at hx
    exact hx ▸ heq

theorem placeRefused_keeps_tables (origin : Origin) (seat : Nat) (s : State) :
    (placeRefused origin seat s).claims = s.claims ∧ (placeRefused origin seat s).dlc.uplinks = s.dlc.uplinks ∧
    (placeRefused origin seat s).floor = s.floor ∧
    (origin = .press → (placeRefused origin seat s).port.flags.getLsbD 6 = true) ∧
    (origin ≠ .press → placeRefused origin seat s = s) := by
  refine ⟨by simp, (soft_placeRefused _ _ _).uplinks, by simp, fun press => ?_, fun other => if_neg other⟩
  simp [placeRefused, press, refusePress, flagBit]

/-! ### Language wants -/

theorem hasHolder_eq_true_iff_ne_nil (s : State) (l : Nat) : hasHolder s l = true ↔ holders s l ≠ [] := by
  simp [hasHolder]

theorem raiseLanguage_engaged {s : State} {w : LanguageWant} (idle : ¬ ∃ c ∈ s.claims.languages, c.desk = w.desk)
    (normal : w.displaced = none) (held : holders s w.language ≠ []) : raiseLanguage s w = engageDesk w.desk s := by
  rcases raiseLanguage_cases s w with ⟨busy, -⟩ | ⟨-, -, -, heq⟩ | ⟨-, free, -⟩
  · exact absurd busy idle
  · exact heq
  · rcases free with h | h
    · exact absurd normal h
    · rw [(hasHolder_eq_true_iff_ne_nil s _).mpr held] at h
      cases h

theorem raiseLanguage_raised {s : State} {w : LanguageWant} (idle : ¬ ∃ c ∈ s.claims.languages, c.desk = w.desk)
    (free : w.displaced ≠ none ∨ holders s w.language = []) :
    raiseLanguage s w = deskRaised w.desk { s with claims := { s.claims with
      languages := s.claims.languages ++ [⟨.intent false, w.desk, w.language, w.displaced⟩] } } := by
  rcases raiseLanguage_cases s w with ⟨busy, -⟩ | ⟨-, normal, held, -⟩ | ⟨-, -, heq⟩
  · exact absurd busy idle
  · rcases free with h | h
    · exact absurd normal h
    · exact absurd h ((hasHolder_eq_true_iff_ne_nil s _).mp held)
  · exact heq

/-! ### The lane search -/

theorem laneBusy_iff (s : State) (n : Nat) : laneBusy s n = true ↔
    (∃ t < 16, t ≠ s.station.number ∧ ∃ e, peerAt s t = some e ∧ e.content.running = true ∧
      ∃ x ∈ e.content.lanes, x.lane = n) ∨ ∃ h ∈ s.lanes.holdings, h.lane = n := by
  simp only [laneBusy, Bool.or_eq_true, List.any_eq_true, beq_iff_eq, Prod.exists, mem_runningPeers]
  refine or_congr ⟨?_, ?_⟩ Iff.rfl
  · rintro ⟨t, e, ⟨ht, hne, hat, hrun⟩, hx⟩
    exact ⟨t, ht, hne, e, hat, hrun, hx⟩
  · rintro ⟨t, ht, hne, e, hat, hrun, hx⟩
    exact ⟨t, e, ⟨ht, hne, hat, hrun⟩, hx⟩

theorem lowestFreeLane_eq_some_iff (s : State) (n : Nat) : lowestFreeLane s = some n ↔
    16 ≤ n ∧ n ≤ 63 ∧ laneBusy s n = false ∧ ∀ k, 16 ≤ k → k < n → laneBusy s k = true := by
  simp only [lowestFreeLane, List.find?_range'_eq_some, Bool.not_eq_true', Bool.not_eq_false', List.mem_range'_1]
  constructor
  · rintro ⟨free, ⟨lo, hi⟩, low⟩
    exact ⟨lo, by omega, free, fun k h1 h2 => low k h1 h2⟩
  · rintro ⟨lo, hi, free, low⟩
    exact ⟨free, ⟨lo, by omega⟩, low⟩

theorem lowestFreeLane_eq_none_iff (s : State) : lowestFreeLane s = none ↔
    ∀ n, 16 ≤ n → n ≤ 63 → laneBusy s n = true := by
  simp only [lowestFreeLane, List.find?_eq_none, List.mem_range'_1, Bool.not_eq_true', Bool.not_eq_false]
  exact ⟨fun h n lo hi => h n ⟨lo, by omega⟩, fun h n hn => h n hn.1 (by omega)⟩

theorem hasDemand_iff (s : State) (l : Nat) : hasDemand s l = true ↔
    s.station.state = .running ∧ 2 ≤ s.room.members.length ∧ ∃ d ∈ s.booth.desks, d.state = .onAir ∧ d.output = some l := by
  have own : (∃ h ∈ ownHolders s, h.output = l) ↔ ∃ d ∈ s.booth.desks, d.state = .onAir ∧ d.output = some l := by
    constructor
    · rintro ⟨h, hh, hout⟩
      obtain ⟨e, d, k, hd, hair, hk, rfl⟩ := (mem_ownHolders s h).mp hh
      exact ⟨d, List.mem_of_getElem? hd, hair, hk.trans (by rw [← hout])⟩
    · rintro ⟨d, hd, hair, hk⟩
      obtain ⟨e, he⟩ := List.mem_iff_getElem?.mp hd
      exact ⟨_, (mem_ownHolders s _).mpr ⟨e, d, l, he, hair, hk, rfl⟩, rfl⟩
  simp only [hasDemand, Bool.and_eq_true, decide_eq_true_iff, beq_iff_eq, List.any_eq_true, own, and_assoc]

theorem mem_unmetLanguages_iff (s : State) (l : Nat) : l ∈ unmetLanguages s ↔ 1 ≤ l ∧ l ≤ 31 ∧
    s.station.state = .running ∧ 2 ≤ s.room.members.length ∧
    (∃ d ∈ s.booth.desks, d.state = .onAir ∧ d.output = some l) ∧ ∀ h ∈ s.lanes.holdings, h.language ≠ l := by
  simp only [unmetLanguages, List.mem_filter, List.mem_range'_1, Bool.and_eq_true, hasDemand_iff, Bool.not_eq_true',
    List.any_eq_false, beq_iff_eq, and_assoc]
  exact and_congr_right fun _ => and_congr_left fun _ => by omega

theorem raiseLane_of_free {s : State} {n : Nat} (l : Nat) (h : lowestFreeLane s = some n) : raiseLane s l =
    laneRaised n l { s with claims := { s.claims with lanes := s.claims.lanes ++ [⟨.intent false, n, l⟩] } } := by
  simp only [raiseLane, h]

theorem raiseLane_of_full {s : State} (l : Nat) (h : lowestFreeLane s = none) : raiseLane s l = laneShort l s := by
  simp only [raiseLane, h]

/-- Settles O27. -/
theorem raiseStepRaisesOrRefuses : Obligations.RaiseStepRaisesOrRefuses := by
  unfold Obligations.RaiseStepRaisesOrRefuses
  refine ⟨⟨fun s w => ⟨fun busy => ?_, fun idle full => ?_, fun ch hlt idle place free lowest => ?_⟩,
    fun s w hlt => ⟨fun busy => ?_, fun idle normal held => ?_, fun idle free => ?_⟩,
    fun s l => ⟨fun n hn => ?_, fun full => ?_, mem_unmetLanguages_iff s l⟩⟩, fun s => ⟨laneBusy_iff s, fun n => ?_, ?_⟩⟩
  · rcases raisePlace_cases s w with ⟨-, heq⟩ | ⟨noClaim, noMic, -⟩ | ⟨noClaim, noMic, -⟩
    · exact heq
    all_goals
      rcases busy with ⟨c, hc, hs⟩ | ⟨m, hm, hs⟩
      · exact absurd hs (noClaim c hc)
      · exact absurd hs (noMic m hm)
  · rw [raisePlace_refused idle full]
    exact placeRefused_keeps_tables w.origin w.seat s
  · rw [raisePlace_raised idle place hlt free lowest]
    rfl
  · rcases raiseLanguage_cases s w with ⟨-, heq⟩ | ⟨free, -⟩ | ⟨free, -⟩
    · exact heq
    all_goals
      obtain ⟨c, hc, hd⟩ := busy
      exact absurd hd (free c hc)
  · rw [raiseLanguage_engaged idle normal held]
    refine ⟨by simp, ?_, by simp [engageDesk, flagBit]⟩
    exact (deskOf_modifyDesk w.desk w.desk _ s hlt).trans (if_pos rfl)
  · rw [raiseLanguage_raised idle free]
    exact ⟨rfl, (deskOf_deskRaised hlt _).trans (if_pos rfl), rfl⟩
  · rw [raiseLane_of_free l hn]
    exact ⟨rfl, insertBy_perm _ _ _, by simp [laneRaised]⟩
  · rw [raiseLane_of_full l full]
    exact ⟨rfl, rfl, by simp [laneShort, mem_insertNat], by simp [laneShort, flagBit]⟩
  · simp only [lowestFreeLane_eq_some_iff, ← laneBusy_iff, Bool.not_eq_true]
  · simp only [lowestFreeLane_eq_none_iff, ← laneBusy_iff]

end Sys2Proof.Machine
end

section

/-! SUPPORT. The arrival of an announcement: what is noted of it, the recomputation with the mismatch test, the command test,
and the displacements after it. -/

namespace Sys2Proof.Machine

section
variable (t : Nat) (a : Announcement) (s : State)

/-- The state in which an arriving announcement is noted, before the membership is formed anew. -/
def arrivalNoted : State :=
  let noted := raiseIf (peerDiffers (peerAt s t) a) .peerChanged (setPeer t (some ⟨0, 0, a⟩) (noteLeft t a s))
  if epochDiffers (peerAt s t) a then forgetCommand t noted else noted

/-- The state in which an arriving announcement is taken in: membership formed, heads compared. -/
def arrivalAdmitted : State := mismatchTest t a (recompute (arrivalNoted t a s))

theorem peerArrival_eq : peerArrival t a s =
    evalDemand (applyTakeovers a (applyOverrides a (commandTest t a (arrivalAdmitted t a s)))) := rfl

end

section
variable {s : State} {t : Nat} {frames : List (Bool × List Byte)} {a : Announcement}

/-- The close of a slot with a valid announcement is its arrival. -/
theorem exec_slotClose_of_valid (live : Live s) (link : s.station.state = .joining ∨ s.station.state = .running)
    (closed : s.lif.closedSlot = some (t, frames)) (other : t ≠ s.station.number)
    (valid : validAnnouncement t frames = some a) :
    exec (.slotClose t) s = .next (peerArrival t a (takeSlot s)) := by
  rw [exec_of_live _ s live]
  have linked : onLink s = true := (onLink_iff s).mpr link
  simp only [liveEffect, slotCloseOp, closed]
  rw [if_pos (by simp [other]), if_pos linked, valid]

end

/-! ### What an arrival leaves of the desks -/

section
variable {β : Type} {g : Desk → β}

theorem map_recompute (free : ∀ d p, g { d with pendingSource := p } = g d) (s : State) :
    (recompute s).booth.desks.map g = s.booth.desks.map g := by
  have sources : ∀ u : State, (workOutSources u).booth.desks.map g = u.booth.desks.map g := fun u => by
    simp [workOutSources, Function.comp_def, free]
  have context : ∀ b c (u : State), (presentContext b c u).booth.desks.map g = u.booth.desks.map g := fun b c u => by
    rw [presentContext, sources]
    simp
  have change : ∀ b c (u : State), (presentContextChange b c u).booth.desks.map g = u.booth.desks.map g := fun b c u => by
    unfold presentContextChange
    split
    · split
      · rfl
      · exact context _ _ u
    · rfl
  simp only [recompute, change]
  split <;> simp

theorem map_actOn (free : ∀ d p, g { d with pendingSource := p } = g d) (c : RoomCommand) (s : State) :
    (actOn c s).booth.desks.map g = s.booth.desks.map g := by
  unfold actOn
  split
  · simp
  · simp
  · simp
  · unfold actSetFloorLevel
    split
    · exact map_recompute free _
    · rfl

theorem map_commandTest (free : ∀ d p, g { d with pendingSource := p } = g d) (t : Nat) (a : Announcement) (s : State) :
    (commandTest t a s).booth.desks.map g = s.booth.desks.map g := by
  simp only [commandTest]
  repeat' split
  · exact map_actOn free _ s
  · rfl
  · rfl

theorem arrivalNoted_desks (t : Nat) (a : Announcement) (s : State) :
    (arrivalNoted t a s).booth.desks = s.booth.desks := by
  simp only [arrivalNoted, noteLeft]
  repeat' split
  all_goals simp [forgetCommand, setPeer]

theorem arrivalNoted_station (t : Nat) (a : Announcement) (s : State) : (arrivalNoted t a s).station = s.station := by
  simp only [arrivalNoted, noteLeft]
  repeat' split
  all_goals simp [forgetCommand, setPeer]

theorem map_arrivalAdmitted (free : ∀ d p, g { d with pendingSource := p } = g d) (t : Nat) (a : Announcement) (s : State) :
    (arrivalAdmitted t a s).booth.desks.map g = s.booth.desks.map g := by
  have mismatch : ∀ u : State, (mismatchTest t a u).booth = u.booth := fun u => by simp
  rw [arrivalAdmitted, mismatch, map_recompute free, arrivalNoted_desks]

end

end Sys2Proof.Machine
end

section

/-! PROOF for O28 (ConflictAndDisplacement). -/

namespace Sys2Proof.Machine

/-! ### Lane holders in conflict -/

/-- Lane n, held for an age, is kept against every Running peer that announces it Held. -/
theorem keepsLane_iff (s : State) (n age : Nat) : keepsLane s n age = true ↔
    ∀ k < 16, k ≠ s.station.number → ∀ e, peerAt s k = some e → e.content.running = true →
      ∀ x ∈ e.content.lanes, x.lane = n → x.held = true →
        if s.station.number < k then min (x.age + e.since) 65535 < age + 2 else min (x.age + e.since) 65535 + 3 ≤ age := by
  have kept : ∀ k est, keepsAgainst s.station.number age k est = true ↔
      if s.station.number < k then est < age + 2 else est + 3 ≤ age := fun k est => by
    unfold keepsAgainst
    split <;> exact decide_eq_true_iff
  simp only [keepsLane, List.all_eq_true, Prod.forall, mem_runningPeers, Bool.or_eq_true, Bool.not_eq_true',
    Bool.and_eq_false_iff, beq_eq_false_iff_ne, kept, estimate, Config.ageLimit]
  refine ⟨fun h k hk hne e he hrun x hx hl hheld => ?_, fun h k e ⟨hk, hne, he, hrun⟩ x hx => ?_⟩
  · refine (h k e ⟨hk, hne, he, hrun⟩ x hx).resolve_left ?_
    simp [hl, hheld]
  · by_cases here : x.lane = n ∧ x.held = true
    · exact .inr (h k hk hne e he hrun x hx here.1 here.2)
    · refine .inl ?_
      rwa [← Bool.not_eq_true, ← not_and_or]

theorem laneConflictStep_spec {s : State} (law : LaneLaw s) :
    (∀ h, h ∈ (laneConflictStep s).lanes.holdings ↔
      h ∈ s.lanes.holdings ∧ ¬ (h.held = true ∧ keepsLane s h.lane h.age = false)) ∧
    (∀ c, c ∈ (laneConflictStep s).claims.lanes ↔ c ∈ s.claims.lanes ∧
      ¬ ∃ h ∈ s.lanes.holdings, h.lane = c.lane ∧ h.held = true ∧ keepsLane s h.lane h.age = false) := by
  obtain ⟨hlanes, -, hdistinct, hheld, -⟩ := law
  have byLane : laneConflictStep s =
      ((s.lanes.holdings.filter (fun h => h.held && !keepsLane s h.lane h.age)).map (·.lane)).foldl
        (fun s' n => loseLane n s') s := by rw [List.foldl_map]; rfl
  have listed : ∀ n, n ∈ (s.lanes.holdings.filter (fun h => h.held && !keepsLane s h.lane h.age)).map (·.lane) ↔
      ∃ h ∈ s.lanes.holdings, h.lane = n ∧ h.held = true ∧ keepsLane s h.lane h.age = false := fun n => by
    simp only [List.mem_map, List.mem_filter, Bool.and_eq_true, Bool.not_eq_true']
    exact ⟨fun ⟨h, ⟨hh, lost⟩, hn⟩ => ⟨h, hh, hn, lost⟩, fun ⟨h, hh, hn, lost⟩ => ⟨h, ⟨hh, lost⟩, hn⟩⟩
  obtain ⟨holdings, claims⟩ := mem_loseLanes
    ((s.lanes.holdings.filter (fun h => h.held && !keepsLane s h.lane h.age)).map (·.lane)) s
  rw [byLane]
  refine ⟨fun h => ?_, fun c => ?_⟩
  · rw [holdings, listed]
    refine and_congr_right fun hh => not_congr ⟨fun ⟨k, hk, hl, lost⟩ => ?_, fun lost => ⟨h, hh, rfl, lost⟩⟩
    rwa [← List.inj_on_of_nodup_map hlanes hk hh hl]
  · rw [claims, listed]
    refine and_congr_right fun hc => not_congr ⟨fun h => h.2, fun lost => ⟨?_, lost⟩⟩
    obtain ⟨h, hh, hl, held, -⟩ := lost
    obtain ⟨-, -, -, x, hx, hxl, -, hst⟩ := hheld h hh
    rw [← List.inj_on_of_nodup_map hdistinct hx hc (hxl.trans hl)]
    exact hst.mp held

/-! ### Desks in conflict -/

theorem deskYields_iff (s : State) (e : Nat) : deskYields s e = true ↔ (deskOf s e).state = .onAir ∧
    ∃ p ∈ memberPeers s, ∃ x ∈ p.2.content.desks, x.state = .onAir ∧ (deskOf s e).output = some x.output ∧
      (x.displaced = some ⟨s.station.number, e⟩ ∨
        if s.station.number < p.1 then (deskOf s e).onAirAge + 2 ≤ min (x.onAirAge + p.2.since) 65535
        else (deskOf s e).onAirAge < min (x.onAirAge + p.2.since) 65535 + 3) := by
  have lost : ∀ age k est, keepsAgainst s.station.number age k est = false ↔
      if s.station.number < k then age + 2 ≤ est else age < est + 3 := fun age k est => by
    unfold keepsAgainst
    split
    · rw [decide_eq_false_iff_not, not_lt]
    · rw [decide_eq_false_iff_not, not_le]
  have yields : ∀ h, yieldsTo s e (deskOf s e).onAirAge h = true ↔ h.displaced = some ⟨s.station.number, e⟩ ∨
      if s.station.number < h.station then (deskOf s e).onAirAge + 2 ≤ min (h.onAirAge + h.since) 65535
      else (deskOf s e).onAirAge < min (h.onAirAge + h.since) 65535 + 3 := fun h => by
    simp only [yieldsTo, Bool.or_eq_true, beq_iff_eq, Bool.not_eq_true', lost, estimate, Config.ageLimit]
  have language : ∀ l, (deskOf s e).output = some l → (((peerHolders s).filter (fun h => h.output == l)).any
      (yieldsTo s e (deskOf s e).onAirAge) = true ↔
      ∃ p ∈ memberPeers s, ∃ x ∈ p.2.content.desks, x.state = .onAir ∧ (deskOf s e).output = some x.output ∧
        (x.displaced = some ⟨s.station.number, e⟩ ∨
          if s.station.number < p.1 then (deskOf s e).onAirAge + 2 ≤ min (x.onAirAge + p.2.since) 65535
          else (deskOf s e).onAirAge < min (x.onAirAge + p.2.since) 65535 + 3)) := fun l hl => by
    simp only [List.any_eq_true, List.mem_filter, beq_iff_eq, yields, hl, Option.some.injEq]
    constructor
    · rintro ⟨h, ⟨hh, hout⟩, hy⟩
      obtain ⟨p, hp, x, hx, hair, rfl⟩ := (mem_peerHolders s h).mp hh
      exact ⟨p, hp, x, hx, hair, hout.symm, hy⟩
    · rintro ⟨p, hp, x, hx, hair, hout, hy⟩
      exact ⟨_, ⟨(mem_peerHolders s _).mpr ⟨p, hp, x, hx, hair, rfl⟩, hout.symm⟩, hy⟩
  unfold deskYields
  split
  · next hair hl => simp only [hair, true_and, language _ hl]
  · next h =>
    refine iff_of_false (by simp) ?_
    rintro ⟨hair, p, -, x, -, -, hout, -⟩
    exact h x.output hair hout

theorem takenOver_iff (s : State) (a : Announcement) (e : Nat) : takenOver s a e = true ↔ (deskOf s e).state = .onAir ∧
    ∃ x ∈ a.desks, x.state = .onAir ∧ x.displaced = some ⟨s.station.number, e⟩ ∧ (deskOf s e).output = some x.output ∧
      x.onAirAge < (deskOf s e).onAirAge := by
  simp only [takenOver, Bool.and_eq_true, beq_iff_eq, List.any_eq_true, decide_eq_true_iff, and_assoc]

/-- The own desks that pass a test stand aside, and the others stay. -/
theorem standAsides_own {p : State → Nat → Bool} (test : AsideTest p) (s : State) {e : Nat} (he : e < 4) :
    (p s e = true → deskOf (standAsides p (List.range 4) s) e = { deskOf s e with state := .off, engaged := true } ∧
      (standAsides p (List.range 4) s).port.flags.getLsbD 9 = true ∧
      ∀ c ∈ (standAsides p (List.range 4) s).claims.languages, c.desk = e → c.stage ≠ .hold) ∧
    (p s e = false → deskOf (standAsides p (List.range 4) s) e = deskOf s e ∧
      ∀ c ∈ s.claims.languages, c.desk = e → c ∈ (standAsides p (List.range 4) s).claims.languages) := by
  obtain ⟨desks, claims, flag⟩ := standAsides_spec test (List.range 4) List.nodup_range s
  have listed : e ∈ List.range 4 := List.mem_range.mpr he
  refine ⟨fun hp => ⟨?_, flag e listed hp, fun c hc hd hold => ?_⟩, fun hp => ⟨?_, fun c hc hd => ?_⟩⟩
  · rw [desks, if_pos ⟨listed, hp⟩]
  · exact ((claims c).mp hc).2 ⟨hd ▸ listed, hd ▸ hp, hold⟩
  · rw [desks, if_neg (by simp [hp])]
  · exact (claims c).mpr ⟨hc, by simp [hd, hp]⟩

/-! ### Displacement at an arrival -/

theorem overridden_iff (s : State) (a : Announcement) (m : Mic) : overridden s a m = true ↔ m.phase ≠ .closing ∧
    m.cls ≤ 1 ∧ ∃ x ∈ a.mics, x.phase ≠ .intent ∧ x.displaced = some ⟨s.station.number, m.seat⟩ ∧ x.age < m.age := by
  have sounds : sounding m.phase = true ↔ m.phase ≠ .closing := by cases m.phase <;> simp [sounding]
  simp only [overridden, Bool.and_eq_true, sounds, counted, decide_eq_true_iff, List.any_eq_true, bne_iff_ne, beq_iff_eq,
    and_assoc]

theorem closed_of_overridden {s : State} {a : Announcement} {m : Mic} (h : overridden s a m = true) :
    closed m = { m with phase := .closing } := by
  simp only [overridden, Bool.and_eq_true] at h
  rw [closed, if_pos h.1.1]

theorem applyOverrides_eq (s : State) (a : Announcement) : applyOverrides a s = { s with floor := { s.floor with
    mics := s.floor.mics.map (fun m =>
      if m.phase ≠ .closing ∧ m.cls ≤ 1 ∧ ∃ x ∈ a.mics, x.phase ≠ .intent ∧
        x.displaced = some ⟨s.station.number, m.seat⟩ ∧ x.age < m.age then { m with phase := .closing } else m) } } := by
  have each : ∀ m, (if overridden s a m then closed m else m) =
      if m.phase ≠ .closing ∧ m.cls ≤ 1 ∧ ∃ x ∈ a.mics, x.phase ≠ .intent ∧
        x.displaced = some ⟨s.station.number, m.seat⟩ ∧ x.age < m.age then { m with phase := .closing } else m := fun m => by
    by_cases h : overridden s a m = true
    · rw [if_pos h, if_pos ((overridden_iff s a m).mp h), closed_of_overridden h]
    · rw [if_neg h, if_neg ((overridden_iff s a m).not.mp h)]
  rw [applyOverrides, closeMics]
  simp only [each]

/-- After the displacements of an arrival no named mic of class 0..1 sounds. -/
theorem closing_of_applyOverrides {s : State} {a : Announcement} {m : Mic} (hm : m ∈ (applyOverrides a s).floor.mics)
    (hcls : m.cls ≤ 1) (named : ∃ x ∈ a.mics, x.phase ≠ .intent ∧ x.displaced = some ⟨s.station.number, m.seat⟩ ∧
      x.age < m.age) : m.phase = .closing := by
  rw [applyOverrides_eq] at hm
  obtain ⟨k, -, rfl⟩ := List.mem_map.mp hm
  by_cases h : k.phase ≠ .closing ∧ k.cls ≤ 1 ∧ ∃ x ∈ a.mics, x.phase ≠ .intent ∧
      x.displaced = some ⟨s.station.number, k.seat⟩ ∧ x.age < k.age
  · rw [if_pos h]
  · rw [if_neg h] at hcls named ⊢
    by_contra sounds
    exact h ⟨sounds, hcls, named⟩

/-- What decides whether a desk is displaced, and what a displacement changes. -/
def airFace (d : Desk) : DeskState × Bool × Option Nat × Nat := (d.state, d.engaged, d.output, d.onAirAge)

theorem airFace_eq_iff (d d' : Desk) : airFace d = airFace d' ↔
    d.state = d'.state ∧ d.engaged = d'.engaged ∧ d.output = d'.output ∧ d.onAirAge = d'.onAirAge := by simp [airFace]

/-- The end of an arrival, desk by desk: the named ones stand aside. -/
theorem takeovers_own (a : Announcement) (s : State) {e : Nat} (he : e < 4) :
    (takenOver s a e = true → (deskOf (evalDemand (applyTakeovers a s)) e).state = .off ∧
      (deskOf (evalDemand (applyTakeovers a s)) e).engaged = true ∧
      (evalDemand (applyTakeovers a s)).port.flags.getLsbD 9 = true ∧
      ∀ c ∈ (evalDemand (applyTakeovers a s)).claims.languages, c.desk = e → c.stage ≠ .hold) ∧
    (takenOver s a e = false → deskOf (evalDemand (applyTakeovers a s)) e = deskOf s e) := by
  obtain ⟨aside, stays⟩ := standAsides_own (takenOver_test a) s he
  rw [← applyTakeovers_eq] at aside stays
  have desks : ∀ w : State, deskOf (evalDemand w) e = deskOf w e := fun w => rfl
  have port : ∀ w : State, (evalDemand w).port = w.port := fun w => rfl
  have claims : ∀ w : State, (evalDemand w).claims = w.claims := fun w => rfl
  rw [desks, port, claims]
  refine ⟨fun h => ?_, fun h => (stays h).1⟩
  obtain ⟨desk, flag, released⟩ := aside h
  rw [desk]
  exact ⟨rfl, rfl, flag, released⟩

theorem displacement_at_arrival {s : State} {t : Nat} {frames : List (Bool × List Byte)} {a : Announcement}
    (live : Live s) (link : s.station.state = .joining ∨ s.station.state = .running)
    (closed : s.lif.closedSlot = some (t, frames)) (other : t ≠ s.station.number)
    (valid : validAnnouncement t frames = some a) :
    let named : Nat → Prop := fun e => (deskOf s e).state = .onAir ∧ ∃ x ∈ a.desks, x.state = .onAir ∧
      x.displaced = some ⟨s.station.number, e⟩ ∧ (deskOf s e).output = some x.output ∧ x.onAirAge < (deskOf s e).onAirAge
    ∃ u, exec (.slotClose t) s = .next u ∧
      (∀ m ∈ u.floor.mics, m.cls ≤ 1 → (∃ x ∈ a.mics, x.phase ≠ .intent ∧ x.displaced = some ⟨s.station.number, m.seat⟩ ∧
        x.age < m.age) → m.phase = .closing) ∧
      (∀ e < 4, named e → (deskOf u e).state = .off ∧ (deskOf u e).engaged = true ∧ u.port.flags.getLsbD 9 = true ∧
        ∀ c ∈ u.claims.languages, c.desk = e → c.stage ≠ .hold) ∧
      (∀ e < 4, ¬ named e → (deskOf u e).state = (deskOf s e).state ∧ (deskOf u e).engaged = (deskOf s e).engaged) := by
  intro named
  have before : ∃ v : State, v.station = s.station ∧ v.booth.desks.map airFace = s.booth.desks.map airFace ∧
      peerArrival t a (takeSlot s) = evalDemand (applyTakeovers a (applyOverrides a v)) := by
    refine ⟨commandTest t a (arrivalAdmitted t a (takeSlot s)), ?_, ?_, peerArrival_eq t a _⟩
    · rw [arrivalAdmitted]
      simp [arrivalNoted_station, takeSlot]
    · rw [map_commandTest (fun _ _ => rfl), map_arrivalAdmitted (fun _ _ => rfl)]
      rfl
  obtain ⟨v, station, desks, heq⟩ := before
  have tests : ∀ e, takenOver (applyOverrides a v) a e = true ↔ named e := fun e => by
    obtain ⟨hst, -, hout, hage⟩ := (airFace_eq_iff _ _).mp (deskOf_of_map desks e)
    have desk : deskOf (applyOverrides a v) e = deskOf v e := rfl
    have number : (applyOverrides a v).station.number = s.station.number := congrArg (·.number) station
    rw [takenOver_iff, desk, hst, hout, hage, number]
  refine ⟨_, exec_slotClose_of_valid live link closed other valid, ?_⟩
  rw [heq]
  refine ⟨fun m hm hcls hx => ?_, fun e he hn => (takeovers_own a _ he).1 ((tests e).mpr hn), fun e he hn => ?_⟩
  · have kept : (evalDemand (applyTakeovers a (applyOverrides a v))).floor = (applyOverrides a v).floor := by simp
    rw [kept] at hm
    exact closing_of_applyOverrides hm hcls (station.symm ▸ hx)
  · obtain ⟨hst, heng, -, -⟩ := (airFace_eq_iff _ _).mp (deskOf_of_map desks e)
    have desk := (takeovers_own a (applyOverrides a v) he).2 (by rw [← Bool.not_eq_true, tests]; exact hn)
    rw [desk]
    exact ⟨hst, heng⟩

/-- Settles O28. -/
theorem conflictAndDisplacement : Obligations.ConflictAndDisplacement := by
  unfold Obligations.ConflictAndDisplacement
  refine ⟨fun s law => ?_, fun s _ => ?_, fun s t frames a live _ link closed _ other valid =>
    displacement_at_arrival live link closed other valid, fun s a => applyOverrides_eq s a⟩
  · obtain ⟨holdings, claims⟩ := laneConflictStep_spec law
    obtain ⟨hlanes, -⟩ := law
    simp only [← keepsLane_iff]
    refine ⟨fun h hh => ((holdings h).mp hh).1, fun h hh kept => ?_, fun h hh held lost => ?_⟩
    · have stays : ¬ (h.held = true ∧ keepsLane s h.lane h.age = false) := fun ⟨hheld, hlost⟩ => by
        rcases kept with hk | hk
        · simp [hheld] at hk
        · simp [hlost] at hk
      refine ⟨(holdings h).mpr ⟨hh, stays⟩, fun c hc hl => (claims c).mpr ⟨hc, ?_⟩⟩
      rintro ⟨k, hk, hkl, lost⟩
      exact stays (List.inj_on_of_nodup_map hlanes hk hh (hkl.trans hl) ▸ lost)
    · have gone : h.held = true ∧ keepsLane s h.lane h.age = false := ⟨held, by simpa using lost⟩
      refine ⟨fun x hx hl => ?_, fun c hc hl => ((claims c).mp hc).2 ⟨h, hh, hl.symm, gone⟩⟩
      obtain ⟨hxs, stays⟩ := (holdings x).mp hx
      exact stays (List.inj_on_of_nodup_map hlanes hxs hh hl ▸ gone)
  · rw [deskConflictStep_eq]
    split
    · next running =>
      simp only [running, true_and, ← deskYields_iff]
      exact ⟨fun e he hy => (standAsides_own deskYields_test s he).1 hy,
        fun e he hy => (standAsides_own deskYields_test s he).2 (by simpa using hy)⟩
    · next idle => exact ⟨fun e _ hy => absurd hy.1 idle, fun e _ _ => ⟨rfl, fun c hc _ => hc⟩⟩

end Sys2Proof.Machine
end

section

/-! SUPPORT. Withdrawing the claims of several seats, clearing the request list, and what a change of context makes of wants
and place claims. -/

namespace Sys2Proof.Machine

/-! ### Marking place claims -/

/-- A place claim with its Intent marked for withdrawal; a Hold stays. -/
def markClaim (c : PlaceClaim) : PlaceClaim := { c with stage := markStage c.stage }

/-- A place claim marked where a test of it says so. -/
def markIf (p : PlaceClaim → Bool) (c : PlaceClaim) : PlaceClaim := if p c then markClaim c else c

theorem markStage_markStage (x : Stage) : markStage (markStage x) = markStage x := by cases x <;> rfl

section
variable (p q : PlaceClaim → Bool) (c : PlaceClaim)

theorem markIf_of_true {p : PlaceClaim → Bool} {c : PlaceClaim} (h : p c = true) : markIf p c = markClaim c := if_pos h

theorem markIf_of_false {p : PlaceClaim → Bool} {c : PlaceClaim} (h : p c = false) : markIf p c = c :=
  if_neg (by simp [h])

@[simp] theorem markIf_fields : (markIf p c).seat = c.seat ∧ (markIf p c).cls = c.cls ∧
    (markIf p c).displaced = c.displaced ∧ (markIf p c).uplink = c.uplink ∧ (markIf p c).origin = c.origin := by
  unfold markIf markClaim
  split <;> simp

theorem map_markIf_none (l : List PlaceClaim) : l.map (markIf (fun _ => false)) = l :=
  (List.map_congr_left fun _ _ => rfl).trans (List.map_id l)

theorem markIf_markIf : markIf q (markIf p c) = markIf (fun c => p c || q c) c := by
  cases hp : p c with
  | false =>
    have : markIf (fun c => p c || q c) c = markIf q c := by simp [markIf, hp]
    rw [this, markIf_of_false hp]
  | true =>
    have both : markIf (fun c => p c || q c) c = markClaim c := markIf_of_true (by simp [hp])
    have same : markClaim (markClaim c) = markClaim c := by simp [markClaim, markStage_markStage]
    rw [markIf_of_true hp, both, markIf]
    split
    · exact same
    · rfl

/-- A marked claim is live no more; one that is not marked is as it was. -/
theorem live_markIf {p : PlaceClaim → Bool} {c : PlaceClaim} (h : isLiveIntent (markIf p c).stage = true) :
    p c = false ∧ isLiveIntent c.stage = true := by
  cases hp : p c with
  | false => exact ⟨rfl, by rwa [markIf_of_false hp] at h⟩
  | true =>
    rw [markIf_of_true hp, markClaim, isLiveIntent_markStage] at h
    cases h

theorem markIf_of_hold {p : PlaceClaim → Bool} {c : PlaceClaim} (h : c.stage = .hold) : markIf p c = c := by
  obtain ⟨stage⟩ := c
  subst h
  unfold markIf markClaim
  split <;> rfl

theorem markIf_eq : markIf p c = if p c = true ∧ c.stage ≠ .hold then { c with stage := .intent true } else c := by
  by_cases hold : c.stage = .hold
  · rw [markIf_of_hold hold, if_neg (by simp [hold])]
  · cases hp : p c with
    | false => rw [markIf_of_false hp, if_neg (by simp)]
    | true =>
      rw [markIf_of_true hp, if_pos ⟨rfl, hold⟩, markClaim]
      cases hs : c.stage with
      | hold => exact absurd hs hold
      | intent m => rfl

end

/-! ### Withdrawing the claims of several seats -/

/-- The pending claims of the seats of a list withdrawn: every one, or those of class 0..1 alone. -/
def withdrawSeats (every : Bool) (seats : List Nat) (s : State) : State := { s with claims := { s.claims with
  placeWants := s.claims.placeWants.filter (fun w => !(seats.contains w.seat && (every || counted w.cls)))
  places := s.claims.places.map (markIf (fun c => seats.contains c.seat && (every || counted c.cls))) } }

theorem foldl_withdrawSeat (every : Bool) (seats : List Nat) : ∀ s : State,
    seats.foldl (fun s' a => withdrawSeat every a s') s = withdrawSeats every seats s := by
  induction seats with
  | nil =>
    intro s
    simp [withdrawSeats, map_markIf_none]
  | cons a l ih =>
    intro s
    have one : withdrawSeat every a s = withdrawSeats every [a] s := by
      simp only [withdrawSeat, withdrawSeats, List.contains_cons, List.contains_nil, Bool.or_false]
      rfl
    rw [List.foldl_cons, ih, one]
    simp only [withdrawSeats, List.filter_filter, List.map_map, Function.comp_def, markIf_markIf]
    have wants : ∀ w : PlaceWant, (!(l.contains w.seat && (every || counted w.cls)) &&
        !([a].contains w.seat && (every || counted w.cls))) =
        !((a :: l).contains w.seat && (every || counted w.cls)) := fun w => by
      cases h : (every || counted w.cls) <;> simp
      exact Bool.and_comm _ _
    have places : ∀ c : PlaceClaim, ([a].contains c.seat && (every || counted c.cls) ||
        l.contains c.seat && (every || counted c.cls)) = ((a :: l).contains c.seat && (every || counted c.cls)) := fun c => by
      cases h : (every || counted c.cls) <;> simp
    simp only [wants, places]

/-- CancelAll, and a floor that leaves Queue: the list is empty, and what its seats have pending is withdrawn. -/
theorem clearRequests_eq (s : State) : clearRequests s =
    withdrawSeats true (s.floor.requests.map (·.seat)) { s with floor := { s.floor with requests := [] } } := by
  rw [← foldl_withdrawSeat, List.foldl_map]
  rfl

/-! ### A change of context -/

section
variable (b a : Context) (s : State)

/-- The floor leaves Queue. -/
def queueLeft : Bool := b.mode = .queue && a.mode != .queue

/-- The floor leaves Override. -/
def overrideLeft : Bool := b.mode = .override && a.mode != .override

/-- The interlock goes from Takeover to Refuse. -/
def takeoverRefused : Bool := b.interlock = .takeover && a.interlock = .refuse

theorem queueLeft_iff : queueLeft b a = true ↔ b.mode = .queue ∧ a.mode ≠ .queue := by simp [queueLeft]

theorem overrideLeft_iff : overrideLeft b a = true ↔ b.mode = .override ∧ a.mode ≠ .override := by simp [overrideLeft]

theorem takeoverRefused_iff : takeoverRefused b a = true ↔ b.interlock = .takeover ∧ a.interlock = .refuse := by
  simp [takeoverRefused]

/-- What a change of context withdraws for itself: Takeover claims where the interlock refuses them, Override claims where the
floor leaves that mode. -/
theorem claimsAtContext_eq : claimsAtContext b a s = { s with claims := { s.claims with
    languageWants := s.claims.languageWants.filter (fun w => !(takeoverRefused b a && w.displaced.isSome))
    languages := s.claims.languages.map (fun c => if takeoverRefused b a && c.displaced.isSome then
      { c with stage := markStage c.stage } else c)
    placeWants := s.claims.placeWants.filter (fun w => !(overrideLeft b a && w.displaced.isSome))
    places := s.claims.places.map (markIf (fun c => overrideLeft b a && c.displaced.isSome)) } } := by
  have wants : ∀ w : PlaceWant, (!w.displaced.isSome) = w.displaced.isNone := fun w => by simp
  have languageWants : ∀ w : LanguageWant, (!w.displaced.isSome) = w.displaced.isNone := fun w => by simp
  unfold claimsAtContext
  change (if overrideLeft b a = true then _ else _) = _
  have inner : (if b.interlock = .takeover && a.interlock = .refuse then
      { s with claims := { s.claims with
        languageWants := s.claims.languageWants.filter (fun w => w.displaced.isNone)
        languages := s.claims.languages.map (fun c =>
          if c.displaced.isSome then { c with stage := markStage c.stage } else c) } } else s) =
      { s with claims := { s.claims with
        languageWants := s.claims.languageWants.filter (fun w => !(takeoverRefused b a && w.displaced.isSome))
        languages := s.claims.languages.map (fun c => if takeoverRefused b a && c.displaced.isSome then
          { c with stage := markStage c.stage } else c) } } := by
    change (if takeoverRefused b a = true then _ else _) = _
    cases takeoverRefused b a <;> simp [languageWants]
  simp only [inner]
  cases overrideLeft b a with
  | false => simp [map_markIf_none]
  | true =>
    simp only [Bool.true_and, wants]
    rfl

end
end Sys2Proof.Machine
end

section

/-! SUPPORT and PROOF for O36 (RoomCommandsAct): what each room command makes of floor and claims, and when a station acts. -/

namespace Sys2Proof.Machine

/-! ### Wants filed one by one -/

/-- A seat has a claim that is not marked for withdrawal. -/
def LiveClaim (s : State) (seat : Nat) : Prop := ∃ c ∈ s.claims.places, c.seat = seat ∧ c.stage ≠ .intent true

/-- Normal wants of one origin filed for a list of entries of the ranking. -/
def fileAll (origin : Origin) (rs : List Ranked) (s : State) : State :=
  rs.foldl (fun s' r => filePlaceWant ⟨r.seat, r.cls, none, origin⟩ s') s

theorem wantRanked_eq (n : Nat) (origin : Origin) (s : State) : wantRanked n origin s =
    fileAll origin (((roomRanking s).take n).filter (fun r => r.station = s.station.number)) s := by
  simp only [wantRanked, fileAll, beq_eq_decide]

/-- The entry with the last want of a seat among those of a list. -/
def LastFor (rs : List Ranked) (r : Ranked) : Prop := ∃ pre post, rs = pre ++ r :: post ∧ ∀ x ∈ post, x.seat ≠ r.seat

theorem lastFor_cons {x r : Ranked} {rs : List Ranked} : LastFor (x :: rs) r ↔
    LastFor rs r ∨ r = x ∧ ∀ y ∈ rs, y.seat ≠ x.seat := by
  constructor
  · rintro ⟨pre, post, heq, hpost⟩
    cases pre with
    | nil =>
      obtain ⟨rfl, rfl⟩ := List.cons.inj heq
      exact .inr ⟨rfl, hpost⟩
    | cons p pre => exact .inl ⟨pre, post, (List.cons.inj heq).2, hpost⟩
  · rintro (⟨pre, post, rfl, hpost⟩ | ⟨rfl, hrs⟩)
    · exact ⟨x :: pre, post, rfl, hpost⟩
    · exact ⟨[], rs, rfl, hrs⟩

theorem LastFor.mem {r : Ranked} {rs : List Ranked} (h : LastFor rs r) : r ∈ rs := by
  obtain ⟨pre, post, rfl, -⟩ := h
  simp

theorem exists_lastFor {r : Ranked} : ∀ {rs : List Ranked}, r ∈ rs → ∃ x, LastFor rs x ∧ x.seat = r.seat
  | y :: ys, h => by
    by_cases later : ∃ z ∈ ys, z.seat = r.seat
    · obtain ⟨z, hz, hseat⟩ := later
      obtain ⟨x, hx, hxz⟩ := exists_lastFor hz
      exact ⟨x, lastFor_cons.mpr (.inl hx), hxz.trans hseat⟩
    · rcases List.mem_cons.mp h with rfl | h
      · exact ⟨r, lastFor_cons.mpr (.inr ⟨rfl, fun z hz hs => later ⟨z, hz, hs⟩⟩), rfl⟩
      · exact absurd ⟨r, h, rfl⟩ later

/-- Filing wants for a list of entries: the last want of each seat without a live claim stands, in place of an earlier one. -/
theorem fileAll_spec (origin : Origin) : ∀ (rs : List Ranked) {s : State}, s.station.state ≠ .unconfigured →
    fileAll origin rs s = { s with claims := { s.claims with placeWants := (fileAll origin rs s).claims.placeWants } } ∧
    ∀ w, w ∈ (fileAll origin rs s).claims.placeWants ↔
      (w ∈ s.claims.placeWants ∧ ∀ r ∈ rs, r.seat = w.seat → LiveClaim s r.seat) ∨
      ∃ r, LastFor rs r ∧ ¬ LiveClaim s r.seat ∧ w = ⟨r.seat, r.cls, none, origin⟩
  | [], s, _ => ⟨rfl, fun w => by simp [fileAll, LastFor]⟩
  | r :: rs, s, h => by
    have first : fileAll origin (r :: rs) s = fileAll origin rs (filePlaceWant ⟨r.seat, r.cls, none, origin⟩ s) := rfl
    rcases filePlaceWant_cases ⟨r.seat, r.cls, none, origin⟩ s with ⟨out, -⟩ | ⟨-, live, heq⟩ | ⟨-, idle, heq⟩
    · exact absurd out h
    · obtain ⟨same, mem⟩ := fileAll_spec origin rs h
      rw [first, heq]
      refine ⟨same, fun w => ?_⟩
      rw [mem]
      have here : LiveClaim s r.seat := live
      refine or_congr (and_congr_right fun _ => ?_) (exists_congr fun x => ?_)
      · simp only [List.forall_mem_cons, iff_and_self]
        exact fun _ _ => here
      · rw [lastFor_cons]
        refine and_congr_left fun hx => ⟨.inl, fun hor => hor.resolve_right ?_⟩
        rintro ⟨rfl, -⟩
        exact hx.1 here
    · have here : ¬ LiveClaim s r.seat := fun ⟨c, hc, hseat, hst⟩ => hst (idle c hc hseat)
      obtain ⟨same, mem⟩ := fileAll_spec origin rs (s := filePlaceWant ⟨r.seat, r.cls, none, origin⟩ s)
        (by rw [heq]; exact h)
      have live : ∀ a, LiveClaim (filePlaceWant ⟨r.seat, r.cls, none, origin⟩ s) a ↔ LiveClaim s a := fun a => by
        rw [heq]
        exact Iff.rfl
      rw [first]
      refine ⟨same.trans (by rw [heq]), fun w => ?_⟩
      rw [mem]
      simp only [live]
      have filed : w ∈ (filePlaceWant ⟨r.seat, r.cls, none, origin⟩ s).claims.placeWants ↔
          (w ∈ s.claims.placeWants ∧ w.seat ≠ r.seat) ∨ w = ⟨r.seat, r.cls, none, origin⟩ := by
        rw [heq]
        simp
      rw [filed]
      simp only [lastFor_cons, List.forall_mem_cons]
      constructor
      · rintro (⟨⟨hw, hne⟩ | rfl, hrs⟩ | ⟨x, hx, hxl, rfl⟩)
        · exact .inl ⟨hw, fun heq => absurd heq.symm hne, hrs⟩
        · exact .inr ⟨r, .inr ⟨rfl, fun y hy hys => here (hys ▸ hrs y hy hys)⟩, here, rfl⟩
        · exact .inr ⟨x, .inl hx, hxl, rfl⟩
      · rintro (⟨hw, hr, hrs⟩ | ⟨x, hx | ⟨rfl, hx⟩, hxl, rfl⟩)
        · exact .inl ⟨.inl ⟨hw, fun heq => here (hr heq.symm)⟩, hrs⟩
        · exact .inr ⟨x, hx, hxl, rfl⟩
        · exact .inl ⟨.inr rfl, fun y hy hys => absurd hys (hx y hy)⟩

/-! ### The four commands -/

section
variable (s : State)

theorem closeMics_counted : closeMics (fun m => counted m.cls) s = { s with floor := { s.floor with
    mics := s.floor.mics.map (fun m => if m.cls ≤ 1 then { m with phase := .closing } else m) } } := by
  simp only [closeMics, closed_eq, counted, decide_eq_true_iff]

theorem mem_mutedSeats (q : Nat) : q ∈ mutedSeats s ↔ (∃ w ∈ s.claims.placeWants, w.cls ≤ 1 ∧ w.seat = q) ∨
    ∃ c ∈ s.claims.places, isIntent c.stage = true ∧ c.cls ≤ 1 ∧ c.seat = q := by
  simp [mutedSeats, counted, and_assoc]

theorem actPriorityMute_eq : actPriorityMute s =
    let muted := withdrawSeats false (mutedSeats s) (closeMics (fun m => counted m.cls) s)
    if (context s).clearOnMute then clearRequests muted else muted := by
  have seats : mutedSeats (closeMics (fun m => counted m.cls) s) = mutedSeats s := rfl
  simp only [actPriorityMute, foldl_withdrawSeat, seats]

end

/-- After a PriorityMute no want of class 0..1 stands, and no live Intent. -/
theorem muted_claims (s : State) :
    (∀ w ∈ (withdrawSeats false (mutedSeats s) s).claims.placeWants, 2 ≤ w.cls) ∧
    (∀ c ∈ (withdrawSeats false (mutedSeats s) s).claims.places, c.cls ≤ 1 → isLiveIntent c.stage = false) ∧
    (∀ w ∈ s.claims.placeWants, 2 ≤ w.cls → w ∈ (withdrawSeats false (mutedSeats s) s).claims.placeWants) ∧
    (∀ c ∈ s.claims.places, 2 ≤ c.cls → c ∈ (withdrawSeats false (mutedSeats s) s).claims.places) := by
  refine ⟨fun w hw => ?_, fun c hc hcls => ?_, fun w hw hcls => ?_, fun c hc hcls => ?_⟩
  · obtain ⟨hw, stays⟩ := List.mem_filter.mp hw
    by_contra low
    have listed : w.seat ∈ mutedSeats s := (mem_mutedSeats s _).mpr (.inl ⟨w, hw, by omega, rfl⟩)
    have : w.cls ≤ 1 := by omega
    simp [listed, counted, this] at stays
  · obtain ⟨k, hk, rfl⟩ := List.mem_map.mp hc
    by_contra live
    obtain ⟨out, live⟩ := live_markIf (by simpa using live)
    have intent : isIntent k.stage = true := by cases hs : k.stage <;> simp [hs, isLiveIntent, isIntent] at live ⊢
    have low : k.cls ≤ 1 := by simpa using hcls
    have listed : k.seat ∈ mutedSeats s := (mem_mutedSeats s _).mpr (.inr ⟨k, hk, intent, low, rfl⟩)
    simp [listed, counted, low] at out
  · have high : counted w.cls = false := decide_eq_false (by omega)
    exact List.mem_filter.mpr ⟨hw, by simp [high]⟩
  · have high : counted c.cls = false := decide_eq_false (by omega)
    exact List.mem_map.mpr ⟨c, hc, markIf_of_false (by simp [high])⟩

/-- Clearing the request list takes wants out, and marks claims. -/
theorem clearRequests_claims (s : State) : (∀ w ∈ (clearRequests s).claims.placeWants, w ∈ s.claims.placeWants) ∧
    ∀ c ∈ (clearRequests s).claims.places, ∃ k ∈ s.claims.places, c.cls = k.cls ∧ c.seat = k.seat ∧
      (isLiveIntent c.stage = true → isLiveIntent k.stage = true) := by
  rw [clearRequests_eq]
  refine ⟨fun w hw => (List.mem_filter.mp hw).1, fun c hc => ?_⟩
  obtain ⟨k, hk, rfl⟩ := List.mem_map.mp hc
  exact ⟨k, hk, by simp, by simp, fun h => (live_markIf h).2⟩

theorem actPriorityMute_spec (s : State) :
    (actPriorityMute s).floor.mics = s.floor.mics.map (fun m => if m.cls ≤ 1 then { m with phase := .closing } else m) ∧
    (∀ w ∈ (actPriorityMute s).claims.placeWants, 2 ≤ w.cls) ∧
    (∀ c ∈ (actPriorityMute s).claims.places, c.cls ≤ 1 → isLiveIntent c.stage = false) ∧
    ((context s).clearOnMute = true → (actPriorityMute s).floor.requests = []) ∧
    ((context s).clearOnMute = false → (actPriorityMute s).floor.requests = s.floor.requests ∧
      (∀ w ∈ s.claims.placeWants, 2 ≤ w.cls → w ∈ (actPriorityMute s).claims.placeWants) ∧
      ∀ c ∈ s.claims.places, 2 ≤ c.cls → c ∈ (actPriorityMute s).claims.places) := by
  obtain ⟨wants, places, keptWants, keptPlaces⟩ := muted_claims (closeMics (fun m => counted m.cls) s)
  have mics : (closeMics (fun m => counted m.cls) s).floor.mics =
      s.floor.mics.map (fun m => if m.cls ≤ 1 then { m with phase := .closing } else m) := by rw [closeMics_counted]
  have seats : mutedSeats (closeMics (fun m => counted m.cls) s) = mutedSeats s := rfl
  rw [seats] at wants places keptWants keptPlaces
  rw [actPriorityMute_eq]
  cases hclear : (context s).clearOnMute with
  | false => exact ⟨mics, wants, places, by simp, fun _ => ⟨rfl, keptWants, keptPlaces⟩⟩
  | true =>
    obtain ⟨fewer, marked⟩ := clearRequests_claims
      (withdrawSeats false (mutedSeats s) (closeMics (fun m => counted m.cls) s))
    refine ⟨?_, fun w hw => wants w (fewer w hw), fun c hc hcls => ?_, fun _ => ?_, by simp⟩
    · rw [if_pos rfl, clearRequests_eq]
      exact mics
    · obtain ⟨k, hk, hkc, -, hlive⟩ := marked c hc
      have := places k hk (hkc ▸ hcls)
      cases h : isLiveIntent c.stage with
      | false => rfl
      | true => rw [hlive h] at this; cases this
    · rw [if_pos rfl, clearRequests_eq]
      rfl

/-- CancelAll, written out. -/
theorem actCancelAll_eq (s : State) : actCancelAll s = { s with floor := { s.floor with requests := [] }, claims := { s.claims with
    placeWants := s.claims.placeWants.filter (fun w => ¬ ∃ r ∈ s.floor.requests, r.seat = w.seat)
    places := s.claims.places.map (fun c =>
      if (∃ r ∈ s.floor.requests, r.seat = c.seat) ∧ c.stage ≠ .hold then { c with stage := .intent true } else c) } } := by
  have listed : ∀ q, (s.floor.requests.map (·.seat)).contains q = true ↔ ∃ r ∈ s.floor.requests, r.seat = q := fun q => by
    simp
  have wants : s.claims.placeWants.filter (fun w => !((s.floor.requests.map (·.seat)).contains w.seat &&
      (true || counted w.cls))) = s.claims.placeWants.filter (fun w => ¬ ∃ r ∈ s.floor.requests, r.seat = w.seat) :=
    List.filter_congr fun w _ => by
      rw [Bool.true_or, Bool.and_true, Bool.eq_iff_iff, decide_eq_true_iff, ← listed, Bool.not_eq_true',
        Bool.not_eq_true]
  have places : s.claims.places.map (markIf (fun c => (s.floor.requests.map (·.seat)).contains c.seat &&
      (true || counted c.cls))) = s.claims.places.map (fun c =>
        if (∃ r ∈ s.floor.requests, r.seat = c.seat) ∧ c.stage ≠ .hold then { c with stage := .intent true } else c) :=
    List.map_congr_left fun c _ => by
      rw [markIf_eq]
      simp only [Bool.true_or, Bool.and_true, listed]
  rw [actCancelAll, clearRequests_eq]
  simp only [withdrawSeats, wants, places]

theorem actSetFloorLevel_of_refused {s : State} {v : Nat}
    (h : s.room.head ≠ s.station.number ∨ 3 < v ∨ s.floor.level = v) : actSetFloorLevel v s = s := by
  refine if_neg ?_
  simp only [Bool.and_eq_true, decide_eq_true_iff, bne_iff_ne]
  rintro ⟨⟨hhead, hv⟩, hne⟩
  rcases h with h | h | h
  · exact h hhead
  · omega
  · exact hne h

theorem actSetFloorLevel_level {s : State} {v : Nat} (law : RoomLaw s) (hm : s.room.members = membershipOf s)
    (hhead : s.room.head = s.station.number) (hv : v ≤ 3) : (actSetFloorLevel v s).floor.level = v := by
  by_cases same : s.floor.level = v
  · rw [actSetFloorLevel_of_refused (.inr (.inr same)), same]
  · obtain ⟨-, -, -, least, -⟩ := law
    have members : membershipOf { s with floor := { s.floor with level := v } } = s.room.members :=
      (membershipOf_congr rfl rfl rfl).trans hm.symm
    obtain ⟨mem, low⟩ := headOf_spec s s.room.members
    have head : headOf s s.room.members = s.station.number := by
      have below := low _ List.mem_cons_self
      rcases List.mem_cons.mp mem with h | h
      · exact h
      · have := least _ h
        omega
    have acts : actSetFloorLevel v s = recompute { s with floor := { s.floor with level := v } } :=
      if_pos (by simp [hhead, hv, same])
    rw [acts, recompute_level]
    simp only [recomposed, members]
    exact if_pos head

theorem actGrantNext_spec {s : State} (h : s.station.state ≠ .unconfigured) (c : Nat) :
    let granted := ((roomRanking s).take (if c = 0 then 6 else c)).filter (fun r => r.station = s.station.number)
    actGrantNext c s = { s with claims := { s.claims with placeWants := (actGrantNext c s).claims.placeWants } } ∧
    (∀ r ∈ granted, (∃ x ∈ s.claims.places, x.seat = r.seat ∧ x.stage ≠ .intent true) ∨
      ∃ w ∈ (actGrantNext c s).claims.placeWants, w.seat = r.seat ∧ w.displaced = none ∧ w.origin = .grantNext) ∧
    (∀ w ∈ s.claims.placeWants, (∀ r ∈ granted, r.seat ≠ w.seat) → w ∈ (actGrantNext c s).claims.placeWants) ∧
    ∀ w ∈ (actGrantNext c s).claims.placeWants, w ∈ s.claims.placeWants ∨ w.displaced = none ∧ w.origin = .grantNext ∧
      ∃ r ∈ granted, r.seat = w.seat ∧ r.cls = w.cls := by
  intro granted
  have filed : actGrantNext c s = fileAll .grantNext granted s := wantRanked_eq _ _ s
  obtain ⟨same, mem⟩ := fileAll_spec .grantNext granted h
  rw [filed]
  refine ⟨same, fun r hr => ?_, fun w hw none => ?_, fun w hw => ?_⟩
  · by_cases live : LiveClaim s r.seat
    · exact .inl live
    · obtain ⟨x, last, hseat⟩ := exists_lastFor hr
      exact .inr ⟨_, (mem _).mpr (.inr ⟨x, last, by rwa [hseat], rfl⟩), hseat, rfl, rfl⟩
  · exact (mem w).mpr (.inl ⟨hw, fun r hr hs => absurd hs (none r hr)⟩)
  · rcases (mem w).mp hw with ⟨hw, -⟩ | ⟨r, last, -, rfl⟩
    · exact .inl hw
    · exact .inr ⟨rfl, rfl, r, last.mem, rfl, rfl⟩

/-! ### The command test -/

theorem testsCommand_iff (s : State) (t : Nat) (a : Announcement) : testsCommand s t a = true ↔
    s.station.state = .running ∧ t ∈ s.room.members ∧ s.room.lastSeen.getD t none ≠ some a.sequence := by
  simp [testsCommand, isMember, and_assoc]

theorem getD_eq_some_iff_getElem? {l : List (Option Nat)} {t : Nat} (n : Nat) :
    l.getD t none = some n ↔ l[t]? = some (some n) := by
  rw [List.getD_eq_getElem?_getD]
  cases l[t]? <;> simp

theorem recompute_lastSeen_length (s : State) : (recompute s).room.lastSeen.length = s.room.lastSeen.length := by
  simp only [recompute, presentContextChange_keeps]
  split <;> simp [presentMembership, markNewcomers]

theorem actOn_lastSeen_length (c : RoomCommand) (s : State) :
    (actOn c s).room.lastSeen.length = s.room.lastSeen.length := by
  unfold actOn
  split
  · simp
  · simp
  · simp
  · unfold actSetFloorLevel
    split
    · exact recompute_lastSeen_length _
    · rfl

theorem commandTest_of_tests {s : State} {t : Nat} {a : Announcement} {c : RoomCommand} (hc : a.command = some c)
    (h : testsCommand s t a = true) : commandTest t a s = { actOn c s with room := { (actOn c s).room with
      lastSeen := (actOn c s).room.lastSeen.set t (some a.sequence) } } := by
  simp only [commandTest, hc, if_pos h]

theorem commandTest_of_not_tests {s : State} {t : Nat} {a : Announcement}
    (h : a.command = none ∨ testsCommand s t a = false) : commandTest t a s = { s with room := { s.room with
      lastSeen := s.room.lastSeen.set t (some a.sequence) } } := by
  cases hc : a.command with
  | none => simp only [commandTest, hc]
  | some c =>
    have out : testsCommand s t a = false := h.resolve_left (by simp [hc])
    simp only [commandTest, hc, out]
    rfl

theorem commandTest_lastSeen {s : State} {t : Nat} (a : Announcement) (ht : t < s.room.lastSeen.length) :
    (commandTest t a s).room.lastSeen[t]? = some (some a.sequence) := by
  simp only [commandTest]
  repeat' split
  · simp [actOn_lastSeen_length, ht]
  · simp [ht]
  · simp [ht]

/-- The command test takes an announcement it has seen as no news. -/
theorem commandTest_idem {u : State} {t : Nat} {a : Announcement} (h : u.room.lastSeen[t]? = some (some a.sequence)) :
    commandTest t a u = u := by
  have seen : testsCommand u t a = false := by
    rw [← Bool.not_eq_true, testsCommand_iff, ne_eq, getD_eq_some_iff_getElem?]
    exact fun ⟨_, _, hn⟩ => hn h
  have same : u.room.lastSeen.set t (some a.sequence) = u.room.lastSeen := by
    obtain ⟨ht, heq⟩ := List.getElem?_eq_some_iff.mp h
    rw [← heq, List.set_getElem_self]
  rw [commandTest_of_not_tests (.inr seen), same]

/-! ### Own slot and arrival -/

theorem exec_ownSlot {s : State} (live : Live s) (conf : s.station.state ≠ .unconfigured) :
    exec .ownSlot s = .next (evalDemand (retireCommand (compose (sourceStep
      (claimWork (markedLanes s) (deskConflictStep (roomCommandWork s))))))) := by
  rw [exec_of_live _ s live]
  simp only [liveEffect, ownSlotOp, if_neg conf]

theorem roomCommandWork_idle {s : State} (h : s.station.state = .joining ∨ s.room.current = none ∧ s.room.queue = []) :
    roomCommandWork s = s := by
  unfold roomCommandWork
  rcases h with h | ⟨hc, hq⟩
  · simp only [h]
  · simp only [hc, hq]
    split <;> rfl

theorem roomCommandWork_current {s : State} (conf : s.station.state ≠ .unconfigured) (on : s.station.state ≠ .joining)
    {c : CurrentCommand} (hc : s.room.current = some c) :
    roomCommandWork s = { s with room := { s.room with current := some { c with repeats := c.repeats + 1 } } } := by
  unfold roomCommandWork
  simp only [hc]
  split <;> simp_all

theorem roomCommandWork_front {s : State} (conf : s.station.state ≠ .unconfigured) (on : s.station.state ≠ .joining)
    {c : RoomCommand} (hc : s.room.current = none) (hq : s.room.queue.head? = some c) : roomCommandWork s =
      actOn c { s with room := { s.room with
        counter := (s.room.counter + 1) % 16, current := some ⟨(s.room.counter + 1) % 16, 1⟩ } } := by
  obtain ⟨rest, hq⟩ := List.head?_eq_some_iff.mp hq
  unfold roomCommandWork
  simp only [hc]
  rw [hq]
  split
  · simp only [makeCurrent, hq]
  · simp only [makeCurrent, hq]
  · next h => exact absurd h on
  · next h => exact absurd h conf

/-- The noting of an announcement, written out. -/
theorem arrivalNoted_eq (t : Nat) (a : Announcement) (s : State) : arrivalNoted t a s = { s with
    peers := s.peers.set t (some ⟨0, 0, a⟩)
    room := { s.room with lastSeen := if (peerAt s t).any (fun e => e.content.epoch ≠ a.epoch)
      then s.room.lastSeen.set t none else s.room.lastSeen }
    booth := { s.booth with left := (arrivalNoted t a s).booth.left }
    port := { s.port with flags := (arrivalNoted t a s).port.flags } } := by
  have epoch : epochDiffers (peerAt s t) a = (peerAt s t).any (fun e => e.content.epoch ≠ a.epoch) := by
    unfold epochDiffers
    cases peerAt s t <;> simp [bne, beq_eq_decide]
  rw [← epoch]
  simp only [arrivalNoted, noteLeft, raiseIf]
  cases epochDiffers (peerAt s t) a <;> cases peerDiffers (peerAt s t) a <;> cases isMember s t <;> rfl

/-- The mismatch test, written out. -/
theorem mismatchTest_eq (t : Nat) (a : Announcement) (s : State) : mismatchTest t a s = { s with
    room := { s.room with marks := (mismatchTest t a s).room.marks }
    port := { s.port with flags := (mismatchTest t a s).port.flags } } := by
  simp only [mismatchTest, raiseIf]
  repeat' split
  all_goals rfl

/-- Settles O36. -/
theorem roomCommandsAct : Obligations.RoomCommandsAct := by
  unfold Obligations.RoomCommandsAct
  refine ⟨⟨fun s _ => actPriorityMute_spec s, fun s _ => actCancelAll_eq s, fun s v h => actSetFloorLevel_of_refused h,
    fun s v law _ hm hhead hv => actSetFloorLevel_level law hm hhead hv, fun s c h => actGrantNext_spec h c⟩,
    fun s t a ht => ?_, fun s live conf => ?_, fun s t frames a live link closed other valid => ?_⟩
  · have seen := commandTest_lastSeen a ht
    refine ⟨seen, commandTest_idem seen, fun c hc run mem news => commandTest_of_tests hc ?_,
      fun h => commandTest_of_not_tests (h.imp_right fun h => ?_)⟩
    · rw [testsCommand_iff, ne_eq, getD_eq_some_iff_getElem?]
      exact ⟨run, mem, news⟩
    · rw [← Bool.not_eq_true, testsCommand_iff, ne_eq, getD_eq_some_iff_getElem?]
      rintro ⟨run, mem, news⟩
      rcases h with h | h | h
      · exact h run
      · exact h mem
      · exact news h
  · exact ⟨roomCommandWork_idle, fun on => ⟨fun c hc => roomCommandWork_current conf on hc,
      fun c hc hq => roomCommandWork_front conf on hc hq⟩, exec_ownSlot live conf⟩
  · refine ⟨arrivalNoted t a (takeSlot s), arrivalAdmitted t a (takeSlot s), arrivalNoted_eq t a (takeSlot s), ?_, ?_⟩
    · exact mismatchTest_eq t a (recompute (arrivalNoted t a (takeSlot s)))
    · rw [exec_slotClose_of_valid live link closed other valid, peerArrival_eq]

end Sys2Proof.Machine
end

section

/-! SUPPORT. What a change of context makes of floor, wants, claims and pending sources. -/

namespace Sys2Proof.Machine

section
variable (b a : Context) (s : State)

/-- A change of mode alone withdraws what displaces this and belongs to this seat. -/
def contextGone (d : Option Named) (q : Nat) : Bool :=
  (overrideLeft b a && d.isSome) || (queueLeft b a && (s.floor.requests.map (·.seat)).contains q)

/-- The state in which the changes of mode and of interlock are done. -/
def contextCleared : State :=
  if queueLeft b a then clearRequests (claimsAtContext b a s) else claimsAtContext b a s

/-- The seats that a rise of the level leaves with a pending claim below it. -/
def belowSeats : List Nat := if b.level < a.level then pendingBelow (contextCleared b a s) a.level else []

theorem contextGone_iff (d : Option Named) (q : Nat) : contextGone b a s d q = true ↔
    (b.mode = .override ∧ a.mode ≠ .override) ∧ d ≠ none ∨
    (b.mode = .queue ∧ a.mode ≠ .queue) ∧ ∃ r ∈ s.floor.requests, r.seat = q := by
  simp [contextGone, overrideLeft_iff, queueLeft_iff, Option.isSome_iff_ne_none]

theorem contextCleared_wants : (contextCleared b a s).claims.placeWants =
    s.claims.placeWants.filter (fun w => !contextGone b a s w.displaced w.seat) := by
  unfold contextCleared contextGone
  cases queueLeft b a with
  | false => simp [claimsAtContext_eq]
  | true =>
    rw [if_pos rfl, clearRequests_eq, claimsAtContext_eq]
    simp only [withdrawSeats, List.filter_filter]
    exact List.filter_congr fun w _ => by simp [Bool.not_or, Bool.and_comm]

theorem contextCleared_places : (contextCleared b a s).claims.places =
    s.claims.places.map (markIf (fun c => contextGone b a s c.displaced c.seat)) := by
  unfold contextCleared contextGone
  cases queueLeft b a with
  | false => simp [claimsAtContext_eq]
  | true =>
    rw [if_pos rfl, clearRequests_eq, claimsAtContext_eq]
    simp only [withdrawSeats, List.map_map, Function.comp_def, markIf_markIf, Bool.true_or, Bool.and_true, Bool.true_and]

theorem mem_belowSeats (q : Nat) : q ∈ belowSeats b a s ↔ b.level < a.level ∧
    ((∃ w ∈ s.claims.placeWants, contextGone b a s w.displaced w.seat = false ∧ w.cls < a.level ∧ w.seat = q) ∨
      ∃ c ∈ s.claims.places, contextGone b a s c.displaced c.seat = false ∧ isLiveIntent c.stage = true ∧
        c.cls < a.level ∧ c.seat = q) := by
  have places : (∃ k ∈ (contextCleared b a s).claims.places, (isLiveIntent k.stage = true ∧ k.cls < a.level) ∧ k.seat = q) ↔
      ∃ c ∈ s.claims.places, contextGone b a s c.displaced c.seat = false ∧ isLiveIntent c.stage = true ∧
        c.cls < a.level ∧ c.seat = q := by
    rw [contextCleared_places]
    simp only [List.mem_map, exists_exists_and_eq_and, markIf_fields]
    refine exists_congr fun c => and_congr_right fun _ => ⟨fun ⟨⟨live, low⟩, seat⟩ => ?_, fun ⟨stays, live, low, seat⟩ => ?_⟩
    · exact ⟨(live_markIf live).1, (live_markIf live).2, low, seat⟩
    · rw [markIf_of_false stays]
      exact ⟨⟨live, low⟩, seat⟩
  unfold belowSeats
  split
  · next rises =>
    simp only [rises, true_and, pendingBelow, List.mem_append, List.mem_map, List.mem_filter, Bool.and_eq_true,
      decide_eq_true_iff, and_assoc] at places ⊢
    refine or_congr ?_ places
    simp only [contextCleared_wants, List.mem_filter, Bool.not_eq_true', and_assoc]
  · next h => simp [h]

theorem floorAtContext_eq : floorAtContext b a (claimsAtContext b a s) = if b.level < a.level then
    withdrawSeats true (belowSeats b a s) (closeMics (fun m => m.cls < a.level) (contextCleared b a s))
    else contextCleared b a s := by
  have first : (if b.mode = .queue && a.mode != .queue then clearRequests (claimsAtContext b a s)
      else claimsAtContext b a s) = contextCleared b a s := rfl
  simp only [floorAtContext, first]
  split
  · next rises => rw [foldl_withdrawSeat, belowSeats, if_pos rises]
  · rfl

theorem presentContext_wants : (presentContext b a s).claims.placeWants = s.claims.placeWants.filter
    (fun w => !contextGone b a s w.displaced w.seat && !(belowSeats b a s).contains w.seat) := by
  have out : (presentContext b a s).claims = (floorAtContext b a (claimsAtContext b a s)).claims := rfl
  rw [out, floorAtContext_eq]
  split
  · simp only [withdrawSeats, Bool.true_or, Bool.and_true]
    rw [show (closeMics (fun m => decide (m.cls < a.level)) (contextCleared b a s)).claims =
      (contextCleared b a s).claims from rfl, contextCleared_wants, List.filter_filter]
    exact List.filter_congr fun w _ => Bool.and_comm _ _
  · next h =>
    rw [contextCleared_wants]
    simp [belowSeats, h]

theorem presentContext_places : (presentContext b a s).claims.places = s.claims.places.map
    (markIf (fun c => contextGone b a s c.displaced c.seat || (belowSeats b a s).contains c.seat)) := by
  have out : (presentContext b a s).claims = (floorAtContext b a (claimsAtContext b a s)).claims := rfl
  rw [out, floorAtContext_eq]
  split
  · simp only [withdrawSeats, Bool.true_or, Bool.and_true]
    rw [show (closeMics (fun m => decide (m.cls < a.level)) (contextCleared b a s)).claims =
      (contextCleared b a s).claims from rfl, contextCleared_places]
    simp only [List.map_map, Function.comp_def, markIf_markIf]
  · next h =>
    rw [contextCleared_places]
    simp [belowSeats, h]

theorem contextCleared_floor : (contextCleared b a s).floor =
    { s.floor with requests := if queueLeft b a then [] else s.floor.requests } := by
  unfold contextCleared
  cases queueLeft b a with
  | false => simp
  | true =>
    rw [if_pos rfl, clearRequests_eq]
    simp [withdrawSeats]

theorem presentContext_floor : (presentContext b a s).floor = { s.floor with
    requests := if queueLeft b a then [] else s.floor.requests
    mics := s.floor.mics.map (fun m => if b.level < a.level ∧ m.cls < a.level then { m with phase := .closing } else m) } := by
  have out : (presentContext b a s).floor = (floorAtContext b a (claimsAtContext b a s)).floor := rfl
  rw [out, floorAtContext_eq]
  split
  · next rises =>
    simp only [withdrawSeats, closeMics, contextCleared_floor, closed_eq, rises, true_and, decide_eq_true_iff]
  · next h =>
    rw [contextCleared_floor]
    simp [h]

theorem presentContext_languages :
    (presentContext b a s).claims.languageWants =
      s.claims.languageWants.filter (fun w => !(takeoverRefused b a && w.displaced.isSome)) ∧
    (presentContext b a s).claims.languages = s.claims.languages.map (fun c =>
      if takeoverRefused b a && c.displaced.isSome then { c with stage := markStage c.stage } else c) := by
  have out : (presentContext b a s).claims = (floorAtContext b a (claimsAtContext b a s)).claims := rfl
  rw [out]
  simp only [floorAtContext_fields, claimsAtContext_eq, and_self]

end

/-! ### The parts of a change of context -/

section
variable {b a : Context} {s : State}

/-- After a rise no live Intent below the level stands. -/
theorem presentContext_no_live_below (rises : b.level < a.level) : ∀ c ∈ (presentContext b a s).claims.places,
    c.cls < a.level → isLiveIntent c.stage = false := by
  intro c hc low
  rw [presentContext_places] at hc
  obtain ⟨k, hk, rfl⟩ := List.mem_map.mp hc
  by_contra live
  obtain ⟨stays, live⟩ := live_markIf (by simpa using live)
  rw [Bool.or_eq_false_iff] at stays
  have listed : k.seat ∈ belowSeats b a s :=
    (mem_belowSeats b a s _).mpr ⟨rises, .inr ⟨k, hk, stays.1, live, by simpa using low, rfl⟩⟩
  simp [listed] at stays

theorem presentContext_no_want_below (rises : b.level < a.level) : ∀ w ∈ (presentContext b a s).claims.placeWants,
    a.level ≤ w.cls := by
  intro w hw
  rw [presentContext_wants] at hw
  obtain ⟨hw, stays⟩ := List.mem_filter.mp hw
  simp only [Bool.and_eq_true, Bool.not_eq_true'] at stays
  by_contra low
  have listed : w.seat ∈ belowSeats b a s :=
    (mem_belowSeats b a s _).mpr ⟨rises, .inl ⟨w, hw, stays.1, by omega, rfl⟩⟩
  simp [listed] at stays

theorem presentContext_no_pending_left (left : queueLeft b a = true) : ∀ r ∈ s.floor.requests,
    pendingPlace (presentContext b a s) r.seat = false := by
  intro r hr
  have gone : ∀ d, contextGone b a s d r.seat = true := fun d =>
    (contextGone_iff b a s d _).mpr (.inr ⟨(queueLeft_iff b a).mp left, r, hr, rfl⟩)
  refine (pendingPlace_eq_false_iff _ _).mpr ⟨fun w hw hs => ?_, fun c hc hs => ?_⟩
  · rw [presentContext_wants] at hw
    have stays := (List.mem_filter.mp hw).2
    simp [hs, gone] at stays
  · rw [presentContext_places] at hc
    obtain ⟨k, -, rfl⟩ := List.mem_map.mp hc
    by_contra live
    obtain ⟨stays, -⟩ := live_markIf (by simpa using live)
    have seat : k.seat = r.seat := by simpa using hs
    simp [seat, gone] at stays

theorem presentContext_no_override_left (left : overrideLeft b a = true) :
    (∀ w ∈ (presentContext b a s).claims.placeWants, w.displaced = none) ∧
    ∀ c ∈ (presentContext b a s).claims.places, c.displaced ≠ none → isLiveIntent c.stage = false := by
  have gone : ∀ d q, d ≠ none → contextGone b a s d q = true := fun d q hd =>
    (contextGone_iff b a s d q).mpr (.inl ⟨(overrideLeft_iff b a).mp left, hd⟩)
  refine ⟨fun w hw => ?_, fun c hc hd => ?_⟩
  · rw [presentContext_wants] at hw
    have stays := (List.mem_filter.mp hw).2
    by_contra hd
    simp [gone _ _ hd] at stays
  · rw [presentContext_places] at hc
    obtain ⟨k, -, rfl⟩ := List.mem_map.mp hc
    by_contra live
    obtain ⟨stays, -⟩ := live_markIf (by simpa using live)
    rw [gone _ _ (by simpa using hd)] at stays
    simp at stays

/-- The seats whose claims a change of context may touch. -/
def TouchedSeat (b a : Context) (s : State) (q : Nat) : Prop :=
  ((b.mode = .queue ∧ a.mode ≠ .queue) ∧ ∃ r ∈ s.floor.requests, r.seat = q) ∨
    (b.level < a.level ∧ ((∃ w ∈ s.claims.placeWants, w.seat = q ∧ w.cls < a.level) ∨
      ∃ c ∈ s.claims.places, c.seat = q ∧ isLiveIntent c.stage = true ∧ c.cls < a.level))

theorem untouched_stays {d : Option Named} {q : Nat} (calm : ¬ TouchedSeat b a s q)
    (kept : ¬ ((b.mode = .override ∧ a.mode ≠ .override) ∧ d ≠ none)) :
    contextGone b a s d q = false ∧ (belowSeats b a s).contains q = false := by
  refine ⟨?_, ?_⟩
  · rw [← Bool.not_eq_true, contextGone_iff]
    exact fun h => h.elim kept fun hq => calm (.inl hq)
  · rw [List.contains_eq_mem, decide_eq_false_iff_not, mem_belowSeats]
    rintro ⟨rises, ⟨w, hw, -, low, seat⟩ | ⟨c, hc, -, live, low, seat⟩⟩
    · exact calm (.inr ⟨rises, .inl ⟨w, hw, seat, low⟩⟩)
    · exact calm (.inr ⟨rises, .inr ⟨c, hc, seat, live, low⟩⟩)

theorem presentContext_kept_want {w : PlaceWant} (hw : w ∈ s.claims.placeWants) (calm : ¬ TouchedSeat b a s w.seat)
    (kept : ¬ ((b.mode = .override ∧ a.mode ≠ .override) ∧ w.displaced ≠ none)) :
    w ∈ (presentContext b a s).claims.placeWants := by
  obtain ⟨h1, h2⟩ := untouched_stays calm kept
  rw [presentContext_wants]
  exact List.mem_filter.mpr ⟨hw, by rw [h1, h2]; rfl⟩

theorem presentContext_kept_place {c : PlaceClaim} (hc : c ∈ s.claims.places)
    (h : c.stage = .hold ∨ ¬ TouchedSeat b a s c.seat ∧
      ¬ ((b.mode = .override ∧ a.mode ≠ .override) ∧ c.displaced ≠ none)) :
    c ∈ (presentContext b a s).claims.places := by
  rw [presentContext_places]
  refine List.mem_map.mpr ⟨c, hc, ?_⟩
  rcases h with hold | ⟨calm, kept⟩
  · exact markIf_of_hold hold
  · obtain ⟨h1, h2⟩ := untouched_stays calm kept
    exact markIf_of_false (by rw [h1, h2]; rfl)

/-- Working the sources out changes nothing that Auto resolves by. -/
theorem resolveAuto_workOutSources (u : State) (d : Desk) : resolveAuto (workOutSources u) d = resolveAuto u d :=
  resolveAuto_congr (t := workOutSources u) (s := u) rfl rfl
    (hasHolder_congr (by simp [workOutSources, Function.comp_def]) rfl) rfl rfl

/-- Of the desks a change of context works out the pending source alone. -/
theorem presentContext_desks : (presentContext b a s).booth.desks = s.booth.desks.map (fun d => { d with
    pendingSource := match d.relay with
      | .floor => .floor
      | .language l => .language l
      | .auto => resolveAuto (presentContext b a s) d }) := by
  have desks : (floorAtContext b a (claimsAtContext b a s)).booth.desks = s.booth.desks := by simp
  simp only [presentContext, resolveAuto_workOutSources]
  rw [workOutSources, desks]
  refine List.map_congr_left fun d _ => ?_
  unfold sourceOf
  cases d.relay <;> rfl

theorem presentContext_rest : presentContext b a s = { s with
    floor := (presentContext b a s).floor, claims := (presentContext b a s).claims
    booth := { s.booth with desks := (presentContext b a s).booth.desks } } := by
  have booth : (presentContext b a s).booth = { s.booth with desks := (presentContext b a s).booth.desks } := by
    simp [presentContext, workOutSources]
  rw [State.eq_iff]
  simp only [presentContext_keeps, ← booth, and_self]

end

/-! ### A recomputation -/

section
variable (s : State)

/-- The state after a recomputation has presented its membership, before it presents a change of context. -/
def membershipPresented : State :=
  if membershipOf s = s.room.members then recomposed s else presentMembership s.room.members (recomposed s)

theorem recompute_eq : recompute s =
    presentContextChange s.room.adopted (adoptedUnder s (headOf s (membershipOf s))) (membershipPresented s) := rfl

theorem membershipPresented_eq : membershipPresented s = { s with
    room := { s.room with members := membershipOf s, head := headOf s (membershipOf s)
                          adopted := adoptedUnder s (headOf s (membershipOf s))
                          lastSeen := (membershipPresented s).room.lastSeen }
    floor := { s.floor with level := (recomposed s).floor.level }
    lanes := (membershipPresented s).lanes
    claims := { s.claims with lanes := (membershipPresented s).claims.lanes }
    port := { s.port with flags := (membershipPresented s).port.flags } } := by
  unfold membershipPresented
  split
  · rfl
  · unfold presentMembership claimsAtMembership
    split <;> rfl

theorem recompute_of_context_change {before after : Context} (hb : s.room.adopted = some before)
    (ha : adoptedUnder s (headOf s (membershipOf s)) = some after) (hne : before ≠ after) :
    recompute s = presentContext before after (membershipPresented s) := by
  rw [recompute_eq, hb, ha, presentContextChange, if_neg hne.symm]

theorem recompute_of_same_context (h : s.room.adopted = none ∨ adoptedUnder s (headOf s (membershipOf s)) = none ∨
    s.room.adopted = adoptedUnder s (headOf s (membershipOf s))) : recompute s = membershipPresented s := by
  rw [recompute_eq]
  unfold presentContextChange
  split
  · next b a hb ha =>
    refine if_pos ?_
    rcases h with h | h | h
    · rw [hb] at h
      cases h
    · rw [ha] at h
      cases h
    · rw [hb, ha] at h
      exact (Option.some.inj h).symm
  · rfl

end

section
variable {s : State}

theorem membershipPresented_of_same (h : membershipOf s = s.room.members) : membershipPresented s = recomposed s := if_pos h

theorem membershipPresented_of_moved (h : membershipOf s ≠ s.room.members) :
    membershipPresented s = presentMembership s.room.members (recomposed s) := if_neg h

theorem membershipPresented_claims (h : membershipOf s ≠ s.room.members) :
    (2 ≤ (membershipOf s).length → (membershipPresented s).claims = s.claims) ∧
    ((membershipOf s).length < 2 → (membershipPresented s).claims.lanes = s.claims.lanes.map (fun c =>
      if c.stage = .hold then c else { c with stage := .intent true })) := by
  have claims : (membershipPresented s).claims = (claimsAtMembership (raise .roomChanged (recomposed s))).claims := by
    rw [membershipPresented_of_moved h]
    rfl
  have members : (raise .roomChanged (recomposed s)).room.members = membershipOf s := rfl
  refine ⟨fun many => ?_, fun few => ?_⟩
  · rw [claims, claimsAtMembership, if_neg (by rw [members]; omega)]
    rfl
  · rw [claims, claimsAtMembership, if_pos (by rw [members]; exact few)]
    refine List.map_congr_left fun c _ => ?_
    rw [markStage_eq]
    by_cases hold : c.stage = .hold
    · rw [if_pos hold, if_neg (by simp [hold])]
    · rw [if_neg hold, if_pos hold]

theorem membershipPresented_lastSeen (h : membershipOf s ≠ s.room.members) {t : Nat} (ht : t < s.room.lastSeen.length) :
    (∀ e, t ∈ membershipOf s ∧ t ∉ s.room.members ∧ t ≠ s.station.number → peerAt s t = some e →
      (membershipPresented s).room.lastSeen[t]? = some (some e.content.sequence)) ∧
    (¬ (t ∈ membershipOf s ∧ t ∉ s.room.members ∧ t ≠ s.station.number) ∨ peerAt s t = none →
      (membershipPresented s).room.lastSeen[t]? = s.room.lastSeen[t]?) := by
  have seen : (membershipPresented s).room.lastSeen = s.room.lastSeen.zipIdx.map (fun (seen, t) =>
      if (membershipOf s).contains t && !s.room.members.contains t && t != s.station.number then
        (match peerAt s t with
          | some e => some e.content.sequence
          | none => seen)
      else seen) := by
    rw [membershipPresented_of_moved h]
    unfold presentMembership claimsAtMembership
    split <;> rfl
  rw [seen]
  simp only [List.getElem?_map, List.getElem?_zipIdx, List.getElem?_eq_getElem ht, Option.map_some, Nat.zero_add]
  refine ⟨fun e ⟨mem, new, other⟩ he => ?_, fun hor => ?_⟩
  · rw [if_pos (by simp [mem, new, other]), he]
  · by_cases joins : t ∈ membershipOf s ∧ t ∉ s.room.members ∧ t ≠ s.station.number
    · have none := hor.resolve_left (not_not.mpr joins)
      rw [none]
      simp
    · rw [if_neg]
      simpa [and_assoc] using joins

end
end Sys2Proof.Machine
end

section

/-! PROOF for O35 (ContextChangeActsAtOnce). -/

namespace Sys2Proof.Machine

/-! ### The room ranking -/

/-- The room ranking holds the eligible requests of the station and of its members, each seat without a place intent. -/
theorem roomRanking_perm (s : State) : (roomRanking s).Perm
    ((s.floor.requests.filter (fun r => (context s).level ≤ r.cls ∧
        ∀ c ∈ s.claims.places, c.seat = r.seat → c.stage = .hold)).map
          (fun r => ⟨s.station.number, r.seat, r.cls, r.age⟩) ++
      (memberPeers s).flatMap (fun p => (p.2.content.requests.filter (fun r => (context s).level ≤ r.cls ∧
        ∀ m ∈ p.2.content.mics, m.seat = r.seat → m.phase ≠ .intent)).map
          (fun r => ⟨p.1, r.seat, r.cls, r.age⟩))) := by
  have hold : ∀ x : Stage, isIntent x = true ↔ x ≠ .hold := fun x => by cases x <;> simp [isIntent]
  have own : s.floor.requests.filter (fun r => !belowLevel s r.cls &&
      !s.claims.places.any (fun c => isIntent c.stage && c.seat == r.seat)) =
      s.floor.requests.filter (fun r => (context s).level ≤ r.cls ∧
        ∀ c ∈ s.claims.places, c.seat = r.seat → c.stage = .hold) := List.filter_congr fun r _ => by
    rw [Bool.eq_iff_iff, decide_eq_true_iff]
    simp only [Bool.and_eq_true, Bool.not_eq_true', belowLevel, decide_eq_false_iff_not, not_lt, List.any_eq_false, hold,
      beq_iff_eq, ne_eq]
    refine and_congr_right fun _ => forall₂_congr fun c _ => ?_
    tauto
  have others : ∀ p : Nat × PeerEntry, p.2.content.requests.filter (fun r => !belowLevel s r.cls &&
      !p.2.content.mics.any (fun m => m.phase == .intent && m.seat == r.seat)) =
      p.2.content.requests.filter (fun r => (context s).level ≤ r.cls ∧
        ∀ m ∈ p.2.content.mics, m.seat = r.seat → m.phase ≠ .intent) := fun p => List.filter_congr fun r _ => by
    rw [Bool.eq_iff_iff, decide_eq_true_iff]
    simp only [Bool.and_eq_true, Bool.not_eq_true', belowLevel, decide_eq_false_iff_not, not_lt, List.any_eq_false,
      beq_iff_eq, ne_eq]
    refine and_congr_right fun _ => forall₂_congr fun m _ => ?_
    tauto
  simp only [roomRanking, own, others]
  exact sortBy_perm _ _

theorem level_le_of_mem_roomRanking {s : State} {r : Ranked} (h : r ∈ roomRanking s) : (context s).level ≤ r.cls := by
  rcases List.mem_append.mp ((roomRanking_perm s).mem_iff.mp h) with h | h
  · obtain ⟨x, hx, rfl⟩ := List.mem_map.mp h
    exact (decide_eq_true_iff.mp (List.mem_filter.mp hx).2).1
  · obtain ⟨p, -, h⟩ := List.mem_flatMap.mp h
    obtain ⟨x, hx, rfl⟩ := List.mem_map.mp h
    exact (decide_eq_true_iff.mp (List.mem_filter.mp hx).2).1

/-! ### What stands below a level -/

/-- No own mic below the level sounds, and no want or live Intent below it stands. -/
def Levelled (l : Nat) (s : State) : Prop :=
  (∀ m ∈ s.floor.mics, m.cls < l → m.phase = .closing) ∧ (∀ w ∈ s.claims.placeWants, l ≤ w.cls) ∧
  ∀ c ∈ s.claims.places, c.cls < l → isLiveIntent c.stage = false

theorem levelled_presentContext {b a : Context} {s : State} (rises : b.level < a.level) :
    Levelled a.level (presentContext b a s) := by
  refine ⟨fun m hm low => ?_, presentContext_no_want_below rises, presentContext_no_live_below rises⟩
  rw [presentContext_floor] at hm
  obtain ⟨k, -, rfl⟩ := List.mem_map.mp hm
  split
  · rfl
  · next h =>
    rw [if_neg h] at low
    exact absurd ⟨rises, low⟩ h

section
variable {l : Nat} {s : State} (law : Levelled l s)
include law

theorem levelled_closeMics (pick : Mic → Bool) : Levelled l (closeMics pick s) := by
  obtain ⟨mics, wants, places⟩ := law
  refine ⟨fun m hm low => ?_, wants, places⟩
  obtain ⟨k, hk, rfl⟩ := List.mem_map.mp hm
  split
  · rw [closed_eq]
  · next h =>
    rw [if_neg h] at low
    exact mics k hk low

theorem levelled_withdrawSeats (every : Bool) (seats : List Nat) : Levelled l (withdrawSeats every seats s) := by
  obtain ⟨mics, wants, places⟩ := law
  refine ⟨mics, fun w hw => wants w (List.mem_filter.mp hw).1, fun c hc low => ?_⟩
  obtain ⟨k, hk, rfl⟩ := List.mem_map.mp hc
  by_contra live
  obtain ⟨-, live⟩ := live_markIf (by simpa using live)
  rw [places k hk (by simpa using low)] at live
  cases live

theorem levelled_clearRequests : Levelled l (clearRequests s) := by
  rw [clearRequests_eq]
  exact levelled_withdrawSeats (s := { s with floor := { s.floor with requests := [] } }) law _ _

theorem levelled_actOn (conf : s.station.state ≠ .unconfigured) (level : (context s).level = l)
    (other : s.room.head ≠ s.station.number) (c : RoomCommand) : Levelled l (actOn c s) := by
  unfold actOn
  split
  · rw [actPriorityMute_eq]
    have muted := levelled_withdrawSeats (levelled_closeMics law (fun m => counted m.cls)) false (mutedSeats s)
    split
    · exact levelled_clearRequests muted
    · exact muted
  · obtain ⟨same, -, -, fresh⟩ := actGrantNext_spec conf c.argument
    obtain ⟨mics, wants, places⟩ := law
    rw [same]
    refine ⟨mics, fun w hw => ?_, places⟩
    rcases fresh w hw with hw | ⟨-, -, r, hr, -, hcls⟩
    · exact wants w hw
    · obtain ⟨hr, own⟩ := List.mem_filter.mp hr
      rw [← hcls, ← level]
      exact level_le_of_mem_roomRanking (List.mem_of_mem_take hr)
  · exact levelled_clearRequests law
  · rw [actSetFloorLevel_of_refused (.inl other)]
    exact law

end

/-! ### The head's announcement raises the level -/

/-- Where a peer is head, no room command that the command test acts on moves room or level. -/
theorem actOn_of_peer_head {s : State} (other : s.room.head ≠ s.station.number)
    (c : RoomCommand) : (actOn c s).room = s.room ∧ (actOn c s).floor.level = s.floor.level := by
  unfold actOn
  split
  · simp
  · simp
  · simp
  · rw [actSetFloorLevel_of_refused (.inl other)]
    exact ⟨rfl, rfl⟩

theorem commandTest_of_peer_head {s : State} {t : Nat} {a : Announcement} (other : s.room.head ≠ s.station.number) :
    (commandTest t a s).room.head = s.room.head ∧ (commandTest t a s).room.adopted = s.room.adopted ∧
    (commandTest t a s).floor.level = s.floor.level ∧
    ∀ l, (context s).level = l → Levelled l s → Levelled l (commandTest t a s) := by
  cases hc : a.command with
  | none =>
    rw [commandTest_of_not_tests (.inl hc)]
    exact ⟨rfl, rfl, rfl, fun l _ law => law⟩
  | some c =>
    cases ht : testsCommand s t a with
    | false =>
      rw [commandTest_of_not_tests (.inr ht)]
      exact ⟨rfl, rfl, rfl, fun l _ law => law⟩
    | true =>
      have run := ((testsCommand_iff s t a).mp ht).1
      have conf : s.station.state ≠ .unconfigured := by simp [run]
      obtain ⟨room, level⟩ := actOn_of_peer_head other c
      rw [commandTest_of_tests hc ht]
      refine ⟨congrArg (·.head) room, congrArg (·.adopted) room, level, fun l hl law => ?_⟩
      exact levelled_actOn law conf hl other c

/-- A recomputation that adopts a context with a higher level leaves nothing below it. -/
theorem levelled_recompute {s : State} {before after : Context} (hb : s.room.adopted = some before)
    (ha : adoptedUnder s (headOf s (membershipOf s)) = some after) (rises : before.level < after.level) :
    Levelled after.level (recompute s) := by
  rw [recompute_of_context_change s hb ha (by rintro rfl; exact lt_irrefl _ rises)]
  exact levelled_presentContext rises

/-- What the admission of an announcement leaves where its station is head. -/
theorem arrivalAdmitted_of_head {s : State} {t : Nat} {a : Announcement} (hpeers : s.peers.length = 16) (ht : t < 16)
    (other : t ≠ s.station.number)
    (head : headOf s (membershipOf { s with peers := s.peers.set t (some ⟨0, 0, a⟩) }) = t) :
    (arrivalAdmitted t a s).room.head = t ∧ (arrivalAdmitted t a s).room.adopted = some a.context ∧
    (arrivalAdmitted t a s).floor.level = a.context.level ∧
    ∀ before, s.room.adopted = some before → before.level < a.context.level →
      Levelled a.context.level (arrivalAdmitted t a s) := by
  have noted := arrivalNoted_eq t a s
  have station := arrivalNoted_station t a s
  have peers : (arrivalNoted t a s).peers = s.peers.set t (some ⟨0, 0, a⟩) := by rw [noted]
  have walls : (arrivalNoted t a s).walls = s.walls := by rw [noted]
  have before : (arrivalNoted t a s).room.adopted = s.room.adopted := by rw [noted]
  have members : membershipOf (arrivalNoted t a s) = membershipOf { s with peers := s.peers.set t (some ⟨0, 0, a⟩) } :=
    membershipOf_congr station peers walls
  have heads : headOf (arrivalNoted t a s) (membershipOf (arrivalNoted t a s)) = t := by
    have same : ∀ l, headOf (arrivalNoted t a s) l = headOf s l := fun l => by rw [headOf, headOf, station]
    rw [members, same, head]
  have entry : peerAt (arrivalNoted t a s) t = some ⟨0, 0, a⟩ := by
    simp [peerAt, peers, List.getD_eq_getElem?_getD, hpeers, ht]
  have adopts : adoptedUnder (arrivalNoted t a s) (headOf (arrivalNoted t a s) (membershipOf (arrivalNoted t a s))) =
      some a.context := by
    rw [heads, adoptedUnder, if_neg (by rw [station]; exact other), entry]
  obtain ⟨-, hhead, hadopted⟩ := recompute_room (arrivalNoted t a s)
  have level : (recompute (arrivalNoted t a s)).floor.level = a.context.level := by
    rw [recompute_level]
    simp only [recomposed, adopts]
    rw [if_neg (by rw [heads, station]; exact other)]
    rfl
  rw [arrivalAdmitted, mismatchTest_eq]
  exact ⟨hhead.trans heads, hadopted.trans adopts, level, fun b hb rises =>
    levelled_recompute (before.trans hb) adopts rises⟩

theorem head_raises_level {s : State} {t : Nat} {frames : List (Bool × List Byte)} {a : Announcement} (live : Live s)
    (hpeers : s.peers.length = 16) (link : s.station.state = .joining ∨ s.station.state = .running)
    (closed : s.lif.closedSlot = some (t, frames)) (ht : t < 16) (other : t ≠ s.station.number)
    (valid : validAnnouncement t frames = some a)
    (head : headOf s (membershipOf { s with peers := s.peers.set t (some ⟨0, 0, a⟩) }) = t) :
    ∃ u, exec (.slotClose t) s = .next u ∧ u.room.head = t ∧ u.room.adopted = some a.context ∧
      u.floor.level = a.context.level ∧
      ∀ before, s.room.adopted = some before → before.level < a.context.level → Levelled a.context.level u := by
  obtain ⟨hhead, hadopted, hlevel, hlaw⟩ := arrivalAdmitted_of_head (s := takeSlot s) hpeers ht other head
  have station : (arrivalAdmitted t a (takeSlot s)).station = s.station := by
    rw [arrivalAdmitted]
    simp [arrivalNoted_station, takeSlot]
  obtain ⟨chead, cadopted, clevel, claw⟩ := commandTest_of_peer_head (s := arrivalAdmitted t a (takeSlot s)) (t := t)
    (a := a) (by rw [hhead, station]; exact other)
  have context : (context (arrivalAdmitted t a (takeSlot s))).level = a.context.level := by
    rw [Machine.context, hadopted]
    rfl
  refine ⟨_, exec_slotClose_of_valid live link closed other valid, ?_⟩
  rw [peerArrival_eq]
  refine ⟨by simp [chead, hhead], by simp [cadopted, hadopted], by simp [applyOverrides, closeMics, clevel, hlevel],
    fun before hb rises => ?_⟩
  have law := levelled_closeMics (claw _ context (hlaw before hb rises))
    (overridden (commandTest t a (arrivalAdmitted t a (takeSlot s))) a)
  rw [← applyOverrides] at law
  obtain ⟨mics, wants, places⟩ := law
  exact ⟨by simpa using mics, by simpa using wants, by simpa using places⟩

/-! ### O35 -/

theorem presentContext_spec (s : State) (before after : Context) :
    let t := presentContext before after s
    let rises := before.level < after.level
    let leavesQueue := before.mode = .queue ∧ after.mode ≠ .queue
    let leavesOverride := before.mode = .override ∧ after.mode ≠ .override
    let refuses := before.interlock = .takeover ∧ after.interlock = .refuse
    t.floor.mics = s.floor.mics.map (fun m => if rises ∧ m.cls < after.level then { m with phase := .closing } else m) ∧
    (leavesQueue → t.floor.requests = []) ∧ (¬ leavesQueue → t.floor.requests = s.floor.requests) ∧
    t.floor.level = s.floor.level ∧
    (leavesOverride → (∀ w ∈ t.claims.placeWants, w.displaced = none) ∧
      ∀ c ∈ t.claims.places, c.displaced ≠ none → isLiveIntent c.stage = false) ∧
    t.claims.places.map (fun c => (c.seat, c.cls, c.displaced, c.uplink, c.origin)) =
      s.claims.places.map (fun c => (c.seat, c.cls, c.displaced, c.uplink, c.origin)) ∧
    t.claims.languageWants = s.claims.languageWants.filter (fun w => ¬ (refuses ∧ w.displaced ≠ none)) ∧
    t.claims.languages = s.claims.languages.map (fun c =>
      if refuses ∧ c.displaced ≠ none ∧ c.stage ≠ .hold then { c with stage := .intent true } else c) := by
  intro t rises leavesQueue leavesOverride refuses
  have floor := presentContext_floor before after s
  obtain ⟨wants, languages⟩ := presentContext_languages before after s
  refine ⟨congrArg (·.mics) floor, fun left => ?_, fun stays => ?_, congrArg (·.level) floor, fun left =>
    presentContext_no_override_left ((overrideLeft_iff before after).mpr left), ?_, wants.trans ?_, languages.trans ?_⟩
  · exact (congrArg (·.requests) floor).trans (if_pos ((queueLeft_iff before after).mpr left))
  · exact (congrArg (·.requests) floor).trans (if_neg ((queueLeft_iff before after).not.mpr stays))
  · rw [presentContext_places, List.map_map]
    exact List.map_congr_left fun c _ => by simp
  · refine List.filter_congr fun w _ => ?_
    rw [Bool.eq_iff_iff, decide_eq_true_iff, Bool.not_eq_true', ← Bool.not_eq_true, Bool.and_eq_true, takeoverRefused_iff,
      Option.isSome_iff_ne_none]
  · refine List.map_congr_left fun c _ => ?_
    have test : (takeoverRefused before after && c.displaced.isSome) = true ↔ refuses ∧ c.displaced ≠ none := by
      rw [Bool.and_eq_true, takeoverRefused_iff, Option.isSome_iff_ne_none]
    by_cases h : refuses ∧ c.displaced ≠ none
    · rw [if_pos (test.mpr h), markStage_eq]
      by_cases hold : c.stage = .hold
      · rw [if_neg (by simp [hold]), if_neg (by simp [hold])]
      · rw [if_pos hold, if_pos ⟨h.1, h.2, hold⟩]
    · rw [if_neg (test.not.mpr h), if_neg (fun k => h ⟨k.1, k.2.1⟩)]

/-- Settles O35. -/
theorem contextChangeActsAtOnce : Obligations.ContextChangeActsAtOnce := by
  unfold Obligations.ContextChangeActsAtOnce
  refine ⟨fun s b a => ?_, fun s => ?_, fun s t frames a live sizes link closed ht other valid head =>
    head_raises_level live sizes.1 link closed ht other valid head⟩
  · obtain ⟨mics, cleared, kept, level, override, shapes, wants, languages⟩ := presentContext_spec s b a
    exact ⟨mics, cleared, kept, level, fun c hc rises => presentContext_no_live_below rises c hc,
      fun w hw rises => presentContext_no_want_below rises w hw,
      fun left => presentContext_no_pending_left ((queueLeft_iff b a).mpr left), override,
      fun w hw calm stays => presentContext_kept_want hw calm stays, fun c hc h => presentContext_kept_place hc h,
      shapes, wants, languages, by simp, presentContext_desks, presentContext_rest⟩
  · refine ⟨membershipPresented s, membershipPresented_eq s, fun same => ?_, fun moved => ?_,
      fun before after hb ha hne => recompute_of_context_change s hb ha hne, fun h => recompute_of_same_context s h⟩
    · rw [membershipPresented_of_same (not_not.mp same)]
      exact ⟨rfl, rfl, rfl, rfl⟩
    · obtain ⟨many, few⟩ := membershipPresented_claims moved
      refine ⟨?_, many, few, fun t ht => ?_⟩
      · rw [membershipPresented_of_moved moved, presentMembership_raises]
        rfl
      · exact membershipPresented_lastSeen moved ht

end Sys2Proof.Machine
end

section

/-! PROOF for O32 (AnnouncementArrives): what an arrival leaves in peers, room and flags. -/

namespace Sys2Proof.Machine

/-! ### A recomputation of an unchanged membership -/

/-- A room command keeps a membership that is the view's, and raises no flag. -/
theorem actOn_of_settled {s : State} (conf : s.station.state ≠ .unconfigured) (hm : s.room.members = membershipOf s)
    (hh : s.room.head = headOf s (membershipOf s)) (c : RoomCommand) :
    (actOn c s).room.members = s.room.members ∧ (actOn c s).room.head = s.room.head ∧
    ∀ n, (actOn c s).port.flags.getLsbD n = true ↔ s.port.flags.getLsbD n = true := by
  unfold actOn
  split
  · simp
  · obtain ⟨same, -⟩ := actGrantNext_spec conf c.argument
    rw [same]
    exact ⟨rfl, rfl, fun _ => Iff.rfl⟩
  · simp
  · unfold actSetFloorLevel
    split
    · have members : membershipOf { s with floor := { s.floor with level := c.argument } } = membershipOf s :=
        membershipOf_congr rfl rfl rfl
      obtain ⟨hmembers, hhead, -⟩ := recompute_room { s with floor := { s.floor with level := c.argument } }
      rw [members] at hmembers hhead
      refine ⟨hmembers.trans hm.symm, hhead.trans hh.symm, fun n => ?_⟩
      rw [recompute_flags, members]
      simp [← hm]
    · exact ⟨rfl, rfl, fun _ => Iff.rfl⟩

theorem commandTest_of_settled {s : State} (hm : s.room.members = membershipOf s)
    (hh : s.room.head = headOf s (membershipOf s)) (t : Nat) (a : Announcement) :
    (commandTest t a s).room.members = s.room.members ∧ (commandTest t a s).room.head = s.room.head ∧
    ∀ n, (commandTest t a s).port.flags.getLsbD n = true ↔ s.port.flags.getLsbD n = true := by
  cases hc : a.command with
  | none =>
    rw [commandTest_of_not_tests (.inl hc)]
    exact ⟨rfl, rfl, fun _ => Iff.rfl⟩
  | some c =>
    cases ht : testsCommand s t a with
    | false =>
      rw [commandTest_of_not_tests (.inr ht)]
      exact ⟨rfl, rfl, fun _ => Iff.rfl⟩
    | true =>
      have run := ((testsCommand_iff s t a).mp ht).1
      obtain ⟨members, head, flags⟩ := actOn_of_settled (by simp [run]) hm hh c
      rw [commandTest_of_tests hc ht]
      exact ⟨members, head, flags⟩

/-! ### Flags -/

theorem standAsides_flags {p : State → Nat → Bool} {n : Nat} (hn : n ≠ 9) (l : List Nat) (s : State) :
    (standAsides p l s).port.flags.getLsbD n = true ↔ s.port.flags.getLsbD n = true := by
  have one : ∀ (e : Nat) (u : State), (standAside e u).port.flags.getLsbD n = true ↔ u.port.flags.getLsbD n = true :=
    fun e u => by
      have : (standAside e u).port.flags = (raise .deskEngaged u).port.flags := rfl
      rw [this, raise_getLsbD]
      simp [flagBit, hn]
  refine foldl_rel (r := fun a b : State => b.port.flags.getLsbD n = true ↔ a.port.flags.getLsbD n = true)
    (fun _ => Iff.rfl) (fun _ _ _ h k => k.trans h) (fun u e => ?_) l s
  split
  · exact one e u
  · exact Iff.rfl

theorem peerDiffers_iff (before : Option PeerEntry) (a : Announcement) : peerDiffers before a = true ↔
    ∀ e, before = some e → e.content.epoch ≠ a.epoch ∨ e.content.running ≠ a.running := by
  cases before <;> simp [peerDiffers]

theorem arrivalNoted_flags (t : Nat) (a : Announcement) (s : State) (n : Nat) :
    (arrivalNoted t a s).port.flags.getLsbD n = true ↔ s.port.flags.getLsbD n = true ∨
      (∀ e, peerAt s t = some e → e.content.epoch ≠ a.epoch ∨ e.content.running ≠ a.running) ∧ n = 3 := by
  have noted : (arrivalNoted t a s).port = (raiseIf (peerDiffers (peerAt s t) a) .peerChanged
      (setPeer t (some ⟨0, 0, a⟩) (noteLeft t a s))).port := by
    unfold arrivalNoted
    dsimp only
    split <;> rfl
  have port : (setPeer t (some ⟨0, 0, a⟩) (noteLeft t a s)).port = s.port := by simp [setPeer]
  rw [noted, raiseIf_getLsbD, port, peerDiffers_iff]
  rfl

/-- The heads differ, of a member while Running. -/
def HeadsDiffer (t : Nat) (a : Announcement) (s : State) : Prop :=
  s.station.state = .running ∧ t ∈ s.room.members ∧ a.head ≠ s.room.head

theorem mismatchTest_spec (t : Nat) (a : Announcement) {s : State} (ht : t < s.room.marks.length) :
    ((mismatchTest t a s).room.marks[t]? = some true ↔ HeadsDiffer t a s) ∧
    ∀ n, (mismatchTest t a s).port.flags.getLsbD n = true ↔ s.port.flags.getLsbD n = true ∨
      (HeadsDiffer t a s ∧ s.room.marks[t]? = some true) ∧ n = 14 := by
  have test : (s.station.state = .running && isMember s t && a.head != s.room.head) = true ↔ HeadsDiffer t a s := by
    simp [HeadsDiffer, isMember, and_assoc]
  have marked : s.room.marks.getD t false = true ↔ s.room.marks[t]? = some true := by
    simp [List.getD_eq_getElem?_getD, List.getElem?_eq_getElem ht]
  unfold mismatchTest
  by_cases h : HeadsDiffer t a s
  · rw [if_pos (test.mpr h)]
    refine ⟨iff_of_true (by simp [setMark, ht]) h, fun n => ?_⟩
    have port : ∀ u : State, (setMark t true u).port = u.port := fun _ => rfl
    rw [port, raiseIf_getLsbD, marked]
    simp [h, flagBit]
  · rw [if_neg (test.not.mpr h)]
    refine ⟨iff_of_false (by simp [setMark, ht]) h, fun n => ?_⟩
    have port : ∀ u : State, (setMark t false u).port = u.port := fun _ => rfl
    rw [port]
    simp [h]

/-! ### The lanes let go -/

theorem mem_lanesLeft (before : Option PeerEntry) (a : Announcement) (x : LaneUse) : x ∈ lanesLeft before a ↔
    ∃ e, before = some e ∧ (∃ y ∈ e.content.lanes, y.held = true ∧ y.lane = x.lane ∧ y.language = x.language) ∧
      ∀ y ∈ a.lanes, y.held = true → y.lane = x.lane → y.language ≠ x.language := by
  cases before with
  | none => simp [lanesLeft]
  | some e =>
    simp only [lanesLeft, List.mem_map, List.mem_filter, Bool.and_eq_true, Bool.not_eq_true', List.any_eq_false,
      beq_iff_eq, not_and, Option.some.injEq, exists_eq_left', and_imp]
    constructor
    · rintro ⟨y, ⟨hy, held, gone⟩, rfl⟩
      exact ⟨⟨y, hy, held, rfl, rfl⟩, gone⟩
    · rintro ⟨⟨y, hy, held, hl, hk⟩, gone⟩
      obtain ⟨lane, language⟩ := x
      subst hl hk
      exact ⟨y, ⟨hy, held, gone⟩, rfl⟩

theorem mem_arrivalNoted_left (t : Nat) (a : Announcement) (s : State) (x : LaneUse) :
    x ∈ (arrivalNoted t a s).booth.left ↔ x ∈ s.booth.left ∨ t ∈ s.room.members ∧ ∃ e, peerAt s t = some e ∧
      (∃ y ∈ e.content.lanes, y.held = true ∧ y.lane = x.lane ∧ y.language = x.language) ∧
      ∀ y ∈ a.lanes, y.held = true → y.lane = x.lane → y.language ≠ x.language := by
  have noted : (arrivalNoted t a s).booth = (noteLeft t a s).booth := by
    unfold arrivalNoted raiseIf
    dsimp only
    cases epochDiffers (peerAt s t) a <;> cases peerDiffers (peerAt s t) a <;> rfl
  have member : isMember s t = true ↔ t ∈ s.room.members := by simp [isMember]
  rw [noted, noteLeft, ← mem_lanesLeft]
  split
  · next h => simp [member.mp h]
  · next h => simp [member.not.mp h]

/-! ### The arrival -/

/-- What the admission of an announcement leaves in the Room Resolver and the flags. -/
theorem arrivalAdmitted_spec (t : Nat) (a : Announcement) {s : State} (ht : t < s.room.marks.length) :
    let v := arrivalAdmitted t a s
    v.station = s.station ∧ v.peers = s.peers.set t (some ⟨0, 0, a⟩) ∧ v.walls = s.walls ∧
    v.room.members = membershipOf v ∧ v.room.head = headOf v (membershipOf v) ∧
    (v.room.marks[t]? = some true ↔ HeadsDiffer t a v) ∧
    ∀ n, v.port.flags.getLsbD n = true ↔ (s.port.flags.getLsbD n = true ∨
      (∀ e, peerAt s t = some e → e.content.epoch ≠ a.epoch ∨ e.content.running ≠ a.running) ∧ n = 3) ∨
      (n = 0 ∧ v.room.members ≠ s.room.members) ∨ (HeadsDiffer t a v ∧ s.room.marks[t]? = some true) ∧ n = 14 := by
  intro v
  have noted := arrivalNoted_eq t a s
  have marks : (recompute (arrivalNoted t a s)).room.marks = s.room.marks := by
    rw [show (recompute (arrivalNoted t a s)).room.marks = (arrivalNoted t a s).room.marks by simp, noted]
  obtain ⟨marked, flags⟩ := mismatchTest_spec t a (s := recompute (arrivalNoted t a s)) (by rw [marks]; exact ht)
  obtain ⟨hmembers, hhead, -⟩ := recompute_room (arrivalNoted t a s)
  have station : (recompute (arrivalNoted t a s)).station = s.station := by simp [arrivalNoted_station]
  have vstation : v.station = s.station := by rw [← station]; simp [v, arrivalAdmitted]
  have peers : v.peers = s.peers.set t (some ⟨0, 0, a⟩) := by
    rw [show v.peers = (arrivalNoted t a s).peers by simp [v, arrivalAdmitted], noted]
  have walls : v.walls = s.walls := by
    rw [show v.walls = (arrivalNoted t a s).walls by simp [v, arrivalAdmitted], noted]
  have view : membershipOf v = membershipOf (arrivalNoted t a s) :=
    membershipOf_congr (vstation.trans (arrivalNoted_station t a s).symm) (by simp [v, arrivalAdmitted])
      (by simp [v, arrivalAdmitted])
  have vmembers : v.room.members = membershipOf (arrivalNoted t a s) := by
    rw [← hmembers, show v = mismatchTest t a (recompute (arrivalNoted t a s)) from rfl, mismatchTest_eq]
  have vhead : v.room.head = headOf (arrivalNoted t a s) (membershipOf (arrivalNoted t a s)) := by
    rw [← hhead, show v = mismatchTest t a (recompute (arrivalNoted t a s)) from rfl, mismatchTest_eq]
  have differ : HeadsDiffer t a (recompute (arrivalNoted t a s)) ↔ HeadsDiffer t a v := by
    simp only [HeadsDiffer, station, vstation, hmembers, vmembers, hhead, vhead]
  refine ⟨vstation, peers, walls, vmembers.trans view.symm, ?_, marked.trans differ, fun n => ?_⟩
  · rw [vhead, view]
    simp only [headOf, vstation, arrivalNoted_station]
  · have before : (arrivalNoted t a s).room.members = s.room.members := by rw [noted]
    rw [show v = mismatchTest t a (recompute (arrivalNoted t a s)) from rfl, flags, recompute_flags, arrivalNoted_flags,
      marks, differ, before, ← vmembers]
    simp only [or_assoc]
    rfl

theorem arrivalAdmitted_keeps (t : Nat) (a : Announcement) (s : State) :
    let v := arrivalAdmitted t a s
    v.lif = s.lif ∧ v.dlc.uplinks = s.dlc.uplinks ∧ v.seats = s.seats ∧ v.mix = s.mix ∧
    v.booth.left = (arrivalNoted t a s).booth.left ∧
    (s.room.lastSeen.length = 16 → v.room.lastSeen.length = 16) := by
  intro v
  have seen : (arrivalNoted t a s).room.lastSeen.length = s.room.lastSeen.length := by
    rw [arrivalNoted_eq]
    simp only [apply_ite List.length, List.length_set, ite_self]
  have length : v.room.lastSeen.length = s.room.lastSeen.length := by
    rw [show v = mismatchTest t a (recompute (arrivalNoted t a s)) from rfl, mismatchTest_eq]
    exact (recompute_lastSeen_length _).trans seen
  have booth : v.booth = (recompute (arrivalNoted t a s)).booth := by simp [v, arrivalAdmitted]
  refine ⟨?_, ?_, ?_, ?_, booth ▸ by simp, fun h => length.trans h⟩
  · rw [show v.lif = (arrivalNoted t a s).lif by simp [v, arrivalAdmitted], arrivalNoted_eq]
  · rw [show v.dlc = (arrivalNoted t a s).dlc by simp [v, arrivalAdmitted], arrivalNoted_eq]
  · rw [show v.seats = (arrivalNoted t a s).seats by simp [v, arrivalAdmitted], arrivalNoted_eq]
  · rw [show v.mix = (arrivalNoted t a s).mix by simp [v, arrivalAdmitted], arrivalNoted_eq]

/-- What the displacements of an arrival leave. -/
theorem displaced_keeps (a : Announcement) (w : State) :
    let u := evalDemand (applyTakeovers a (applyOverrides a w))
    u.lif = w.lif ∧ u.station = w.station ∧ u.peers = w.peers ∧ u.room = w.room ∧ u.walls = w.walls ∧
    u.dlc.uplinks = w.dlc.uplinks ∧ u.seats = w.seats ∧ u.mix = w.mix ∧ u.booth.left = w.booth.left ∧
    ∀ n, n ≠ 9 → (u.port.flags.getLsbD n = true ↔ w.port.flags.getLsbD n = true) := by
  have port : ∀ v : State, (evalDemand v).port = v.port := fun _ => rfl
  refine ⟨by simp, by simp, by simp, by simp, by simp, by simp, by simp, by simp, by simp, fun n hn => ?_⟩
  rw [port, applyTakeovers_eq, standAsides_flags hn]
  simp

/-- What an arrival leaves, block by block. -/
theorem peerArrival_spec {t : Nat} (a : Announcement) {s : State} (ht : t < 16) (hmarks : s.room.marks.length = 16)
    (hseen : s.room.lastSeen.length = 16) :
    ∃ u, peerArrival t a s = u ∧ u.lif = s.lif ∧ u.station = s.station ∧ u.peers = s.peers.set t (some ⟨0, 0, a⟩) ∧
    u.walls = s.walls ∧ u.dlc.uplinks = s.dlc.uplinks ∧ u.seats = s.seats ∧ u.mix = s.mix ∧
    u.booth.left = (arrivalNoted t a s).booth.left ∧
    u.room.members = membershipOf u ∧ u.room.lastSeen[t]? = some (some a.sequence) ∧
    (u.room.marks[t]? = some true ↔ HeadsDiffer t a u) ∧
    ∀ n, n ≠ 9 → (u.port.flags.getLsbD n = true ↔ (s.port.flags.getLsbD n = true ∨
      (∀ e, peerAt s t = some e → e.content.epoch ≠ a.epoch ∨ e.content.running ≠ a.running) ∧ n = 3) ∨
      (n = 0 ∧ u.room.members ≠ s.room.members) ∨ (HeadsDiffer t a u ∧ s.room.marks[t]? = some true) ∧ n = 14) := by
  obtain ⟨station, peers, walls, members, head, marks, flags⟩ := arrivalAdmitted_spec t a (s := s) (by rw [hmarks]; exact ht)
  obtain ⟨lif, uplinks, seats, mix, left, length⟩ := arrivalAdmitted_keeps t a s
  obtain ⟨cmembers, chead, cflags⟩ := commandTest_of_settled members head t a
  have seen := commandTest_lastSeen a (s := arrivalAdmitted t a s) (t := t) (by rw [length hseen]; exact ht)
  obtain ⟨dlif, dstation, dpeers, droom, dwalls, duplinks, dseats, dmix, dleft, dflags⟩ :=
    displaced_keeps a (commandTest t a (arrivalAdmitted t a s))
  rw [← peerArrival_eq] at dlif dstation dpeers droom dwalls duplinks dseats dmix dleft dflags
  simp only [commandTest_keeps, commandTest_fields] at dlif dstation dpeers dwalls duplinks dseats dmix dleft
  generalize peerArrival t a s = u at *
  have umembers : u.room.members = (arrivalAdmitted t a s).room.members := by rw [droom, cmembers]
  have differ : HeadsDiffer t a (arrivalAdmitted t a s) ↔ HeadsDiffer t a u := by
    simp only [HeadsDiffer, dstation, droom, chead, cmembers]
  have kept : (commandTest t a (arrivalAdmitted t a s)).room.marks = (arrivalAdmitted t a s).room.marks := by simp
  refine ⟨u, rfl, dlif.trans lif, dstation.trans station, dpeers.trans peers, dwalls.trans walls, duplinks.trans uplinks,
    dseats.trans seats, dmix.trans mix, dleft.trans left, ?_, droom ▸ seen, ?_, fun n hn => ?_⟩
  · rw [umembers, members]
    exact (membershipOf_congr dstation dpeers dwalls).symm
  · rw [← differ, ← marks, droom, kept]
  · rw [dflags n hn, cflags, flags, differ, ← umembers]

/-- Settles O32. -/
theorem announcementArrives : Obligations.AnnouncementArrives := by
  unfold Obligations.AnnouncementArrives
  intro s t frames a live sizes link closed ht other valid
  obtain ⟨-, hmarks, hseen, -⟩ := sizes
  obtain ⟨u, arrives, lif, station, peers, walls, uplinks, seats, mix, left, members, seen, marks, flags⟩ :=
    peerArrival_spec (s := takeSlot s) a ht hmarks hseen
  refine ⟨u, by rw [exec_slotClose_of_valid live link closed other valid, arrives], ?_⟩
  have differ : HeadsDiffer t a u ↔ s.station.state = .running ∧ t ∈ u.room.members ∧ a.head ≠ u.room.head := by
    rw [HeadsDiffer, station]
    rfl
  refine ⟨lif, station, peers, ?_, ?_, fun moved => (flags 0 (by decide)).mpr (.inr (.inl ⟨rfl, moved⟩)), seen,
    ⟨marks.trans differ, ?_⟩, walls, uplinks, seats, mix, fun x => ?_⟩
  · rw [flags 3 (by decide)]
    simp [takeSlot, peerAt]
  · rw [members]
    exact (membershipOf_congr station rfl walls)
  · rw [flags 14 (by decide), differ]
    simp [takeSlot]
  · rw [left]
    exact mem_arrivalNoted_left t a (takeSlot s) x

end Sys2Proof.Machine
end

section

/-! PROOF for O33 (AnnouncementMissing): the slot close of a missing announcement case by case, and the third miss. -/

namespace Sys2Proof.Machine

/-! ### The close of a slot, by what it finds -/

section
variable {s : State} {t : Nat} {frames : List (Bool × List Byte)}

theorem exec_slotClose_of_none (live : Live s) (h : s.lif.closedSlot = none) : exec (.slotClose t) s = .next s := by
  rw [exec_of_live _ s live]
  simp only [liveEffect, slotCloseOp, h]

theorem exec_slotClose_of_own (live : Live s) (h : s.lif.closedSlot = some (t, frames)) (own : t = s.station.number) :
    exec (.slotClose t) s = .next (takeSlot s) := by
  rw [exec_of_live _ s live]
  simp only [liveEffect, slotCloseOp, h]
  rw [if_neg (by simp [own]), if_pos trivial]

theorem exec_slotClose_of_off (live : Live s) (h : s.lif.closedSlot = some (t, frames)) (other : t ≠ s.station.number)
    (off : s.station.state = .unconfigured ∨ s.station.state = .isolated) :
    exec (.slotClose t) s = .next (setMark t false (takeSlot s)) := by
  have out : onLink s = false := by
    rw [← Bool.not_eq_true, onLink_iff]
    rcases off with h | h <;> simp [h]
  rw [exec_of_live _ s live]
  simp only [liveEffect, slotCloseOp, h]
  rw [if_pos (by simp [other]), if_neg (by simp [out])]

theorem exec_slotClose_of_missing (live : Live s) (link : s.station.state = .joining ∨ s.station.state = .running)
    (h : s.lif.closedSlot = some (t, frames)) (other : t ≠ s.station.number) (invalid : validAnnouncement t frames = none) :
    exec (.slotClose t) s = .next (peerMissing t (takeSlot s)) := by
  rw [exec_of_live _ s live]
  simp only [liveEffect, slotCloseOp, h]
  rw [if_pos (by simp [other]), if_pos ((onLink_iff s).mpr link), invalid]

/-! ### A miss -/

theorem peerMissing_of_absent (h : peerAt s t = none) : peerMissing t s = setMark t false s := by
  simp only [peerMissing, h]

theorem peerMissing_of_early {e : PeerEntry} (h : peerAt s t = some e) (early : e.miss < 2) :
    peerMissing t s = setMark t false (setPeer t (some { e with miss := e.miss + 1 }) s) := by
  have : ¬ e.miss + 1 ≥ Config.missLimit := by
    show ¬ e.miss + 1 ≥ 3
    omega
  simp only [peerMissing, h, if_neg this]

theorem peerMissing_of_third {e : PeerEntry} (h : peerAt s t = some e) (third : 2 ≤ e.miss) :
    peerMissing t s = setMark t false (losePeer t s) := by
  have : e.miss + 1 ≥ Config.missLimit := by
    show e.miss + 1 ≥ 3
    omega
  simp only [peerMissing, h, if_pos this]

/-- What the third miss leaves. -/
theorem thirdMiss_spec (hmarks : s.room.marks.length = 16) (hseen : s.room.lastSeen.length = 16) (ht : t < 16) :
    let u := setMark t false (losePeer t s)
    u.lif = s.lif ∧ u.station = s.station ∧ u.peers = s.peers.set t none ∧ u.port.flags.getLsbD 3 = true ∧
    u.room.members = membershipOf { s with peers := u.peers } ∧
    (u.room.members ≠ s.room.members → u.port.flags.getLsbD 0 = true) ∧
    u.room.marks[t]? = some false ∧ u.room.lastSeen.length = 16 ∧ u.walls = s.walls ∧ u.seats = s.seats := by
  intro u
  have station : u.station = s.station := by simp [u, losePeer, setPeer]
  have peers : u.peers = s.peers.set t none := by simp [u, losePeer, setPeer]
  have walls : u.walls = s.walls := by simp [u, losePeer, setPeer]
  have room : u.room.members = (recompute (raise .peerChanged (setPeer t none s))).room.members := rfl
  have members : u.room.members = membershipOf (raise .peerChanged (setPeer t none s)) :=
    room.trans (recompute_room _).1
  have view : membershipOf (raise .peerChanged (setPeer t none s)) = membershipOf { s with peers := s.peers.set t none } :=
    membershipOf_congr rfl rfl rfl
  have flags : ∀ n, u.port.flags.getLsbD n = true ↔ (raise .peerChanged (setPeer t none s)).port.flags.getLsbD n = true ∨
      n = 0 ∧ u.room.members ≠ s.room.members := fun n => by
    have port : u.port = (recompute (raise .peerChanged (setPeer t none s))).port := rfl
    rw [port, recompute_flags, members]
    rfl
  refine ⟨by simp [u, losePeer, setPeer], station, peers, (flags 3).mpr (.inl ?_), ?_,
    fun moved => (flags 0).mpr (.inr ⟨rfl, moved⟩), ?_, ?_, walls, by simp [u, losePeer, setPeer]⟩
  · rw [raise_getLsbD]
    exact .inr rfl
  · rw [members, view, peers]
  · simp [u, setMark, losePeer, setPeer, hmarks, ht]
  · have seen : u.room.lastSeen = (recompute (raise .peerChanged (setPeer t none s))).room.lastSeen := rfl
    rw [seen, recompute_lastSeen_length]
    exact hseen

/-! ### PEER_LOSS alone -/

theorem exec_peerLoss_of_not_due (live : Live s) (h : ¬ ((s.station.state = .joining ∨ s.station.state = .running) ∧
    t ≠ s.station.number ∧ ∃ e, peerAt s t = some e ∧ 2 ≤ e.miss)) : exec (.peerLoss t) s = .next s := by
  rw [exec_of_live _ s live]
  simp only [liveEffect, peerLossOp]
  refine congrArg _ (if_neg fun hd => h ?_)
  simp only [Bool.and_eq_true, onLink_iff, bne_iff_ne, Option.any_eq_true, decide_eq_true_iff] at hd
  obtain ⟨⟨link, other⟩, e, he, third⟩ := hd
  exact ⟨link, other, e, he, by change e.miss + 1 ≥ 3 at third; omega⟩

theorem exec_peerLoss_of_due (live : Live s) (link : s.station.state = .joining ∨ s.station.state = .running)
    (other : t ≠ s.station.number) {e : PeerEntry} (he : peerAt s t = some e) (third : 2 ≤ e.miss) :
    exec (.peerLoss t) s =
      .next (peerMissing t (if s.lif.closedSlot.any (fun c => c.1 == t) then takeSlot s else s)) := by
  rw [exec_of_live _ s live]
  simp only [liveEffect, peerLossOp]
  refine congrArg _ (if_pos ?_)
  simp only [Bool.and_eq_true, onLink_iff, bne_iff_ne, Option.any_eq_true, decide_eq_true_iff]
  exact ⟨⟨link, other⟩, e, he, by show e.miss + 1 ≥ 3; omega⟩

end

/-- Settles O33. -/
theorem announcementMissing : Obligations.AnnouncementMissing := by
  unfold Obligations.AnnouncementMissing
  refine ⟨fun s t frames live sizes ht => ⟨exec_slotClose_of_none live, exec_slotClose_of_own live,
    fun closed other => ⟨exec_slotClose_of_off live closed other, fun link invalid => ?_⟩⟩, fun s t live sizes => ?_⟩
  · rw [exec_slotClose_of_missing live link closed other invalid]
    refine ⟨fun absent => ?_, fun e he early => ?_, fun e he third => ⟨_, rfl, ?_⟩⟩
    · rw [peerMissing_of_absent (by exact absent)]
      rfl
    · rw [peerMissing_of_early (s := takeSlot s) (by exact he) early]
      rfl
    · rw [peerMissing_of_third (s := takeSlot s) (by exact he) third]
      obtain ⟨-, hmarks, hseen, -⟩ := sizes
      obtain ⟨lif, station, peers, flag, members, -, marks, seen, walls, seats⟩ :=
        thirdMiss_spec (s := takeSlot s) (t := t) hmarks hseen ht
      exact ⟨lif, station, peers, flag, members.trans (membershipOf_congr rfl rfl rfl), marks, seen, walls, seats⟩
  · refine ⟨exec_peerLoss_of_not_due live, fun ⟨link, other, e, he, third⟩ => ⟨_, exec_peerLoss_of_due live link other he
      third, ?_⟩, fun ⟨link, other, e, he, third⟩ frames closed invalid => ?_⟩
    · obtain ⟨hpeers, hmarks, hseen, -⟩ := sizes
      have ht : t < 16 := by
        by_contra out
        rw [peerAt, List.getD_eq_getElem?_getD, List.getElem?_eq_none (by omega)] at he
        cases he
      generalize hv : (if s.lif.closedSlot.any (fun c => c.1 == t) then takeSlot s else s) = v
      have same : v.room = s.room ∧ v.peers = s.peers ∧ v.station = s.station ∧ v.walls = s.walls := by
        rw [← hv]
        split <;> exact ⟨rfl, rfl, rfl, rfl⟩
      obtain ⟨hroom, hp, hst, hwalls⟩ := same
      have entry : peerAt v t = some e := by rw [← he, peerAt, peerAt, hp]
      rw [peerMissing_of_third entry third]
      obtain ⟨-, station, peers, flag, members, moved, -⟩ :=
        thirdMiss_spec (s := v) (t := t) (by rw [hroom]; exact hmarks) (by rw [hroom]; exact hseen) ht
      refine ⟨peers.trans (by rw [hp]), station.trans hst, flag, ?_, by rwa [hroom] at moved⟩
      exact members.trans (membershipOf_congr hst rfl hwalls)
    · rw [exec_slotClose_of_missing live link closed other invalid, exec_peerLoss_of_due live link other he third, closed,
        if_pos (by simp)]

end Sys2Proof.Machine
end

section

/-! PROOF for O37 (WallSampleAndAdoption): one wall input through the three samples, and the adoption of its candidate. -/

namespace Sys2Proof.Machine

/-! ### Adoption -/

section
variable (x : Nat) (c : WallState) (s : State)

theorem adoptWall_walls : (adoptWall x c s).walls = s.walls.set x (adoptedWall c (wallOf s x)) := by
  simp [adoptWall, setWall]

theorem adoptWall_flags (hn : (wallOf s x).neighbour ≠ none) : (adoptWall x c s).port.flags.getLsbD 1 = true ∧
    (c = .fault → (adoptWall x c s).port.flags.getLsbD 2 = true) := by
  have some : (wallOf s x).neighbour.isSome = true := Option.isSome_iff_ne_none.mpr hn
  have kept : ∀ n, (raiseIf ((wallOf s x).neighbour.isSome && c == .fault) .wallFault
      (raiseIf (wallOf s x).neighbour.isSome .wallChanged (setWall x (adoptedWall c (wallOf s x)) s))).port.flags.getLsbD n =
        true → (adoptWall x c s).port.flags.getLsbD n = true := fun n h => (soft_handWallOn _ _ _).flags n h
  refine ⟨kept 1 ?_, fun hc => kept 2 ?_⟩
  · rw [raiseIf_getLsbD, raiseIf_getLsbD]
    exact .inl (.inr ⟨some, rfl⟩)
  · rw [raiseIf_getLsbD]
    exact .inr ⟨by simp [some, hc], rfl⟩

end

section
variable {x : Nat} {c : WallState} {s : State}

theorem adoptWall_of_unconfigured (hn : (wallOf s x).neighbour = none) :
    (adoptWall x c s).port = s.port ∧ (adoptWall x c s).room = s.room := by
  have stays : handWallOn (wallOf s x) (adoptedWall c (wallOf s x)) (setWall x (adoptedWall c (wallOf s x)) s) =
      setWall x (adoptedWall c (wallOf s x)) s := if_pos (by simp [adoptedWall, hn])
  have quiet : ∀ (f : EventFlag) (u : State), raiseIf false f u = u := fun _ _ => rfl
  simp only [adoptWall, hn, Option.isSome_none, Bool.false_and, quiet, stays]
  exact ⟨rfl, rfl⟩

theorem adoptWall_of_overridden (h : (wallOf s x).setting ≠ .auto) : (adoptWall x c s).room = s.room := by
  have same : effective (wallOf s x) = effective (adoptedWall c (wallOf s x)) := by
    unfold effective adoptedWall
    cases hs : (wallOf s x).setting
    · exact absurd hs h
    · rfl
    · rfl
  have stays : ∀ u : State, handWallOn (wallOf s x) (adoptedWall c (wallOf s x)) u = u := fun u =>
    if_pos (by simp [same])
  simp only [adoptWall, stays]
  simp [setWall]

/-- A changed effective state of a configured wall reaches the membership. -/
theorem adoptWall_members (hn : (wallOf s x).neighbour ≠ none) (auto : (wallOf s x).setting = .auto)
    (hc : c ≠ (wallOf s x).debounced) :
    (adoptWall x c s).room.members = membershipOf { s with walls := (adoptWall x c s).walls } := by
  have moves : effective (wallOf s x) ≠ effective (adoptedWall c (wallOf s x)) := by
    simp only [effective, adoptedWall, auto]
    exact hc.symm
  have handed : ∀ u : State, handWallOn (wallOf s x) (adoptedWall c (wallOf s x)) u = evalDemand (recompute u) := fun u =>
    if_neg (by rw [decide_eq_false moves]; simp [adoptedWall, hn])
  rw [adoptWall_walls]
  simp only [adoptWall, handed, evalDemand_keeps, recompute_room]
  exact membershipOf_congr (by simp [setWall]) (by simp [setWall]) (by simp [setWall])

end

/-! ### One sample -/

/-- A wall after a complete history: the candidate that has stood long enough is adopted. -/
def settledWall (w : Wall) : Wall :=
  match toAdopt w with
  | some c => adoptedWall c w
  | none => w

/-- A wall whose history a third sample completes, with its candidate counted. -/
def completedWall (a b now : Bool × Bool) (w : Wall) : Wall :=
  debounceStep { w with history := [a, b, now], derived := (evaluateSamples a b now).1, noise := (evaluateSamples a b now).2 }

/-- A wall after the sample of a frame. -/
def sampledWall (frame : Nat) (now : Bool × Bool) (w : Wall) : Wall :=
  if frame = 0 then { w with history := [now] }
  else if frame = 32 && w.history.length = 1 then { w with history := w.history ++ [now] }
  else if frame = 64 then
    match w.history with
    | [a, b] => settledWall (completedWall a b now w)
    | _ => w
  else w

/-- The state that the sample of a frame adopts. -/
def adoptedAt (frame : Nat) (now : Bool × Bool) (w : Wall) : Option WallState :=
  if frame = 64 then
    match w.history with
    | [a, b] => toAdopt (completedWall a b now w)
    | _ => none
  else none

section
variable {x : Nat} {s : State} (hx : x < s.walls.length)
include hx

theorem wallOf_setWall_self (w : Wall) : wallOf (setWall x w s) x = w := by
  rw [wallOf_setWall x x w s hx, if_pos rfl]

theorem set_wallOf : s.walls.set x (wallOf s x) = s.walls := by
  have : wallOf s x = s.walls[x] := by simp [wallOf, List.getD_eq_getElem?_getD, hx]
  rw [this, List.set_getElem_self]

theorem evaluateWall_spec (d : WallState × Bool) :
    let w := debounceStep { wallOf s x with derived := d.1, noise := d.2 }
    (evaluateWall x d s).walls = s.walls.set x (settledWall w) ∧
    ∀ c, toAdopt w = some c → w.neighbour ≠ none → (evaluateWall x d s).port.flags.getLsbD 1 = true ∧
      (c = .fault → (evaluateWall x d s).port.flags.getLsbD 2 = true) := by
  intro w
  have self := wallOf_setWall_self hx w
  unfold evaluateWall settledWall
  cases h : toAdopt w with
  | none =>
    simp only [w, h] at self ⊢
    exact ⟨rfl, fun c hc => by simp at hc⟩
  | some c =>
    simp only [w, h] at self ⊢
    refine ⟨?_, fun d hd hn => ?_⟩
    · rw [adoptWall_walls, self]
      simp [setWall]
    · obtain rfl := Option.some.inj hd
      exact adoptWall_flags x _ _ (by rwa [self])

theorem sampleWall_spec (now : Bool × Bool) :
    (sampleWall now x s).walls = s.walls.set x (sampledWall s.lif.frame now (wallOf s x)) ∧
    ∀ c, adoptedAt s.lif.frame now (wallOf s x) = some c → (wallOf s x).neighbour ≠ none →
      (sampleWall now x s).port.flags.getLsbD 1 = true ∧
      (c = .fault → (sampleWall now x s).port.flags.getLsbD 2 = true) := by
  have same := set_wallOf hx
  unfold sampleWall sampledWall adoptedAt
  by_cases h0 : s.lif.frame = 0
  · simp [h0, setWall]
  · simp only [if_neg h0]
    by_cases h32 : (s.lif.frame = 32 && (wallOf s x).history.length = 1) = true
    · have h64 : s.lif.frame ≠ 64 := fun h => by simp [h] at h32
      rw [if_pos h32, if_pos h32, if_neg h64]
      exact ⟨rfl, by simp⟩
    · rw [if_neg h32, if_neg h32]
      by_cases h64 : s.lif.frame = 64
      · simp only [if_pos h64]
        have idle : s.walls = s.walls.set x (wallOf s x) ∧ ∀ c, (none : Option WallState) = some c →
            (wallOf s x).neighbour ≠ none → s.port.flags.getLsbD 1 = true ∧
              (c = .fault → s.port.flags.getLsbD 2 = true) := ⟨same.symm, by simp⟩
        rcases hh : (wallOf s x).history with _ | ⟨a, _ | ⟨b, _ | ⟨d, rest⟩⟩⟩
        · exact idle
        · exact idle
        · have self := wallOf_setWall_self hx { wallOf s x with history := [a, b, now] }
          obtain ⟨walls, flags⟩ := evaluateWall_spec (s := setWall x { wallOf s x with history := [a, b, now] } s) (x := x)
            (by simpa [setWall] using hx) (evaluateSamples a b now)
          rw [self] at walls flags
          refine ⟨walls.trans (by simp [setWall, completedWall]), fun c hc hn => flags c hc ?_⟩
          unfold debounceStep
          split
          · exact hn
          · split <;> exact hn
        · exact idle
      · simp only [if_neg h64]
        exact ⟨same.symm, by simp⟩

end

/-! ### The four inputs -/

/-- The samples of all inputs, one after another: each input is sampled by itself. -/
theorem sampleWalls_spec (now : Nat → Bool × Bool) : ∀ (l : List Nat) {s : State}, l.Nodup →
    (∀ x ∈ l, x < s.walls.length) →
    let t := l.foldl (fun s' x => sampleWall (now x) x s') s
    t.lif = s.lif ∧ (∀ x, wallOf t x = if x ∈ l then sampledWall s.lif.frame (now x) (wallOf s x) else wallOf s x) ∧
    ∀ x ∈ l, ∀ c, adoptedAt s.lif.frame (now x) (wallOf s x) = some c → (wallOf s x).neighbour ≠ none →
      t.port.flags.getLsbD 1 = true ∧ (c = .fault → t.port.flags.getLsbD 2 = true)
  | [], s, _, _ => by simp
  | y :: l, s, distinct, inside => by
    obtain ⟨fresh, distinct⟩ := List.nodup_cons.mp distinct
    obtain ⟨first, firstFlags⟩ := sampleWall_spec (inside y List.mem_cons_self) (now y)
    have lif : (sampleWall (now y) y s).lif = s.lif := by simp
    have wall : ∀ x, wallOf (sampleWall (now y) y s) x =
        if x = y then sampledWall s.lif.frame (now y) (wallOf s y) else wallOf s x := fun x => by
      have := wallOf_setWall y x (sampledWall s.lif.frame (now y) (wallOf s y)) s (inside y List.mem_cons_self)
      rw [← this]
      simp only [wallOf, first, setWall]
    obtain ⟨tlif, twalls, tflags⟩ := sampleWalls_spec now l (s := sampleWall (now y) y s) distinct
      (fun x hx => by simpa [first] using inside x (List.mem_cons_of_mem y hx))
    have other : ∀ x ∈ l, x ≠ y := fun x hx h => fresh (h ▸ hx)
    refine ⟨tlif.trans lif, fun x => ?_, fun x hx c hc hn => ?_⟩
    · rw [List.foldl_cons, twalls, wall, lif]
      by_cases hxy : x = y
      · subst hxy
        simp [fresh]
      · simp [hxy]
    · rcases List.mem_cons.mp hx with rfl | hx
      · obtain ⟨one, two⟩ := firstFlags c hc hn
        have kept := (Soft.foldl (fun (s' : State) x => soft_sampleWall (now x) x s') l (sampleWall (now x) x s)).flags
        exact ⟨kept 1 one, fun hf => kept 2 (two hf)⟩
      · refine tflags x hx c ?_ ?_
        · rwa [wall, if_neg (other x hx), lif]
        · rwa [wall, if_neg (other x hx)]

/-! ### A completed history -/

section
variable {a b now : Bool × Bool} {w : Wall}

theorem evaluateSamples_eq (a b now : Bool × Bool) :
    let two : Bool → Bool → Bool → Bool := fun p q r => p && q || (p && r || q && r)
    ((evaluateSamples a b now).1 = match two a.1 b.1 now.1, two a.2 b.2 now.2 with
      | true, false => WallState.closed
      | false, true => .opened
      | false, false => .moving
      | true, true => .fault) ∧
    ((evaluateSamples a b now).2 = false ↔ a = b ∧ b = now) := by
  intro two
  have vote : ∀ p q r, majority p q r = two p q r := fun p q r => by simp [majority, two, Bool.or_assoc]
  have derives : (evaluateSamples a b now).1 = derivedState (two a.1 b.1 now.1) (two a.2 b.2 now.2) := by
    simp only [evaluateSamples, vote]
  refine ⟨?_, by simp [evaluateSamples]⟩
  rw [derives]
  cases two a.1 b.1 now.1 <;> cases two a.2 b.2 now.2 <;> rfl

/-- What a completed history leaves alone. -/
theorem settledWall_keeps : (settledWall (completedWall a b now w)).derived = (evaluateSamples a b now).1 ∧
    (settledWall (completedWall a b now w)).noise = (evaluateSamples a b now).2 ∧
    (settledWall (completedWall a b now w)).history = [a, b, now] ∧
    (settledWall (completedWall a b now w)).setting = w.setting ∧
    (settledWall (completedWall a b now w)).neighbour = w.neighbour := by
  have settled : ∀ v : Wall, (settledWall v).derived = v.derived ∧ (settledWall v).noise = v.noise ∧
      (settledWall v).history = v.history ∧ (settledWall v).setting = v.setting ∧
      (settledWall v).neighbour = v.neighbour := fun v => by
    unfold settledWall adoptedWall
    split <;> exact ⟨rfl, rfl, rfl, rfl, rfl⟩
  obtain ⟨h1, h2, h3, h4, h5⟩ := settled (completedWall a b now w)
  rw [h1, h2, h3, h4, h5]
  unfold completedWall debounceStep
  split
  · exact ⟨rfl, rfl, rfl, rfl, rfl⟩
  · split <;> exact ⟨rfl, rfl, rfl, rfl, rfl⟩

theorem settledWall_of_steady (h : (evaluateSamples a b now).1 = w.debounced) :
    (settledWall (completedWall a b now w)).candidate = none ∧ (settledWall (completedWall a b now w)).count = 0 ∧
    (settledWall (completedWall a b now w)).debounced = w.debounced := by
  have done : completedWall a b now w = { w with
      history := [a, b, now], derived := (evaluateSamples a b now).1, noise := (evaluateSamples a b now).2
      candidate := none, count := 0 } := if_pos h
  have waits : toAdopt (completedWall a b now w) = none := by rw [done]; rfl
  simp only [settledWall, waits]
  rw [done]
  exact ⟨rfl, rfl, rfl⟩

theorem completedWall_of_counted (h : (evaluateSamples a b now).1 ≠ w.debounced)
    (hc : w.candidate = some (evaluateSamples a b now).1) : completedWall a b now w = { w with
      history := [a, b, now], derived := (evaluateSamples a b now).1, noise := (evaluateSamples a b now).2
      count := w.count + 1 } := by
  unfold completedWall debounceStep
  rw [if_neg h, if_pos hc]

theorem settledWall_of_new (h : (evaluateSamples a b now).1 ≠ w.debounced)
    (hc : w.candidate ≠ some (evaluateSamples a b now).1) :
    (settledWall (completedWall a b now w)).candidate = some (evaluateSamples a b now).1 ∧
    (settledWall (completedWall a b now w)).count = 1 ∧
    (settledWall (completedWall a b now w)).debounced = w.debounced := by
  have done : completedWall a b now w = { w with
      history := [a, b, now], derived := (evaluateSamples a b now).1, noise := (evaluateSamples a b now).2
      candidate := some (evaluateSamples a b now).1, count := 1 } := by
    unfold completedWall debounceStep
    rw [if_neg h, if_neg hc]
  have waits : toAdopt (completedWall a b now w) = none := by rw [done]; rfl
  simp only [settledWall, waits]
  rw [done]
  exact ⟨rfl, rfl, rfl⟩

theorem settledWall_of_early (h : (evaluateSamples a b now).1 ≠ w.debounced)
    (hc : w.candidate = some (evaluateSamples a b now).1) (early : w.count < 24) :
    (settledWall (completedWall a b now w)).candidate = some (evaluateSamples a b now).1 ∧
    (settledWall (completedWall a b now w)).count = w.count + 1 ∧
    (settledWall (completedWall a b now w)).debounced = w.debounced := by
  have done := completedWall_of_counted h hc
  have waits : toAdopt (completedWall a b now w) = none := by
    rw [done]
    exact if_neg (by show ¬ w.count + 1 ≥ 25; omega)
  simp only [settledWall, waits]
  rw [done]
  exact ⟨hc, rfl, rfl⟩

theorem settledWall_of_stood (h : (evaluateSamples a b now).1 ≠ w.debounced)
    (hc : w.candidate = some (evaluateSamples a b now).1) (stood : 24 ≤ w.count) :
    toAdopt (completedWall a b now w) = some (evaluateSamples a b now).1 ∧
    (settledWall (completedWall a b now w)).candidate = none ∧ (settledWall (completedWall a b now w)).count = 0 ∧
    (settledWall (completedWall a b now w)).debounced = (evaluateSamples a b now).1 := by
  have done := completedWall_of_counted h hc
  have adopts : toAdopt (completedWall a b now w) = some (evaluateSamples a b now).1 := by
    rw [done]
    exact (if_pos (by show w.count + 1 ≥ 25; omega)).trans hc
  simp only [settledWall, adopts]
  exact ⟨trivial, rfl, rfl, rfl⟩

end

/-! ### O37 -/

theorem wallSampleOp_idle {s : State} (h0 : s.lif.frame ≠ 0) (h32 : s.lif.frame ≠ 32) (h64 : s.lif.frame ≠ 64)
    (c o : BitVec 4) : wallSampleOp c o s = s := by
  have idle : ∀ (n : Bool × Bool) (x : Nat), sampleWall n x s = s := fun n x => by
    unfold sampleWall
    simp [h0, h32, h64]
  simp [wallSampleOp, idle, List.range, List.range.loop]

theorem wallOf_of_getElem? {s : State} {x : Nat} {w : Wall} (h : s.walls[x]? = some w) : wallOf s x = w := by
  simp [wallOf, List.getD_eq_getElem?_getD, h]

/-- What the sample of a frame leaves of an input. -/
theorem wallSampleOp_spec {s : State} (hl : s.walls.length = 4) (c o : BitVec 4) {x : Nat} (hx : x < 4) :
    wallOf (wallSampleOp c o s) x = sampledWall s.lif.frame (c.getLsbD x, o.getLsbD x) (wallOf s x) ∧
    ∀ d, adoptedAt s.lif.frame (c.getLsbD x, o.getLsbD x) (wallOf s x) = some d → (wallOf s x).neighbour ≠ none →
      (wallSampleOp c o s).port.flags.getLsbD 1 = true ∧
      (d = .fault → (wallSampleOp c o s).port.flags.getLsbD 2 = true) := by
  obtain ⟨-, walls, flags⟩ := sampleWalls_spec (fun x => (c.getLsbD x, o.getLsbD x)) (List.range 4) (s := s)
    List.nodup_range (fun y hy => by rw [hl]; exact List.mem_range.mp hy)
  have listed : x ∈ List.range 4 := List.mem_range.mpr hx
  exact ⟨(walls x).trans (if_pos listed), flags x listed⟩

theorem wallAdoptionOp_idle {s : State} {x : Nat} (h : (wallOf s x).candidate = none ∨ (wallOf s x).count < 24) :
    wallAdoptionOp x s = s := by
  unfold wallAdoptionOp
  split
  · next c hc =>
    have low : (wallOf s x).count < 24 := h.resolve_left (by simp [hc])
    exact if_neg (by show ¬ (wallOf s x).count + 1 ≥ 25; omega)
  · rfl

theorem wallAdoptionOp_due {s : State} {x : Nat} {c : WallState} (hc : (wallOf s x).candidate = some c)
    (stood : 24 ≤ (wallOf s x).count) : wallAdoptionOp x s = adoptWall x c s := by
  simp only [wallAdoptionOp, hc]
  exact if_pos (by show (wallOf s x).count + 1 ≥ 25; omega)

/-- Settles O37. -/
theorem wallSampleAndAdoption : Obligations.WallSampleAndAdoption := by
  unfold Obligations.WallSampleAndAdoption
  refine ⟨fun s c o live hl => ?_, fun s x live hl hx => ?_⟩
  · rw [exec_of_live _ s live]
    refine ⟨fun h0 h32 h64 => by rw [liveEffect, wallSampleOp_idle h0 h32 h64], _, rfl, by simp [liveEffect],
      by simp [liveEffect], by simp [liveEffect], fun x hx w w' hw hw' => ?_⟩
    obtain ⟨wall, flags⟩ := wallSampleOp_spec hl c o hx
    obtain rfl := wallOf_of_getElem? hw
    obtain rfl := wallOf_of_getElem? (s := wallSampleOp c o s) hw'
    intro now
    rw [wall]
    refine ⟨fun h => if_pos h, fun h a ha => ?_, fun h a b hab => ?_⟩
    · simp [sampledWall, h, ha, now]
    · have done : sampledWall s.lif.frame (c.getLsbD x, o.getLsbD x) (wallOf s x) =
          settledWall (completedWall a b now (wallOf s x)) := by simp [sampledWall, h, hab, now]
      have adopts : adoptedAt s.lif.frame (c.getLsbD x, o.getLsbD x) (wallOf s x) =
          toAdopt (completedWall a b now (wallOf s x)) := by simp [adoptedAt, h, hab, now]
      obtain ⟨derives, noise⟩ := evaluateSamples_eq a b now
      obtain ⟨kd, kn, kh, ks, knb⟩ := settledWall_keeps (a := a) (b := b) (now := now) (w := wallOf s x)
      intro two derived
      have is : (evaluateSamples a b now).1 = derived := derives
      rw [done, kd, kn, noise, kh, ks, knb, ← is]
      refine ⟨rfl, Iff.rfl, rfl, rfl, rfl, fun h _ => settledWall_of_steady h, settledWall_of_new, settledWall_of_early,
        fun hd hc stood => ?_⟩
      obtain ⟨adopted, h1, h2, h3⟩ := settledWall_of_stood hd hc stood
      exact ⟨h1, h2, h3, fun hn => (flags _ (adopts.trans adopted) hn).1,
        fun hn hf => (flags _ (adopts.trans adopted) hn).2 hf⟩
  · rw [exec_of_live _ s live]
    refine ⟨fun h => by rw [liveEffect, wallAdoptionOp_idle h], fun c hc stood => ?_⟩
    rw [liveEffect, wallAdoptionOp_due hc stood]
    exact ⟨_, rfl, adoptWall_walls x c s, adoptWall_of_unconfigured, adoptWall_flags x c s,
      adoptWall_members, adoptWall_of_overridden, by simp, by simp⟩

end Sys2Proof.Machine
end

section

/-! PROOF for O31 (TwoStationsAgree). -/

namespace Sys2Proof.Machine

/-- A sum of the members' samples does not turn on their order. -/
theorem floorSample_congr {s s' : State} (members : s.mix.plan.members.Perm s'.mix.plan.members)
    (factor : s.mix.plan.factor = s'.mix.plan.factor)
    (same : ∀ t ∈ s.mix.plan.members,
      (if t = s.station.number then s.mix.ownPartial else s.lif.lanesIn.getD t 0) =
      (if t = s'.station.number then s'.mix.ownPartial else s'.lif.lanesIn.getD t 0)) :
    floorSample s = floorSample s' := by
  have term : ∀ (own : Nat) (p : Sample) (lanes : List Sample) (t : Nat),
      (if t = own then p.toInt else (lanes.getD t 0).toInt) = (if t = own then p else lanes.getD t 0).toInt :=
    fun own p lanes t => (apply_ite BitVec.toInt _ _ _).symm
  have sums : floorSum s.station.number s.mix.ownPartial s.lif.lanesIn s.mix.plan.members =
      floorSum s'.station.number s'.mix.ownPartial s'.lif.lanesIn s'.mix.plan.members := by
    calc floorSum s.station.number s.mix.ownPartial s.lif.lanesIn s.mix.plan.members
        = (s.mix.plan.members.map (fun t =>
            if t = s'.station.number then s'.mix.ownPartial.toInt else (s'.lif.lanesIn.getD t 0).toInt)).sum := by
          refine congrArg List.sum (List.map_congr_left fun t ht => ?_)
          rw [term, term, same t ht]
      _ = floorSum s'.station.number s'.mix.ownPartial s'.lif.lanesIn s'.mix.plan.members :=
          (members.map _).sum_eq
  simp only [floorSample, floorRaw, sums, factor]

/-- Of two keys of different stations one is higher. -/
theorem placeHigher_total {a b : PlaceKey} (h : a.station ≠ b.station) : placeHigher a b = true ∨ placeHigher b a = true := by
  simp only [placeHigher, Bool.or_eq_true, Bool.and_eq_true, decide_eq_true_iff, beq_iff_eq]
  omega

/-- With one place left, a station that sees a higher key does not win it. -/
theorem not_placeWins_of_higher {s : State} {c : PlaceClaim} {k : PlaceKey} (hn : c.displaced = none) (hcls : c.cls ≤ 1)
    (hk : k ∈ countedIntents s) (higher : placeHigher k ⟨c.cls, s.station.number, c.seat⟩ = true)
    (last : countedHolders s + 1 = (context s).speakerLimit) : placeWins s c = false := by
  rw [← Bool.not_eq_true]
  simp only [placeWins, hn, normalPlaceWins_iff]
  have listed : k ∈ (countedIntents s).filter (fun k => placeHigher k ⟨c.cls, s.station.number, c.seat⟩) :=
    List.mem_filter.mpr ⟨hk, higher⟩
  have := List.length_pos_of_mem listed
  omega

/-- Settles O31. -/
theorem twoStationsAgree : Obligations.TwoStationsAgree := by
  unfold Obligations.TwoStationsAgree
  refine ⟨fun s s' members factor same => floorSample_congr members factor same,
    fun s s' c c' hn hn' hcls hcls' other seen seen' last last' ⟨wins, wins'⟩ => ?_⟩
  rcases placeHigher_total (a := ⟨c'.cls, s'.station.number, c'.seat⟩) (b := ⟨c.cls, s.station.number, c.seat⟩)
    (by exact other.symm) with higher | higher
  · rw [not_placeWins_of_higher hn hcls seen higher last] at wins
    cases wins
  · rw [not_placeWins_of_higher hn' hcls' seen' higher last'] at wins'
    cases wins'

end Sys2Proof.Machine
end

section

/-! SUPPORT and PROOF for O29 (LoopCheckAndSourceStep): the own slot as its claim work and the source step after it, the relay
path as a chain of holders, and the source step written out. -/

namespace Sys2Proof.Machine

/-! ### The shape of an own slot -/

section
variable (s : State)

/-- The state in which the claim work of an own slot is done. -/
def slotWorked : State := claimWork (markedLanes s) (deskConflictStep (roomCommandWork s))

/-- The end of an own slot: sources, announcement, room command queue, demand. -/
def slotEnd : State := evalDemand (retireCommand (compose (sourceStep s)))

theorem compose_eq : compose s = { s with lif := (compose s).lif } := by
  unfold compose
  split <;> rfl

theorem retireCommand_eq : retireCommand s = { s with
    room := { s.room with queue := (retireCommand s).room.queue, current := (retireCommand s).room.current } } := by
  unfold retireCommand removeCurrent
  repeat' split
  all_goals rfl

theorem slotEnd_eq : slotEnd s = { sourceStep s with
    lif := (slotEnd s).lif, room := (slotEnd s).room, lanes := (slotEnd s).lanes } := by
  have demand : ∀ u : State, evalDemand u = { u with lanes := (evalDemand u).lanes } := fun _ => rfl
  unfold slotEnd
  rw [demand, retireCommand_eq, compose_eq]

/-- What the end of an own slot leaves as the claim work and the source step left it. -/
theorem slotEnd_keeps : (slotEnd s).station = s.station ∧ (slotEnd s).peers = s.peers ∧ (slotEnd s).walls = s.walls ∧
    (slotEnd s).claims = s.claims ∧ (slotEnd s).dlc = s.dlc ∧ (slotEnd s).floor = s.floor ∧
    (slotEnd s).booth = (sourceStep s).booth ∧ (slotEnd s).port = (sourceStep s).port := by
  rw [slotEnd_eq]
  simp

end

theorem exec_ownSlot_eq {s : State} (live : Live s) (conf : s.station.state ≠ .unconfigured) :
    exec .ownSlot s = .next (slotEnd (slotWorked s)) := exec_ownSlot live conf

/-! ### The relay path -/

section
variable (s : State)

theorem relayLeads_iff (pivot : Nat) (h : Holder) (n : Nat) : relayLeads pivot h = some n ↔
    h.relay = .language n ∨ h.relay = .auto ∧ n = pivot ∧ n ≠ 0 ∧ n ≠ h.output := by
  unfold relayLeads
  cases h.relay with
  | floor => simp
  | language k => simp
  | auto =>
    by_cases off : (pivot = 0 || pivot == h.output) = true
    · rw [if_pos off]
      refine iff_of_false (by simp) ?_
      rintro (hl | ⟨-, rfl, h0, ho⟩)
      · cases hl
      · simp [h0, ho] at off
    · rw [if_neg off]
      simp only [Bool.or_eq_true, decide_eq_true_iff, beq_iff_eq, not_or] at off
      constructor
      · intro hn
        obtain rfl := Option.some.inj hn
        exact .inr ⟨rfl, rfl, off.1, off.2⟩
      · rintro (hl | ⟨-, rfl, -, -⟩)
        · cases hl
        · rfl

section
variable {s : State} {o k m : Nat}

theorem relayPath_of_free (hf : firstHolder (fun x => estimate x.onAirAge x.since) (holders s m) = none) :
    relayPath s o (k + 1) m = none := by
  simp only [relayPath, hf]

theorem relayPath_of_end {h : Holder} (hf : firstHolder (fun x => estimate x.onAirAge x.since) (holders s m) = some h)
    (hl : relayLeads (context s).pivot h = none) : relayPath s o (k + 1) m = none := by
  simp only [relayPath, hf, hl]

theorem relayPath_of_lead {h : Holder} {n : Nat}
    (hf : firstHolder (fun x => estimate x.onAirAge x.since) (holders s m) = some h)
    (hl : relayLeads (context s).pivot h = some n) :
    relayPath s o (k + 1) m = if n = o then some [h] else (relayPath s o k n).map (h :: ·) := by
  simp only [relayPath, hf, hl]

end

/-- The chain of holders from language m that comes back to language o: each leads to the next, and the last to o. -/
def RelayPath (o : Nat) : List Holder → Nat → Prop
  | [], _ => False
  | h :: hs, m => firstHolder (fun x => estimate x.onAirAge x.since) (holders s m) = some h ∧
      ∃ n, relayLeads (context s).pivot h = some n ∧ (n = o ∧ hs = [] ∨ n ≠ o ∧ RelayPath o hs n)

theorem relayPath_iff (o : Nat) : ∀ (k m : Nat) (hs : List Holder),
    relayPath s o k m = some hs ↔ RelayPath s o hs m ∧ hs.length ≤ k
  | 0, m, hs => by
    cases hs <;> simp [relayPath, RelayPath]
  | k + 1, m, hs => by
    cases hf : firstHolder (fun x => estimate x.onAirAge x.since) (holders s m) with
    | none =>
      rw [relayPath_of_free hf]
      cases hs <;> simp [RelayPath, hf]
    | some h =>
      cases hl : relayLeads (context s).pivot h with
      | none =>
        rw [relayPath_of_end hf hl]
        cases hs with
        | nil => simp [RelayPath]
        | cons g gs =>
          refine iff_of_false (by simp) ?_
          rintro ⟨⟨hg, n, hn, -⟩, -⟩
          rw [hf] at hg
          obtain rfl := Option.some.inj hg
          rw [hl] at hn
          cases hn
      | some n =>
        rw [relayPath_of_lead hf hl]
        by_cases back : n = o
        · rw [if_pos back, Option.some.injEq]
          cases hs with
          | nil => simp [RelayPath]
          | cons g gs =>
            simp only [RelayPath, hf, Option.some.injEq, List.cons.injEq]
            constructor
            · rintro ⟨rfl, rfl⟩
              exact ⟨⟨rfl, n, hl, .inl ⟨back, rfl⟩⟩, by simp⟩
            · rintro ⟨⟨rfl, n', hn', hor⟩, -⟩
              rw [hl] at hn'
              obtain rfl := Option.some.inj hn'
              exact ⟨rfl, (hor.resolve_right fun h => h.1 back).2.symm⟩
        · rw [if_neg back, Option.map_eq_some_iff]
          cases hs with
          | nil => simp [RelayPath]
          | cons g gs =>
            simp only [RelayPath, hf, Option.some.injEq, List.cons.injEq, List.length_cons, Nat.add_le_add_iff_right]
            constructor
            · rintro ⟨gs', hgs, rfl, rfl⟩
              obtain ⟨path, short⟩ := (relayPath_iff o k n gs').mp hgs
              exact ⟨⟨rfl, n, hl, .inr ⟨back, path⟩⟩, short⟩
            · rintro ⟨⟨rfl, n', hn', hor⟩, short⟩
              rw [hl] at hn'
              obtain rfl := Option.some.inj hn'
              have path := (hor.resolve_left fun h => back h.1).2
              exact ⟨gs, (relayPath_iff o k n gs).mpr ⟨path, short⟩, rfl, rfl⟩

/-- A chain as the languages it goes through: one for each holder, and o at the end and not before. -/
theorem relayPath_languages (o : Nat) : ∀ (hs : List Holder) (l : Nat), RelayPath s o hs l ↔ 1 ≤ hs.length ∧
    ∃ ms : List Nat, ms.length = hs.length + 1 ∧ ms[0]? = some l ∧
      ∀ i < hs.length, ∀ m h n, ms[i]? = some m → hs[i]? = some h → ms[i + 1]? = some n →
        firstHolder (fun x => estimate x.onAirAge x.since) (holders s m) = some h ∧
        relayLeads (context s).pivot h = some n ∧ (n = o ↔ i + 1 = hs.length)
  | [], l => by simp [RelayPath]
  | h :: hs, l => by
    simp only [RelayPath]
    constructor
    · rintro ⟨hf, n, hn, ⟨back, rfl⟩ | ⟨on, rest⟩⟩
      · refine ⟨by simp, [l, n], rfl, rfl, fun i hi m g k hm hg hk => ?_⟩
        obtain rfl : i = 0 := by simpa using hi
        obtain rfl : l = m := by simpa using hm
        obtain rfl : h = g := by simpa using hg
        obtain rfl : n = k := by simpa using hk
        exact ⟨hf, hn, iff_of_true back rfl⟩
      · obtain ⟨some, ms, hlen, h0, steps⟩ := (relayPath_languages o hs n).mp rest
        refine ⟨by simp, l :: ms, by simp [hlen], rfl, fun i hi m g k hm hg hk => ?_⟩
        cases i with
        | zero =>
          obtain rfl : l = m := by simpa using hm
          obtain rfl : h = g := by simpa using hg
          obtain rfl : n = k := by
            rw [List.getElem?_cons_succ, h0] at hk
            exact Option.some.inj hk
          exact ⟨hf, hn, iff_of_false on (by simp only [List.length_cons]; omega)⟩
        | succ i =>
          obtain ⟨h1, h2, h3⟩ := steps i (by simpa using hi) m g k (by simpa using hm) (by simpa using hg) (by simpa using hk)
          exact ⟨h1, h2, h3.trans (by simp)⟩
    · rintro ⟨-, ms, hlen, h0, steps⟩
      obtain ⟨m0, ms, rfl⟩ : ∃ m0 ms', ms = m0 :: ms' := List.exists_cons_of_ne_nil (by rintro rfl; simp at hlen)
      obtain rfl : m0 = l := by simpa using h0
      obtain ⟨n, ms, rfl⟩ : ∃ n ms', ms = n :: ms' := List.exists_cons_of_ne_nil (by rintro rfl; simp at hlen)
      obtain ⟨hf, hn, hend⟩ := steps 0 (by simp) m0 h n rfl rfl rfl
      refine ⟨hf, n, hn, ?_⟩
      by_cases back : n = o
      · have : hs.length = 0 := by simpa using (hend.mp back).symm
        exact .inl ⟨back, List.length_eq_zero_iff.mp this⟩
      · refine .inr ⟨back, (relayPath_languages o hs n).mpr ⟨?_, n :: ms, by simpa using hlen, rfl,
          fun i hi m g k hm hg hk => ?_⟩⟩
        · by_contra none
          exact back (hend.mpr (by simp only [List.length_cons]; omega))
        · obtain ⟨h1, h2, h3⟩ := steps (i + 1) (by simpa using hi) m g k (by simpa using hm) (by simpa using hg)
            (by simpa using hk)
          exact ⟨h1, h2, h3.trans (by simp)⟩

end

/-! ### The loop check -/

theorem keepsAgainst_eq_false_iff (own age t est : Nat) : keepsAgainst own age t est = false ↔
    if own < t then age + 2 ≤ est else age < est + 3 := by
  unfold keepsAgainst
  split
  · rw [decide_eq_false_iff_not, not_lt]
  · rw [decide_eq_false_iff_not, not_le]

theorem losesLoop_iff (s : State) (e age : Nat) (h : Holder) : losesLoop s e age h = true ↔
    if h.station = s.station.number then age < h.selectionAge ∨ age = h.selectionAge ∧ h.desk < e
    else if s.station.number < h.station then age + 2 ≤ min (h.selectionAge + h.since) 65535
    else age < min (h.selectionAge + h.since) 65535 + 3 := by
  unfold losesLoop
  split
  · simp
  · rw [Bool.not_eq_true', keepsAgainst_eq_false_iff]
    rfl

theorem manualRelay_iff (h : Holder) : manualRelay h = true ↔ ∃ n, h.relay = .language n := by
  unfold manualRelay
  cases h.relay <;> simp

theorem loopForced_iff (s : State) (e : Nat) : loopForced s e = true ↔ (deskOf s e).state = .onAir ∧
    ∃ o l hs, (deskOf s e).output = some o ∧ (deskOf s e).relay = .language l ∧ relayPath s o 4 l = some hs ∧
      ∀ h ∈ hs, (∃ n, h.relay = .language n) → losesLoop s e (deskOf s e).selectionAge h = true := by
  have every : ∀ hs : List Holder, (hs.filter manualRelay).all (losesLoop s e (deskOf s e).selectionAge) = true ↔
      ∀ h ∈ hs, (∃ n, h.relay = .language n) → losesLoop s e (deskOf s e).selectionAge h = true := fun hs => by
    simp only [List.all_eq_true, List.mem_filter, manualRelay_iff, and_imp]
  unfold loopForced
  split
  · next o l hair ho hr =>
    simp only [hair, ho, hr, true_and, Option.some.injEq, Relay.language.injEq]
    cases hp : relayPath s o 4 l with
    | none =>
      refine iff_of_false (by simp) ?_
      rintro ⟨o', l', hs, rfl, rfl, hpath, -⟩
      rw [hp] at hpath
      cases hpath
    | some hs =>
      simp only [every]
      constructor
      · exact fun h => ⟨o, l, hs, rfl, rfl, hp, h⟩
      · rintro ⟨o', l', hs', rfl, rfl, hpath, h⟩
        rw [hp] at hpath
        obtain rfl := Option.some.inj hpath
        exact h
  · next none =>
    refine iff_of_false (by simp) ?_
    rintro ⟨hair, o, l, hs, ho, hr, -⟩
    exact none o l hair ho hr

/-- A desk of the table set. -/
theorem modifyDesk_eq_set {s : State} {e : Nat} (he : e < s.booth.desks.length) (f : Desk → Desk) :
    modifyDesk e f s = { s with booth := { s.booth with desks := s.booth.desks.set e (f (deskOf s e)) } } := by
  have desk : deskOf s e = s.booth.desks.get ⟨e, he⟩ := by simp [deskOf, List.getD_eq_getElem?_getD, he]
  rw [modifyDesk, List.modify_eq_set_get f he, desk]

theorem forceRelay_eq {s : State} {e : Nat} (he : e < s.booth.desks.length) : forceRelay e s = { s with
    booth := { s.booth with desks := s.booth.desks.set e { deskOf s e with
      relay := .floor, selectionAge := 0, loopMark := true } }
    port := { s.port with flags := s.port.flags ||| BitVec.twoPow 16 10 } } := by
  rw [forceRelay, modifyDesk_eq_set he]
  rfl

/-- The loop check of the first desks. -/
def checkedLoops (s : State) (k : Nat) : State :=
  (List.range k).foldl (fun s' e => if loopForced s' e then forceRelay e s' else s') s

theorem checkedLoops_succ (s : State) (k : Nat) : checkedLoops s (k + 1) =
    if loopForced (checkedLoops s k) k then forceRelay k (checkedLoops s k) else checkedLoops s k := by
  simp only [checkedLoops, List.range_succ, List.foldl_append]
  rfl

theorem checkedLoops_count (s : State) (k : Nat) : (checkedLoops s k).booth.desks.length = s.booth.desks.length :=
  foldl_keeps (fun u : State => u.booth.desks.length) (fun u e => by
    split
    · simp [forceRelay, modifyDesk]
    · rfl) _ _

/-- The source step after its loop check. -/
theorem sourceStep_eq (s : State) : sourceStep s = { loopCheck s with booth := { (loopCheck s).booth with
    desks := (loopCheck s).booth.desks.map (fun d => { d with
      engaged := d.engaged && d.output.any (fun l => hasHolder (loopCheck s) l)
      pendingSource := match d.relay with
        | .floor => .floor
        | .language l => .language l
        | .auto => resolveAuto (loopCheck s) d }) } } := by
  unfold sourceStep
  generalize loopCheck s = t
  have dimmed : ∀ d : Desk, (if d.output.all (fun l => !hasHolder t l) then { d with engaged := false } else d) =
      { d with engaged := d.engaged && d.output.any (fun l => hasHolder t l) } := fun d => by
    have none : d.output.all (fun l => !hasHolder t l) = !d.output.any (fun l => hasHolder t l) := by
      cases d.output <;> simp
    rw [none]
    cases d.output.any (fun l => hasHolder t l) <;> simp
  have same : ∀ l, hasHolder (dimEngaged t) l = hasHolder t l := hasHolder_congr (t := dimEngaged t) (s := t)
    (by simp [dimEngaged, dimmed, Function.comp_def]) rfl
  have resolves : ∀ d : Desk, resolveAuto (dimEngaged t) { d with
      engaged := d.engaged && d.output.any (fun l => hasHolder t l) } = resolveAuto t d := fun d =>
    resolveAuto_congr (t := dimEngaged t) (s := t) rfl rfl same rfl rfl
  have desks : (workOutSources (dimEngaged t)).booth.desks = t.booth.desks.map (fun d => { d with
      engaged := d.engaged && d.output.any (fun l => hasHolder t l)
      pendingSource := match d.relay with
        | .floor => .floor
        | .language l => .language l
        | .auto => resolveAuto t d }) := by
    have inner : (dimEngaged t).booth.desks = t.booth.desks.map (fun d => { d with
        engaged := d.engaged && d.output.any (fun l => hasHolder t l) }) := List.map_congr_left fun d _ => dimmed d
    rw [workOutSources, inner, List.map_map]
    refine List.map_congr_left fun d _ => ?_
    simp only [Function.comp_apply, sourceOf, resolves] <;> cases d.relay <;> rfl
  rw [← desks]
  rfl

/-- Settles O29. -/
theorem loopCheckAndSourceStep : Obligations.LoopCheckAndSourceStep := by
  unfold Obligations.LoopCheckAndSourceStep
  refine ⟨fun s live conf => ⟨_, exec_ownSlot_eq live conf, ?_⟩, fun s h4 => ?_, fun age hs => ?_, fun s l h => ?_⟩
  · obtain ⟨-, -, -, -, -, -, booth, port⟩ := slotEnd_keeps (slotWorked s)
    exact ⟨booth, port⟩
  · intro first leads path loses forced t
    have leads_iff : ∀ u h n, relayLeads (context u).pivot h = some n ↔ leads u h n := fun u h n => relayLeads_iff _ h n
    have path_iff : ∀ u l o hs, relayPath u o 4 l = some hs ↔ path u l o hs := fun u l o hs => by
      rw [relayPath_iff, relayPath_languages]
      simp only [leads_iff]
      exact ⟨fun ⟨⟨one, ms⟩, short⟩ => ⟨one, short, ms⟩, fun ⟨one, short, ms⟩ => ⟨⟨one, ms⟩, short⟩⟩
    have forced_iff : ∀ u e, loopForced u e = true ↔ forced u e := fun u e => by
      rw [loopForced_iff]
      simp only [losesLoop_iff, path_iff]
      rfl
    refine ⟨⟨checkedLoops s, rfl, rfl, fun e he => ⟨fun hf => ?_, fun hf => ?_⟩⟩, sourceStep_eq s⟩
    · rw [checkedLoops_succ, if_pos ((forced_iff _ e).mpr hf), forceRelay_eq (by rw [checkedLoops_count, h4]; exact he)]
    · rw [checkedLoops_succ, if_neg ((forced_iff _ e).not.mpr hf)]
  · cases hs with
    | nil => simp [firstHolder, sortBy]
    | cons x xs =>
      obtain ⟨h, hh, first, least⟩ := firstHolder_of_ne_nil age (List.cons_ne_nil x xs)
      refine ⟨iff_of_false (by simp [first]) (by simp), fun g hg => ?_⟩
      rw [first] at hg
      obtain rfl := Option.some.inj hg
      exact ⟨hh, least⟩
  · rw [mem_holders_iff, mem_ownHolders, mem_peerHolders]
    constructor
    · rintro ⟨⟨e, d, k, hd, hair, hk, rfl⟩ | ⟨p, hp, d, hd, hair, rfl⟩, hl⟩
      · obtain rfl : k = l := hl
        exact .inl ⟨e, d, hd, hair, hk, rfl⟩
      · obtain rfl : d.output = l := hl
        exact .inr ⟨p, hp, d, hd, hair, rfl, rfl⟩
    · rintro (⟨e, d, hd, hair, hk, rfl⟩ | ⟨p, hp, d, hd, hair, rfl, rfl⟩)
      · exact ⟨.inl ⟨e, d, l, hd, hair, hk, rfl⟩, rfl⟩
      · exact ⟨.inr ⟨p, hp, d, hd, hair, rfl⟩, rfl⟩

end Sys2Proof.Machine
end

section

/-! PROOF for O22 (OwnSlotQueueAndWants). -/

namespace Sys2Proof.Machine

/-! ### The room command queue at an own slot -/

/-- The queue after an own slot: a command that was current three times has left it. -/
def retired (r : Room) : Room :=
  match r.current with
  | some c => if c.repeats ≥ 3 then { r with queue := r.queue.tail, current := none } else r
  | none => r

theorem retired_of_last {r : Room} {c : CurrentCommand} (hc : r.current = some c) (last : 3 ≤ c.repeats) :
    retired r = { r with queue := r.queue.tail, current := none } := by
  simp only [retired, hc]
  exact if_pos last

theorem retired_of_early {r : Room} {c : CurrentCommand} (hc : r.current = some c) (early : c.repeats < 3) :
    retired r = r := by
  simp only [retired, hc]
  exact if_neg (not_le.mpr early)

theorem retireCommand_room (s : State) : (retireCommand s).room = retired s.room := by
  unfold retireCommand retired
  cases hc : s.room.current with
  | none => rfl
  | some c =>
    by_cases h : c.repeats ≥ Config.commandRepeats
    · simp only [if_pos h, removeCurrent, hc]
      exact (if_pos h).symm
    · simp only [if_neg h]
      exact (if_neg h).symm

theorem slotEnd_room (w : State) : (slotEnd w).room = retired w.room := by
  have demand : ∀ u : State, (evalDemand u).room = u.room := fun _ => rfl
  have composed : ∀ u : State, (compose u).room = u.room := fun u => by rw [compose_eq]
  have sources : (sourceStep w).room = w.room := by simp
  rw [slotEnd, demand, retireCommand_room, composed, sources]

theorem slotWorked_room (s : State) : (slotWorked s).room = (roomCommandWork s).room := by simp [slotWorked]

theorem actOn_queue (c : RoomCommand) (s : State) : (actOn c s).room.queue = s.room.queue ∧
    (actOn c s).room.current = s.room.current ∧ (actOn c s).room.counter = s.room.counter := by simp

theorem queue_of_joining {s : State} (join : s.station.state = .joining) (hc : s.room.current = none) :
    (slotEnd (slotWorked s)).room = s.room := by
  rw [slotEnd_room, slotWorked_room, roomCommandWork_idle (.inl join), retired, hc]

section
variable {s : State} (conf : s.station.state ≠ .unconfigured) (on : s.station.state ≠ .joining)

theorem queue_of_idle (hc : s.room.current = none) (hq : s.room.queue = []) :
    (slotEnd (slotWorked s)).room = s.room := by
  rw [slotEnd_room, slotWorked_room, roomCommandWork_idle (.inr ⟨hc, hq⟩), retired, hc]

include conf on

theorem queue_of_front (hc : s.room.current = none) (hq : s.room.queue ≠ []) :
    (slotEnd (slotWorked s)).room.queue = s.room.queue ∧
    (slotEnd (slotWorked s)).room.counter = (s.room.counter + 1) % 16 ∧
    (slotEnd (slotWorked s)).room.current = some ⟨(s.room.counter + 1) % 16, 1⟩ := by
  obtain ⟨c, rest, hcons⟩ := List.exists_cons_of_ne_nil hq
  have work := roomCommandWork_front conf on hc (c := c) (by rw [hcons]; rfl)
  obtain ⟨queue, current, counter⟩ := actOn_queue c { s with room := { s.room with
    counter := (s.room.counter + 1) % 16, current := some ⟨(s.room.counter + 1) % 16, 1⟩ } }
  rw [← work] at queue current counter
  rw [slotEnd_room, slotWorked_room, retired, current]
  exact ⟨queue, counter, current⟩

theorem queue_of_current {c : CurrentCommand} (hc : s.room.current = some c) :
    (slotEnd (slotWorked s)).room.counter = s.room.counter ∧
    (c.repeats < 2 → (slotEnd (slotWorked s)).room.queue = s.room.queue ∧
      (slotEnd (slotWorked s)).room.current = some ⟨c.sequence, c.repeats + 1⟩) ∧
    (2 ≤ c.repeats → (slotEnd (slotWorked s)).room.queue = s.room.queue.tail ∧
      (slotEnd (slotWorked s)).room.current = none) := by
  rw [slotEnd_room, slotWorked_room, roomCommandWork_current conf on hc]
  by_cases last : 2 ≤ c.repeats
  · rw [retired_of_last (c := { c with repeats := c.repeats + 1 }) rfl (by show 3 ≤ c.repeats + 1; omega)]
    exact ⟨rfl, fun h => absurd h (not_lt.mpr last), fun _ => ⟨rfl, rfl⟩⟩
  · rw [retired_of_early (c := { c with repeats := c.repeats + 1 }) rfl (by show c.repeats + 1 < 3; omega)]
    exact ⟨rfl, fun _ => ⟨rfl, rfl⟩, fun h => absurd h last⟩

end

/-! ### The wants of a joining station -/

theorem unitOf_placeRefused (o : Origin) (q : Nat) (s : State) (a : Nat) : unitOf (placeRefused o q s) a =
    if (o = .press ∧ q = a) ∧ (unitOf s a).present = true then { unitOf s a with fullTimer := 500 } else unitOf s a := by
  unfold placeRefused
  by_cases press : o = .press
  · have units : unitOf (refusePress q s) a = unitOf (showFull q s) a := rfl
    rw [if_pos press, units]
    by_cases here : q = a
    · subst here
      by_cases inside : 1 ≤ q ∧ q ≤ s.dlc.units.length
      · rw [showFull, unitOf_modifyUnit q q _ s inside.1 inside.1 inside.2, if_pos rfl]
        by_cases present : (unitOf s q).present = true
        · rw [if_pos present, if_pos ⟨⟨press, rfl⟩, present⟩]
          rfl
        · rw [if_neg present, if_neg (fun h => present h.2)]
      · have absent : unitOf s q = UnitEntry.initial := by
          unfold unitOf
          split
          · rfl
          · rw [List.getD_eq_getElem?_getD, List.getElem?_eq_none (by omega)]
            rfl
        have count : (showFull q s).dlc.units.length = s.dlc.units.length := by
          unfold showFull modifyUnit
          split <;> simp
        have out : unitOf (showFull q s) q = UnitEntry.initial := by
          unfold unitOf
          split
          · rfl
          · rw [List.getD_eq_getElem?_getD, List.getElem?_eq_none (by omega)]
            rfl
        rw [out, absent, if_neg (by simp [UnitEntry.initial])]
    · rw [showFull, unitOf_modifyUnit_of_ne (fun h => here h.symm), if_neg (fun h => here h.1.2)]
  · rw [if_neg press, if_neg (fun h => press h.1.1)]

/-- The place wants of a joining station, one after another: a press is refused at its seat. -/
theorem refusals_spec : ∀ (ws : List PlaceWant) (s : State),
    let t := ws.foldl (fun s' w => placeRefused w.origin w.seat s') s
    (∀ n, s.port.flags.getLsbD n = true → t.port.flags.getLsbD n = true) ∧
    (∀ w ∈ ws, w.origin = .press → t.port.flags.getLsbD 6 = true) ∧
    ∀ a, (unitOf s a).present = true → (unitOf t a).present = true ∧
      ((unitOf s a).fullTimer = 500 ∨ (∃ w ∈ ws, w.origin = .press ∧ w.seat = a) → (unitOf t a).fullTimer = 500)
  | [], s => ⟨fun _ h => h, by simp, fun a h => ⟨h, by simp⟩⟩
  | w :: ws, s => by
    obtain ⟨flags, refused, units⟩ := refusals_spec ws (placeRefused w.origin w.seat s)
    obtain ⟨-, -, -, press, -⟩ := placeRefused_keeps_tables w.origin w.seat s
    refine ⟨fun n h => flags n ((soft_placeRefused _ _ s).flags n h), fun x hx hp => ?_, fun a ha => ?_⟩
    · rcases List.mem_cons.mp hx with rfl | hx
      · exact flags 6 (press hp)
      · exact refused x hx hp
    · have first := unitOf_placeRefused w.origin w.seat s a
      have stays : (unitOf (placeRefused w.origin w.seat s) a).present = true := by
        rw [first]
        split <;> exact ha
      obtain ⟨present, timer⟩ := units a stays
      refine ⟨present, fun hor => timer ?_⟩
      rw [first]
      by_cases here : w.origin = .press ∧ w.seat = a
      · rw [if_pos ⟨here, ha⟩]
        exact .inl rfl
      · rw [if_neg (fun h => here h.1)]
        refine hor.imp_right fun ⟨x, hx, hp⟩ => ?_
        rcases List.mem_cons.mp hx with rfl | hx
        · exact absurd hp here
        · exact ⟨x, hx, hp⟩

/-- The language wants of a joining station: each desk that wants a language is engaged. -/
theorem engagements_spec : ∀ (ws : List LanguageWant) (s : State),
    let t := ws.foldl (fun s' w => engageDesk w.desk s') s
    (∀ n, s.port.flags.getLsbD n = true → t.port.flags.getLsbD n = true) ∧
    (ws ≠ [] → t.port.flags.getLsbD 9 = true) ∧
    ∀ e, deskOf t e = if (∃ w ∈ ws, w.desk = e) ∧ e < s.booth.desks.length then { deskOf s e with engaged := true }
      else deskOf s e
  | [], s => ⟨fun _ h => h, by simp, fun e => by simp⟩
  | w :: ws, s => by
    obtain ⟨flags, -, desks⟩ := engagements_spec ws (engageDesk w.desk s)
    have raised : (engageDesk w.desk s).port.flags.getLsbD 9 = true := by simp [engageDesk, flagBit]
    have count : (engageDesk w.desk s).booth.desks.length = s.booth.desks.length := by simp [engageDesk]
    refine ⟨fun n h => flags n ((soft_engageDesk _ s).flags n h), fun _ => flags 9 raised, fun e => ?_⟩
    have here : ∀ x, deskOf (engageDesk w.desk s) x = deskOf (modifyDesk w.desk (fun d => { d with engaged := true }) s) x :=
      fun _ => rfl
    rw [List.foldl_cons, desks, count, here]
    by_cases inside : e < s.booth.desks.length
    · by_cases we : w.desk = e
      · subst we
        rw [deskOf_modifyDesk w.desk w.desk _ s inside, if_pos rfl]
        simp [inside]
      · rw [deskOf_modifyDesk_of_ne (fun h => we h.symm)]
        simp [we]
    · have beyond : ∀ u : State, u.booth.desks.length = s.booth.desks.length → deskOf u e = Desk.initial := fun u hu => by
        rw [deskOf, List.getD_eq_getElem?_getD, List.getElem?_eq_none (by omega)]
        rfl
      rw [if_neg (fun h => inside h.2), if_neg (fun h => inside h.2), beyond _ (by simp), beyond s rfl]

/-! ### O22 -/

theorem slotWorked_of_joining {s : State} (join : s.station.state = .joining) : slotWorked s = dropWants s := by
  have stays : deskConflictStep s = s := by
    rw [deskConflictStep_eq, if_neg (by simp [join])]
  simp only [slotWorked, roomCommandWork_idle (.inl join), stays, claimWork, join]

/-- The source step leaves state and output of every desk, and lets the engaged mark of a language with a holder stand. -/
theorem sourceStep_engaged {s : State} {e l : Nat} (he : (deskOf s e).engaged = true) (ho : (deskOf s e).output = some l)
    (held : hasHolder s l = true) : (deskOf (sourceStep s) e).engaged = true := by
  have face : (loopCheck s).booth.desks.map (fun d => (d.state, d.output, d.engaged)) =
      s.booth.desks.map (fun d => (d.state, d.output, d.engaged)) :=
    foldl_keeps (fun u : State => u.booth.desks.map (fun d => (d.state, d.output, d.engaged))) (fun u x => by
      split
      · exact map_modifyDesk (fun d => (d.state, d.output, d.engaged)) (fun _ => by rfl) x u
      · rfl) _ _
  have desk := deskOf_of_map (g := fun d => (d.state, d.output, d.engaged)) face e
  simp only [Prod.mk.injEq] at desk
  have heldThere : hasHolder (loopCheck s) l = true := by
    rw [hasHolder_congr (t := loopCheck s) (s := s) ?_ (memberPeers_congr (by simp) (by simp) (by simp)), held]
    have := congrArg (List.map (fun x => (x.1, x.2.1))) face
    simpa [Function.comp_def] using this
  have inside : e < (loopCheck s).booth.desks.length := by
    by_contra out
    have none : (deskOf (loopCheck s) e).output = none := by
      rw [deskOf_of_le (not_lt.mp out)]
      rfl
    rw [desk.2.1, ho] at none
    cases none
  have entry : ∃ d, (sourceStep s).booth.desks[e]? = some d ∧ d.engaged = ((deskOf (loopCheck s) e).engaged &&
      (deskOf (loopCheck s) e).output.any (fun l => hasHolder (loopCheck s) l)) := by
    rw [sourceStep_eq, List.getElem?_map, getElem?_of_deskOf inside]
    exact ⟨_, rfl, rfl⟩
  obtain ⟨d, hd, engaged⟩ := entry
  rw [deskOf_of_getElem? hd, engaged, desk.2.2, desk.2.1, ho, he]
  simp [heldThere]

theorem claimWork_wants (marked : List Nat) {u : State} (conf : u.station.state ≠ .unconfigured) :
    (claimWork marked u).claims.placeWants = [] ∧ (claimWork marked u).claims.languageWants = [] := by
  have raised : ∀ v : State, (raiseStep v).claims.placeWants = [] ∧ (raiseStep v).claims.languageWants = [] := fun v => by
    simp [raiseStep, raisePlaces, raiseLanguages]
  unfold claimWork
  split
  · exact raised _
  · exact raised _
  · exact ⟨rfl, rfl⟩
  · next h => exact absurd h conf

theorem slotWorked_wants {s : State} (conf : s.station.state ≠ .unconfigured) :
    (slotWorked s).claims.placeWants = [] ∧ (slotWorked s).claims.languageWants = [] :=
  claimWork_wants _ (by simpa using conf)

theorem dropWants_spec (s : State) :
    (∀ w ∈ s.claims.placeWants, w.origin = .press → (dropWants s).port.flags.getLsbD 6 = true ∧
      ((unitOf s w.seat).present = true → (unitOf (dropWants s) w.seat).fullTimer = 500)) ∧
    (∀ w ∈ s.claims.languageWants, (dropWants s).port.flags.getLsbD 9 = true ∧
      (w.desk < s.booth.desks.length → deskOf (dropWants s) w.desk = { deskOf s w.desk with engaged := true })) ∧
    (∀ l, hasHolder (dropWants s) l = hasHolder s l) := by
  obtain ⟨-, refused, units⟩ := refusals_spec s.claims.placeWants s
  have booth : (s.claims.placeWants.foldl (fun s' w => placeRefused w.origin w.seat s') s).booth = s.booth := by simp
  obtain ⟨flags, raised, desks⟩ := engagements_spec s.claims.languageWants
    (s.claims.placeWants.foldl (fun s' w => placeRefused w.origin w.seat s') s)
  have shape : dropWants s = { s.claims.languageWants.foldl (fun s' w => engageDesk w.desk s')
      (s.claims.placeWants.foldl (fun s' w => placeRefused w.origin w.seat s') s) with
        claims := (dropWants s).claims } := by
    simp only [dropWants]
  have port : (dropWants s).port = (s.claims.languageWants.foldl (fun s' w => engageDesk w.desk s')
      (s.claims.placeWants.foldl (fun s' w => placeRefused w.origin w.seat s') s)).port := by rw [shape]
  have dlc : (dropWants s).dlc = (s.claims.placeWants.foldl (fun s' w => placeRefused w.origin w.seat s') s).dlc := by
    rw [shape]
    simp
  have desk : ∀ e, deskOf (dropWants s) e = deskOf (s.claims.languageWants.foldl (fun s' w => engageDesk w.desk s')
      (s.claims.placeWants.foldl (fun s' w => placeRefused w.origin w.seat s') s)) e := fun e => by rw [shape]; rfl
  have same : ∀ e, deskOf (s.claims.placeWants.foldl (fun s' w => placeRefused w.origin w.seat s') s) e = deskOf s e :=
    fun e => by simp only [deskOf, booth]
  refine ⟨fun w hw press => ⟨?_, fun present => ?_⟩, fun w hw => ⟨?_, fun inside => ?_⟩, fun l => ?_⟩
  · rw [port]
    exact flags 6 (refused w hw press)
  · rw [unitOf_of_dlc dlc]
    exact (units w.seat present).2 (.inr ⟨w, hw, press, rfl⟩)
  · rw [port]
    exact raised (List.ne_nil_of_mem hw)
  · rw [desk, desks, if_pos ⟨⟨w, hw, rfl⟩, by rw [booth]; exact inside⟩, same]
  · refine hasHolder_congr ?_ (memberPeers_congr (by simp) (by simp) (by simp)) l
    have one : ∀ (u : State) (w : LanguageWant), (engageDesk w.desk u).booth.desks.map (fun d => (d.state, d.output)) =
        u.booth.desks.map (fun d => (d.state, d.output)) := fun u w =>
      map_modifyDesk (f := fun d => { d with engaged := true }) (fun d => (d.state, d.output)) (fun _ => rfl) w.desk u
    have face := foldl_keeps (fun v : State => v.booth.desks.map (fun d => (d.state, d.output))) one
    rw [shape]
    exact (face _ _).trans (by rw [booth])

/-- Settles O22. -/
theorem ownSlotQueueAndWants : Obligations.OwnSlotQueueAndWants := by
  unfold Obligations.OwnSlotQueueAndWants
  refine ⟨fun s live conf => ⟨_, exec_ownSlot_eq live conf, fun join hc => ?_, fun on => ⟨fun hc hq => ?_,
    queue_of_front conf on, fun c => queue_of_current conf on⟩⟩, fun s live conf => ⟨_, exec_ownSlot_eq live conf, ?_⟩⟩
  · rw [queue_of_joining join hc]
    exact ⟨rfl, hc, rfl⟩
  · rw [queue_of_idle hc hq]
    exact ⟨hq, hc, rfl⟩
  · obtain ⟨-, -, -, claims, dlc, floor, booth, port⟩ := slotEnd_keeps (slotWorked s)
    obtain ⟨places, languages⟩ := slotWorked_wants conf
    rw [claims]
    refine ⟨places, languages, fun join => ?_⟩
    obtain ⟨refused, engaged, holders⟩ := dropWants_spec s
    have flags : ∀ n, (dropWants s).port.flags.getLsbD n = true →
        (slotEnd (slotWorked s)).port.flags.getLsbD n = true := fun n h => by
      rw [port, slotWorked_of_joining join]
      exact (soft_sourceStep _).flags n h
    have units : ∀ a, unitOf (slotEnd (slotWorked s)) a = unitOf (dropWants s) a := fun a => by
      rw [unitOf_of_dlc dlc, slotWorked_of_joining join]
    have desks : ∀ e, deskOf (slotEnd (slotWorked s)) e = deskOf (sourceStep (dropWants s)) e := fun e => by
      rw [deskOf, booth, slotWorked_of_joining join, deskOf]
    have keptClaims : (slotWorked s).claims.places = s.claims.places ∧ (slotWorked s).claims.languages = s.claims.languages ∧
        (slotWorked s).claims.lanes = s.claims.lanes ∧ (slotWorked s).floor = s.floor := by
      rw [slotWorked_of_joining join]
      simp
    obtain ⟨kp, kl, kn, kf⟩ := keptClaims
    refine ⟨kp, kl, kn, floor.trans kf, fun w hw press => ?_, fun w hw => ?_⟩
    · obtain ⟨flag, timer⟩ := refused w hw press
      exact ⟨flags 6 flag, fun present => (congrArg (·.fullTimer) (units _)).trans (timer present)⟩
    · obtain ⟨flag, desk⟩ := engaged w hw
      refine ⟨flags 9 flag, fun inside out held => ?_⟩
      rw [desks]
      exact sourceStep_engaged (by rw [desk inside]) (by rw [desk inside]; exact out) ((holders _).trans held)

end Sys2Proof.Machine
end

section

/-! PROOF for O21 (OwnSlotAnnouncesTheTables): the announcement list by list, and the own slot that composes it. -/

namespace Sys2Proof.Machine

/-! ### The lists of an announcement -/

section
variable (s : State)

theorem mem_ownMics (x : AnnMic) : x ∈ ownMics s ↔
    (∃ m ∈ s.floor.mics, x = ⟨m.seat, m.cls, .mic m.phase, m.tag, m.age, m.displaced⟩) ∨
    ∃ c ∈ s.claims.places, isIntent c.stage = true ∧
      x = ⟨c.seat, c.cls, .intent, (unitOf s c.seat).tag.getD 0, 0, c.displaced⟩ := by
  rw [ownMics, mem_sortBy, List.mem_append, List.mem_map, List.mem_map]
  simp only [List.mem_filter, and_assoc, eq_comm (a := x)]

theorem ownMics_length : (ownMics s).length =
    s.floor.mics.length + (s.claims.places.filter (fun c => isIntent c.stage)).length := by
  rw [ownMics, (sortBy_perm _ _).length_eq]
  simp

theorem ownMics_ordered : (ownMics s).Pairwise (fun x y => x.seat ≤ y.seat) := by
  have ordered := sortBy_ordered (fun a b : AnnMic => decide (a.seat < b.seat))
    (fun a b h => by rw [decide_eq_true_iff] at h; rw [decide_eq_false_iff_not]; omega)
    (fun a b c h k => by rw [decide_eq_false_iff_not] at *; omega)
    (s.floor.mics.map (fun m => ⟨m.seat, m.cls, .mic m.phase, m.tag, m.age, m.displaced⟩) ++
     (s.claims.places.filter (fun c => isIntent c.stage)).map
      (fun c => ⟨c.seat, c.cls, .intent, (unitOf s c.seat).tag.getD 0, 0, c.displaced⟩))
  exact ordered.imp fun h => not_lt.mp (decide_eq_false_iff_not.mp h)

theorem ownRequests_eq : ownRequests s = ((s.floor.requests.filter (fun r => (context s).level ≤ r.cls) ++
    s.floor.requests.filter (fun r => r.cls < (context s).level)).take 6).map (fun r => ⟨r.seat, r.cls, r.age⟩) := by
  have eligible : s.floor.requests.filter (fun r => !belowLevel s r.cls) =
      s.floor.requests.filter (fun r => (context s).level ≤ r.cls) := List.filter_congr fun r _ => by
    rw [Bool.eq_iff_iff, Bool.not_eq_true', belowLevel, decide_eq_false_iff_not, not_lt, decide_eq_true_iff]
  rw [ownRequests, eligible]
  rfl

theorem mem_ownDesks (x : AnnDesk) : x ∈ ownDesks s ↔ ∃ e d, s.booth.desks[e]? = some d ∧ d.present = true ∧
    x = ⟨e, d.output.getD 0, d.relay, d.state, deskDisplaced s e d, d.selectionAge,
      if d.state = .onAir then d.onAirAge else 0⟩ := by
  simp only [ownDesks, List.mem_filterMap, Prod.exists, List.mem_zipIdx_iff_getElem?]
  constructor
  · rintro ⟨d, e, hd, hx⟩
    split at hx
    · next present => exact ⟨e, d, hd, present, (Option.some.inj hx).symm⟩
    · cases hx
  · rintro ⟨e, d, hd, present, rfl⟩
    exact ⟨d, e, hd, if_pos present⟩

/-- The numbers of the announced desks: the Present ones in ascending order. -/
theorem ownDesks_numbers : (ownDesks s).map (·.desk) =
    (List.range s.booth.desks.length).filter (fun e => (deskOf s e).present) := by
  have entries : s.booth.desks.zipIdx = (List.range s.booth.desks.length).map (fun e => (deskOf s e, e)) := by
    refine List.ext_getElem? fun i => ?_
    rw [List.getElem?_zipIdx, List.getElem?_map]
    by_cases inside : i < s.booth.desks.length
    · rw [getElem?_of_deskOf inside, List.getElem?_range inside]
      simp
    · rw [List.getElem?_eq_none (not_lt.mp inside), List.getElem?_eq_none (by simpa using inside)]
      rfl
  rw [ownDesks, entries, List.filterMap_map, List.map_filterMap]
  rw [← List.filterMap_eq_filter]
  refine List.filterMap_congr fun e _ => ?_
  simp only [Function.comp_apply, Option.guard]
  split <;> rfl

theorem deskDisplaced_spec (e : Nat) (d : Desk) : (d.state = .onAir → deskDisplaced s e d = d.displaced) ∧
    (d.state = .off → deskDisplaced s e d = none) ∧
    (d.state = .intent → deskDisplaced s e d =
      (s.claims.languages.filter (fun c => c.desk = e ∧ c.stage ≠ .hold)).head?.bind (·.displaced)) := by
  have test : (fun c : LanguageClaim => c.desk == e && isIntent c.stage) =
      fun c => decide (c.desk = e ∧ c.stage ≠ .hold) := by
    funext c
    rw [Bool.eq_iff_iff, decide_eq_true_iff]
    cases c.stage <;> simp [isIntent]
  refine ⟨fun h => by simp [deskDisplaced, h], fun h => by simp [deskDisplaced, h], fun h => ?_⟩
  rw [List.head?_filter]
  simp only [deskDisplaced, h, test]
  cases s.claims.languages.find? (fun c => decide (c.desk = e ∧ c.stage ≠ .hold)) <;> rfl

end

/-! ### The own slot -/

section
variable {s : State}

/-- The state that an own slot announces. -/
def slotAnnounced (s : State) : State := sourceStep (slotWorked s)

theorem slotAnnounced_keeps (s : State) : (slotAnnounced s).station = s.station ∧ (slotAnnounced s).lif = s.lif ∧
    (slotAnnounced s).walls = s.walls ∧ (slotAnnounced s).room = (roomCommandWork s).room := by
  refine ⟨by simp [slotAnnounced, slotWorked], by simp [slotAnnounced, slotWorked], by simp [slotAnnounced, slotWorked], ?_⟩
  rw [← slotWorked_room]
  simp [slotAnnounced]

theorem slotEnd_lif (s : State) : (slotEnd (slotWorked s)).lif = (compose (slotAnnounced s)).lif := by
  have demand : ∀ u : State, (evalDemand u).lif = u.lif := fun _ => rfl
  rw [slotEnd, demand, retireCommand_eq]
  rfl

theorem ownLanes_evalDemand (u : State) : ownLanes (evalDemand u) = ownLanes u := by
  refine List.map_map.trans (List.map_congr_left fun h _ => ?_)
  simp only [Function.comp_apply]
  split <;> rfl

theorem compose_of_off (h : onLink s = false) : compose s = s := if_neg (by simp [h])

theorem compose_of_link (h : onLink s = true) : (compose s).lif.onWire = announcementBytes (ownAnnouncement s) ∧
    (compose s).lif.composing = announcementBytes (ownAnnouncement s) ∧
    ((compose s).lif.transmitting = true ↔ s.lif.frame = 5 * s.station.number) := by
  rw [compose, if_pos h]
  exact ⟨rfl, rfl, beq_iff_eq⟩

theorem slotEnd_head (s : State) : (slotEnd (slotWorked s)).room.head = (slotAnnounced s).room.head ∧
    (slotEnd (slotWorked s)).room.adopted = (slotAnnounced s).room.adopted := by
  rw [slotEnd_room, slotWorked_room, (slotAnnounced_keeps s).2.2.2]
  unfold retired
  repeat' split
  all_goals exact ⟨rfl, rfl⟩

/-- The lists that the tables give when the own slot is complete are those that it announces. -/
theorem slotEnd_announces (s : State) :
    ownMics (slotEnd (slotWorked s)) = ownMics (slotAnnounced s) ∧
    ownRequests (slotEnd (slotWorked s)) = ownRequests (slotAnnounced s) ∧
    ownDesks (slotEnd (slotWorked s)) = ownDesks (slotAnnounced s) ∧
    ownLanes (slotEnd (slotWorked s)) = ownLanes (slotAnnounced s) ∧
    homeContext (slotEnd (slotWorked s)) = homeContext (slotAnnounced s) := by
  obtain ⟨station, -, -, claims, dlc, floor, booth, -⟩ := slotEnd_keeps (slotWorked s)
  obtain ⟨xstation, xclaims, xdlc, xfloor⟩ : (slotAnnounced s).station = (slotWorked s).station ∧
      (slotAnnounced s).claims = (slotWorked s).claims ∧ (slotAnnounced s).dlc = (slotWorked s).dlc ∧
      (slotAnnounced s).floor = (slotWorked s).floor := by simp [slotAnnounced]
  refine ⟨?_, ?_, ?_, ?_, ?_⟩
  · unfold ownMics unitOf
    rw [claims, dlc, floor, xclaims, xdlc, xfloor]
  · unfold ownRequests belowLevel context
    rw [floor, xfloor, (slotEnd_head s).2]
  · unfold ownDesks deskDisplaced
    rw [claims, booth, xclaims, slotAnnounced]
  · have composed : ∀ u : State, (compose u).lanes = u.lanes := fun u => by rw [compose_eq]
    have retired : ∀ u : State, (retireCommand u).lanes = u.lanes := fun u => by rw [retireCommand_eq]
    rw [slotEnd, ownLanes_evalDemand]
    unfold ownLanes
    rw [retired, composed, slotAnnounced]
  · unfold homeContext
    rw [station, floor, xstation, xfloor]

/-- What the announcement says of its room command. -/
theorem announced_current {c : CurrentCommand} (conf : s.station.state ≠ .unconfigured) (hc : s.room.current = some c) :
    announcedSequence (slotAnnounced s) = c.sequence ∧ announcedCommand (slotAnnounced s) = s.room.queue.head? := by
  obtain ⟨-, -, -, room⟩ := slotAnnounced_keeps s
  by_cases join : s.station.state = .joining
  · rw [roomCommandWork_idle (.inl join)] at room
    simp [announcedSequence, announcedCommand, room, hc]
  · rw [roomCommandWork_current conf join hc] at room
    simp [announcedSequence, announcedCommand, room]

theorem announced_idle (hc : s.room.current = none) (h : s.station.state = .joining ∨ s.room.queue = []) :
    announcedSequence (slotAnnounced s) = s.room.counter ∧ announcedCommand (slotAnnounced s) = none := by
  obtain ⟨-, -, -, room⟩ := slotAnnounced_keeps s
  rw [roomCommandWork_idle (h.imp_right fun hq => ⟨hc, hq⟩)] at room
  simp [announcedSequence, announcedCommand, room, hc]

theorem announced_front (conf : s.station.state ≠ .unconfigured) (on : s.station.state ≠ .joining)
    (hc : s.room.current = none) (hq : s.room.queue ≠ []) :
    announcedSequence (slotAnnounced s) = (s.room.counter + 1) % 16 ∧
    announcedCommand (slotAnnounced s) = s.room.queue.head? := by
  obtain ⟨-, -, -, room⟩ := slotAnnounced_keeps s
  obtain ⟨c, rest, hcons⟩ := List.exists_cons_of_ne_nil hq
  have work := roomCommandWork_front conf on hc (c := c) (by rw [hcons]; rfl)
  obtain ⟨queue, current, -⟩ := actOn_queue c { s with room := { s.room with
    counter := (s.room.counter + 1) % 16, current := some ⟨(s.room.counter + 1) % 16, 1⟩ } }
  rw [← work, ← room] at queue current
  simp [announcedSequence, announcedCommand, current, queue]

theorem exec_ownSlot_unconfigured (live : Live s) (h : s.station.state = .unconfigured) : exec .ownSlot s = .next s := by
  rw [exec_of_live _ s live]
  simp only [liveEffect, ownSlotOp, if_pos h]

end

/-- Settles O21. -/
theorem ownSlotAnnouncesTheTables : Obligations.OwnSlotAnnouncesTheTables := by
  unfold Obligations.OwnSlotAnnouncesTheTables
  intro s live
  obtain ⟨station, lif, walls, room⟩ := slotAnnounced_keeps s
  have tstation := (slotEnd_keeps (slotWorked s)).1
  have worked : (slotWorked s).station = s.station := by simp [slotWorked]
  refine ⟨exec_ownSlot_unconfigured live, fun iso => ⟨_, exec_ownSlot_eq live (by simp [iso]), ?_, tstation.trans worked⟩,
    fun link conf => ?_⟩
  · have off : onLink (slotAnnounced s) = false := by simp [onLink, station, iso]
    rw [slotEnd_lif, compose_of_off off, lif]
  · have on : onLink (slotAnnounced s) = true := (onLink_iff _).mpr (by rw [station]; exact link)
    have configured : s.station.state ≠ .unconfigured := by rcases link with h | h <;> simp [h]
    obtain ⟨wire, composing, transmitting⟩ := compose_of_link on
    obtain ⟨mics, requests, desks, lanes, home⟩ := slotEnd_announces s
    have context : homeContext (slotEnd (slotWorked s)) = some (ownAnnouncement (slotAnnounced s)).context := by
      obtain ⟨c, hc⟩ := Option.ne_none_iff_exists'.mp conf
      rw [ownAnnouncement, ← home, homeContext, tstation, worked, hc]
      rfl
    have head := (slotEnd_head s).1
    have tlif := slotEnd_lif s
    have current := fun c => announced_current (c := c) configured
    have idle := announced_idle (s := s)
    have front := fun on => announced_front (s := s) configured on
    refine ⟨_, ownAnnouncement (slotAnnounced s), exec_ownSlot_eq live configured, ?_⟩
    generalize slotEnd (slotWorked s) = t at *
    generalize slotAnnounced s = x at *
    refine ⟨?_, ?_, ?_, congrArg (·.number) station, ?_, congrArg (·.epoch) lif, head.symm, context.symm,
      fun c hc => ?_, fun m hm => ?_, fun c hc => ?_, ?_, ?_, requests.symm.trans (ownRequests_eq t), ?_, fun d hd => ?_,
      lanes.symm, current, idle, fun none on nonempty => front (by simp [on]) none nonempty⟩
    · rw [tlif, wire]
    · rw [tlif, composing, wire]
    · rw [tlif, transmitting, lif, station]
    · rw [ownAnnouncement, station]
      exact beq_iff_eq
    · rw [ownAnnouncement, ownWalls, station, hc, walls]
      rfl
    · rw [ownAnnouncement, ← mics]
      exact (mem_ownMics t _).mpr (.inl ⟨m, hm, rfl⟩)
    · rw [ownAnnouncement, ← mics]
      by_cases stage : isIntent c.stage = true
      · refine .inr ⟨_, (mem_ownMics t _).mpr (.inr ⟨c, hc, stage, rfl⟩), rfl, rfl, rfl, rfl, rfl, fun tag h => ?_⟩
        rw [h]
        rfl
      · exact .inl (by cases h : c.stage <;> simp [h, isIntent] at stage ⊢)
    · rw [ownAnnouncement, ← mics]
      exact ownMics_length t
    · rw [ownAnnouncement, ← mics]
      exact ownMics_ordered t
    · rw [ownAnnouncement, ← desks]
      exact ownDesks_numbers t
    · rw [ownAnnouncement, ← desks] at hd
      obtain ⟨e, d, at_e, -, rfl⟩ := (mem_ownDesks t _).mp hd
      rw [deskOf_of_getElem? at_e]
      exact ⟨rfl, rfl, rfl, rfl, rfl, deskDisplaced_spec t e d⟩

end Sys2Proof.Machine
end

section

/-! SUPPORT and PROOF for O30 (PlacesAndRoomRanking): the members, the counts of places, the room ranking, and an own slot
that finds no claim to settle. -/

namespace Sys2Proof.Machine

/-! ### Members and counts -/

section
variable (s : State)

theorem mem_memberPeers_iff (t : Nat) (e : PeerEntry) : (t, e) ∈ memberPeers s ↔
    t < 16 ∧ t ≠ s.station.number ∧ t ∈ s.room.members ∧ peerAt s t = some e ∧ e.content.running = true := by
  rw [memberPeers, List.mem_filter, mem_runningPeers, List.contains_iff_mem]
  tauto

theorem memberPeers_ascending : ((memberPeers s).map (·.1)).Pairwise (· < ·) := by
  have all : ((runningPeers s).map (·.1)).Pairwise (· < ·) := by
    rw [runningPeers, List.pairwise_map]
    refine List.Pairwise.filterMap _ (fun a b hlt x hx y hy => ?_) List.pairwise_lt_range
    have number : ∀ n (z : Nat × PeerEntry), (if n = s.station.number then none
        else match peerAt s n with
          | some e => if e.content.running then some (n, e) else none
          | none => none) = some z → z.1 = n := fun n z h => by
      split at h
      · cases h
      · split at h
        · split at h
          · cases h
            rfl
          · cases h
        · cases h
    rw [number a x hx, number b y hy]
    exact hlt
  exact all.sublist (List.filter_sublist.map _)

theorem sounding_iff (p : MicPhase) : sounding p = true ↔ p ≠ .closing := by cases p <;> simp [sounding]

theorem annSounding_iff (p : AnnPhase) : annSounding p = true ↔ p = .mic .opening ∨ p = .mic .opened := by
  cases p with
  | intent => simp [annSounding]
  | mic p => cases p <;> simp [annSounding, sounding]

theorem isIntent_iff (x : Stage) : isIntent x = true ↔ x ≠ .hold := by cases x <;> simp [isIntent]

theorem countedHolders_eq : countedHolders s = (s.floor.mics.filter (fun m => m.cls ≤ 1 ∧ m.phase ≠ .closing)).length +
    ((memberPeers s).map (fun p => (p.2.content.mics.filter (fun m =>
      m.cls ≤ 1 ∧ (m.phase = .mic .opening ∨ m.phase = .mic .opened))).length)).sum := by
  have own : s.floor.mics.filter (fun m => counted m.cls && sounding m.phase) =
      s.floor.mics.filter (fun m => m.cls ≤ 1 ∧ m.phase ≠ .closing) := List.filter_congr fun m _ => by
    rw [Bool.eq_iff_iff, Bool.and_eq_true, sounding_iff, counted, decide_eq_true_iff, decide_eq_true_iff]
  have theirs : ∀ p : Nat × PeerEntry, p.2.content.mics.filter (fun m => counted m.cls && annSounding m.phase) =
      p.2.content.mics.filter (fun m => m.cls ≤ 1 ∧ (m.phase = .mic .opening ∨ m.phase = .mic .opened)) :=
    fun p => List.filter_congr fun m _ => by
      rw [Bool.eq_iff_iff, Bool.and_eq_true, annSounding_iff, counted, decide_eq_true_iff, decide_eq_true_iff]
  simp only [countedHolders, own, theirs]

theorem countedIntents_eq : countedIntents s =
    (s.claims.places.filter (fun c => c.cls ≤ 1 ∧ c.stage ≠ .hold)).map (fun c => ⟨c.cls, s.station.number, c.seat⟩) ++
    (memberPeers s).flatMap (fun p => (p.2.content.mics.filter (fun m => m.cls ≤ 1 ∧ m.phase = .intent)).map
      (fun m => ⟨m.cls, p.1, m.seat⟩)) := by
  have own : s.claims.places.filter (fun c => isIntent c.stage && counted c.cls) =
      s.claims.places.filter (fun c => c.cls ≤ 1 ∧ c.stage ≠ .hold) := List.filter_congr fun c _ => by
    rw [Bool.eq_iff_iff, Bool.and_eq_true, isIntent_iff, counted, decide_eq_true_iff, decide_eq_true_iff, and_comm]
  have theirs : ∀ p : Nat × PeerEntry, p.2.content.mics.filter (fun m => counted m.cls && m.phase == .intent) =
      p.2.content.mics.filter (fun m => m.cls ≤ 1 ∧ m.phase = .intent) := fun p => List.filter_congr fun m _ => by
    rw [Bool.eq_iff_iff, Bool.and_eq_true, beq_iff_eq, counted, decide_eq_true_iff, decide_eq_true_iff]
  simp only [countedIntents, own, theirs, ownKey]

theorem mem_roomMics_iff (x : RoomMic) : x ∈ roomMics s ↔
    (∃ m ∈ s.floor.mics, m.phase ≠ .closing ∧ x = ⟨s.station.number, m.seat, m.cls, m.age, m.tag, m.displaced⟩) ∨
    ∃ p ∈ memberPeers s, ∃ m ∈ p.2.content.mics, (m.phase = .mic .opening ∨ m.phase = .mic .opened) ∧
      x = ⟨p.1, m.seat, m.cls, m.age, m.tag, m.displaced⟩ := by
  simp only [roomMics, List.mem_append, List.mem_map, List.mem_flatMap, List.mem_filter, sounding_iff, annSounding_iff,
    and_assoc, eq_comm (b := x)]

/-- A before B in the room ranking. -/
def rankBefore (a b : Ranked) : Bool :=
  a.cls > b.cls || (a.cls == b.cls && (a.age > b.age || (a.age == b.age &&
    (a.station < b.station || (a.station == b.station && a.seat < b.seat)))))

theorem rankBefore_eq_false_iff (a b : Ranked) : rankBefore a b = false ↔ a.cls < b.cls ∨ a.cls = b.cls ∧
    (a.age < b.age ∨ a.age = b.age ∧ (b.station < a.station ∨ b.station = a.station ∧ b.seat ≤ a.seat)) := by
  rw [Bool.eq_false_iff]
  simp only [rankBefore, ne_eq, Bool.or_eq_true, Bool.and_eq_true, decide_eq_true_eq, beq_iff_eq]
  omega

theorem roomRanking_ordered : (roomRanking s).Pairwise (fun a b => b.cls < a.cls ∨ b.cls = a.cls ∧
    (b.age < a.age ∨ b.age = a.age ∧ (a.station < b.station ∨ a.station = b.station ∧ a.seat ≤ b.seat))) := by
  have ordered : (roomRanking s).Pairwise (fun a b => rankBefore b a = false) := sortBy_ordered rankBefore
    (fun a b h => by
      rw [rankBefore_eq_false_iff]
      simp only [rankBefore, Bool.or_eq_true, Bool.and_eq_true, decide_eq_true_eq, beq_iff_eq] at h
      omega)
    (fun a b c h k => by
      rw [rankBefore_eq_false_iff] at *
      omega) _
  exact ordered.imp fun h => (rankBefore_eq_false_iff _ _).mp h

end

/-! ### An own slot without place claims to settle -/

section
variable {s : State}

/-- Without a place Intent, withdrawing, settling and the lane conflicts leave places, channels and floor. -/
theorem quiet_places (m : List Nat) (holds : ∀ c ∈ s.claims.places, c.stage = .hold) :
    ∃ t, laneConflictStep (settleStep (withdrawStep m s)) = t ∧
      t.claims.places = s.claims.places ∧ t.claims.placeWants = s.claims.placeWants ∧ t.dlc = s.dlc ∧ t.floor = s.floor ∧
      t.station = s.station ∧ t.peers = s.peers ∧ t.room = s.room := by
  have noneMarked : ∀ t : State, t.claims.places = s.claims.places → withdrawPlaces t = t := fun t h => by
    rw [withdrawPlaces, List.filter_eq_nil_iff.mpr fun c hc => by rw [h] at hc; simp [holds c hc, isMarked]]
    rfl
  have noneOpen : ∀ t : State, t.claims.places = s.claims.places → settlePlaces t = t := fun t h => by
    rw [settlePlaces, List.filter_eq_nil_iff.mpr fun c hc => by rw [h] at hc; simp [holds c hc, isIntent]]
    rfl
  have work : withdrawStep m s = withdrawLanes (withdrawLanguages (releaseLanes m s)) := by
    rw [withdrawStep_eq, noneMarked _ (by simp)]
  have settled : settleStep (withdrawStep m s) = settleLanes (settleLanguages (withdrawStep m s)) := by
    rw [settleStep_eq, noneOpen _ (by simp [work, withdrawLanes, withdrawLanguages])]
  rw [settled, work]
  exact ⟨_, rfl, by simp [withdrawLanes, withdrawLanguages, settleLanguages, settleLanes]⟩

/-- An own slot that finds every place claim settled: what its raise step begins with. -/
theorem quiet_slot (on : s.station.state = .running ∨ s.station.state = .isolated) (hc : s.room.current = none)
    (hq : s.room.queue = []) (holds : ∀ c ∈ s.claims.places, c.stage = .hold) :
    ∃ t, slotWorked s = raiseStep t ∧
      t.claims.places = s.claims.places ∧ t.claims.placeWants = s.claims.placeWants ∧ t.dlc = s.dlc ∧ t.floor = s.floor ∧
      t.station = s.station ∧ t.peers = s.peers ∧ t.room = s.room := by
  have work : ∀ (m : List Nat) (u : State), u.station = s.station →
      claimWork m u = raiseStep (laneConflictStep (settleStep (withdrawStep m u))) := fun m u h => by
    rcases on with on | on <;> simp only [claimWork, h, on]
  obtain ⟨t, ht, places, wants, dlc, floor, station, peers, room⟩ :=
    quiet_places (s := deskConflictStep s) (markedLanes s) (by simpa using holds)
  refine ⟨t, ?_, places.trans (by simp), wants.trans (by simp), dlc.trans (by simp), floor.trans (by simp),
    station.trans (by simp), peers.trans (by simp), room.trans (by simp)⟩
  rw [slotWorked, roomCommandWork_idle (.inr ⟨hc, hq⟩), work _ _ (by simp), ht]

/-- The rest of a raise step, after the place wants, and of the own slot. -/
theorem slotEnd_raiseStep (t : State) :
    (slotEnd (raiseStep t)).claims.places = (raisePlaces (deriveAutoAdvance t)).claims.places ∧
    (slotEnd (raiseStep t)).dlc.uplinks = (raisePlaces (deriveAutoAdvance t)).dlc.uplinks ∧
    ∀ n, (raisePlaces (deriveAutoAdvance t)).port.flags.getLsbD n = true →
      (slotEnd (raiseStep t)).port.flags.getLsbD n = true := by
  obtain ⟨-, -, -, claims, dlc, -, -, port⟩ := slotEnd_keeps (raiseStep t)
  rw [claims, dlc, port, raiseStep_eq]
  refine ⟨by simp [raiseLanes], by simp [raiseLanes], fun n h => ?_⟩
  exact (soft_sourceStep _).flags n ((keeps_raiseLanes _).flags n ((keeps_raiseLanguages _).flags n h))

theorem raisePlaces_single {t : State} {w : PlaceWant} (h : t.claims.placeWants = [w]) :
    raisePlaces t = raisePlace { t with claims := { t.claims with placeWants := [] } } w := by
  rw [raisePlaces, h]
  rfl

theorem freePlaces_congr {t : State} (station : t.station = s.station) (peers : t.peers = s.peers) (room : t.room = s.room)
    (floor : t.floor = s.floor) (places : t.claims.places = s.claims.places) : freePlaces t = freePlaces s := by
  simp only [freePlaces, countedHolders, countedIntents, ownKey, context, memberPeers_congr peers station room, station,
    room, floor, places]

theorem deriveAutoAdvance_of_off (h : (context s).mode ≠ .queue ∨ (context s).autoAdvance = false) :
    deriveAutoAdvance s = s := if_neg (by rcases h with h | h <;> simp [h])

theorem deriveAutoAdvance_of_on (mode : (context s).mode = .queue) (auto : (context s).autoAdvance = true) :
    deriveAutoAdvance s = fileAll .autoAdvance
      (((roomRanking s).take (freePlaces s)).filter (fun r => r.station = s.station.number)) s := by
  rw [deriveAutoAdvance, if_pos (by simp [mode, auto]), wantRanked_eq]

/-- The auto-advance wants in all: nothing but the want list changes, and nothing without a free place. -/
theorem deriveAutoAdvance_shape (conf : s.station.state ≠ .unconfigured) :
    deriveAutoAdvance s = { s with claims := { s.claims with placeWants := (deriveAutoAdvance s).claims.placeWants } } ∧
    (freePlaces s = 0 → deriveAutoAdvance s = s) := by
  by_cases on : (context s).mode = .queue ∧ (context s).autoAdvance = true
  · rw [deriveAutoAdvance_of_on on.1 on.2]
    refine ⟨(fileAll_spec _ _ conf).1, fun none => ?_⟩
    rw [none, List.take_zero]
    rfl
  · rw [deriveAutoAdvance_of_off (by simpa [Classical.or_iff_not_imp_left] using on)]
    exact ⟨rfl, fun _ => rfl⟩

/-- The ranking of a room of one with one eligible request. -/
theorem roomRanking_single {r : Request} (requests : s.floor.requests = [r]) (alone : memberPeers s = [])
    (eligible : (context s).level ≤ r.cls) (holds : ∀ c ∈ s.claims.places, c.stage = .hold) :
    roomRanking s = [⟨s.station.number, r.seat, r.cls, r.age⟩] := by
  refine List.perm_singleton.mp ((roomRanking_perm s).trans (.of_eq ?_))
  rw [requests, alone, List.filter_singleton, decide_eq_true ⟨eligible, fun c hc _ => holds c hc⟩]
  rfl

theorem memberPeers_of_alone (h : s.room.members = [s.station.number]) : memberPeers s = [] := by
  refine List.eq_nil_iff_forall_not_mem.mpr fun p hp => ?_
  obtain ⟨-, other, member, -⟩ := (mem_memberPeers_iff s p.1 p.2).mp hp
  rw [h] at member
  exact other (List.mem_singleton.mp member)

/-- The own slot with one want alone, and the seat without claim and mic: raised on the lowest Free channel, or refused. -/
theorem lone_want {t : State} {w : PlaceWant} (wants : (deriveAutoAdvance t).claims.placeWants = [w])
    (conf : t.station.state ≠ .unconfigured) (size : t.dlc.uplinks.length = 6)
    (idle : ¬ ((∃ c ∈ t.claims.places, c.seat = w.seat) ∨ ∃ m ∈ t.floor.mics, m.seat = w.seat)) :
    (∀ ch < 6, ¬ (w.displaced = none ∧ w.cls ≤ 1 ∧ freePlaces t = 0) → t.dlc.uplinks[ch]? = some none →
      (∀ k < ch, t.dlc.uplinks[k]? ≠ some none) →
      (slotEnd (raiseStep t)).claims.places = t.claims.places ++ [⟨.intent false, w.seat, w.cls, w.displaced, ch, w.origin⟩] ∧
      (slotEnd (raiseStep t)).dlc.uplinks = t.dlc.uplinks.set ch (some w.seat)) ∧
    ((w.displaced = none ∧ w.cls ≤ 1 ∧ freePlaces t = 0) ∨ (∀ k < 6, t.dlc.uplinks[k]? ≠ some none) →
      (slotEnd (raiseStep t)).claims.places = t.claims.places ∧
      (slotEnd (raiseStep t)).dlc.uplinks = t.dlc.uplinks ∧
      (w.origin = .press → (slotEnd (raiseStep t)).port.flags.getLsbD 6 = true)) := by
  obtain ⟨places, uplinks, flags⟩ := slotEnd_raiseStep t
  obtain ⟨u, hu⟩ : ∃ u, { deriveAutoAdvance t with claims := { (deriveAutoAdvance t).claims with placeWants := [] } } = u :=
    ⟨_, rfl⟩
  rw [raisePlaces_single wants, hu] at places uplinks flags
  have shape : u = { t with claims := { t.claims with placeWants := [] } } := by
    rw [← hu, (deriveAutoAdvance_shape conf).1]
  have free : freePlaces u = freePlaces t := by
    subst shape
    exact freePlaces_congr rfl rfl rfl rfl rfl
  obtain ⟨uplaces, uuplinks, ufloor⟩ : u.claims.places = t.claims.places ∧ u.dlc = t.dlc ∧ u.floor = t.floor := by
    subst shape
    exact ⟨rfl, rfl, rfl⟩
  rw [places, uplinks, ← free, ← uplaces, ← uuplinks]
  rw [← uplaces, ← ufloor] at idle
  rw [← uuplinks] at size
  refine ⟨fun ch hch place now lowest => ?_, fun full => ?_⟩
  · rw [raisePlace_raised idle place (by omega) now lowest]
    exact ⟨rfl, rfl⟩
  · have refused := raisePlace_refused (s := u) (w := w) idle (full.symm.imp_left fun none x hx => by
      obtain ⟨k, hk, rfl⟩ := List.getElem_of_mem hx
      exact fun empty => none k (by omega) (by rw [List.getElem?_eq_getElem hk, empty]))
    obtain ⟨claims, channels, -, press, -⟩ := placeRefused_keeps_tables w.origin w.seat u
    rw [refused] at flags ⊢
    exact ⟨congrArg (·.places) claims, channels, fun h => flags 6 (press h)⟩

end

/-! ### O30 -/

/-- The seat of a mic has its Hold, so a seat without a claim has no mic. -/
theorem UplinkLaw.idle_seat {s : State} (law : UplinkLaw s) {seat : Nat} (h : ∀ c ∈ s.claims.places, c.seat ≠ seat) :
    ¬ ((∃ c ∈ s.claims.places, c.seat = seat) ∨ ∃ m ∈ s.floor.mics, m.seat = seat) := by
  obtain ⟨-, -, -, -, -, held, -⟩ := law
  rintro (⟨c, hc, seat⟩ | ⟨m, hm, seat⟩)
  · exact h c hc seat
  · obtain ⟨c, hc, -, same, -⟩ := held m hm
    exact h c hc (same.trans seat)

/-- Settles O30. -/
theorem placesAndRoomRanking : Obligations.PlacesAndRoomRanking := by
  unfold Obligations.PlacesAndRoomRanking
  refine ⟨fun s => ⟨mem_memberPeers_iff s, memberPeers_ascending s, countedHolders_eq s, .of_eq (countedIntents_eq s), ?_,
    mem_roomMics_iff s⟩, fun s => ⟨roomRanking_ordered s, roomRanking_perm s⟩, fun s conf => ?_, ?_⟩
  · rw [freePlaces]
    omega
  · refine ⟨rfl, (deriveAutoAdvance_shape conf).1, fun off => ?_, fun mode auto w => ?_⟩
    · rcases or_assoc.mpr off with off | none
      · exact deriveAutoAdvance_of_off off
      · exact (deriveAutoAdvance_shape conf).2 none
    · rw [deriveAutoAdvance_of_on mode auto, (fileAll_spec _ _ conf).2]
      simp only [LastFor, LiveClaim, ← exists_and_right, and_assoc]
      tauto
  · intro s r live on law hc hq alone requests wants holds mode auto eligible place ch hch free lowest
    have conf : s.station.state ≠ .unconfigured := by rcases on with h | h <;> simp [h]
    obtain ⟨t, work, tplaces, twants, tdlc, tfloor, tstation, tpeers, troom⟩ :=
      quiet_slot on hc hq (fun c hcm => (holds c hcm).1)
    have tcontext : context t = context s := by rw [context, context, troom]
    have ranking : roomRanking t = [⟨t.station.number, r.seat, r.cls, r.age⟩] := roomRanking_single (by rw [tfloor, requests])
      (memberPeers_of_alone (by rw [troom, tstation, alone])) (by rw [tcontext]; exact eligible)
      (fun c hcm => (holds c (tplaces ▸ hcm)).1)
    have places := freePlaces_congr tstation tpeers troom tfloor tplaces
    have filed : (deriveAutoAdvance t).claims.placeWants = [⟨r.seat, r.cls, none, .autoAdvance⟩] := by
      obtain ⟨n, hn⟩ := Nat.exists_eq_succ_of_ne_zero (by omega : freePlaces t ≠ 0)
      rw [deriveAutoAdvance_of_on (by rw [tcontext, mode]) (by rw [tcontext, auto]), ranking, hn]
      simpa [fileAll, filePlaceWant, tstation, conf, twants, wants] using
        fun c hcm seat => absurd seat (holds c (tplaces ▸ hcm)).2
    have lone := (lone_want filed (by rw [tstation]; exact conf) (by rw [tdlc]; exact law.1) (by
      rw [tplaces, tfloor]
      exact law.idle_seat fun c hcm => (holds c hcm).2)).1 ch hch (by omega) (by rw [tdlc, free]) (by rw [tdlc]; exact lowest)
    refine ⟨_, exec_ownSlot_eq live conf, ?_⟩
    rw [work, ← tplaces, ← tdlc]
    exact lone

end Sys2Proof.Machine
end

section

/-! SUPPORT for O23 (OwnSlotDoesTheClaimWork): what the withdraw step and the settle step leave of the claims. -/

namespace Sys2Proof.Machine

/-! ### Lists that are filtered -/

/-- The second list is the first without the elements that fail some test. -/
def FilterOf {α : Type} (l m : List α) : Prop := ∃ p : α → Bool, m = l.filter p

section
variable {α : Type} {l m : List α}

theorem FilterOf.refl (l : List α) : FilterOf l l := ⟨fun _ => true, by simp⟩

theorem FilterOf.trans {k : List α} (h : FilterOf k l) (h' : FilterOf l m) : FilterOf k m := by
  obtain ⟨p, rfl⟩ := h
  obtain ⟨q, rfl⟩ := h'
  exact ⟨_, List.filter_filter⟩

theorem FilterOf.subset (h : FilterOf l m) {x : α} (hx : x ∈ m) : x ∈ l := by
  obtain ⟨p, rfl⟩ := h
  exact (List.mem_filter.mp hx).1

/-- Such a list is told by its members. -/
theorem FilterOf.eq_filter (h : FilterOf l m) {q : α → Bool} (hq : ∀ x ∈ l, x ∈ m ↔ q x = true) : m = l.filter q := by
  obtain ⟨p, rfl⟩ := h
  refine List.filter_congr fun x hx => ?_
  rw [Bool.eq_iff_iff, ← hq x hx, List.mem_filter, and_iff_right hx]

theorem filterOf_foldl {β : Type} (read : State → List α) {g : State → β → State}
    (h : ∀ s x, FilterOf (read s) (read (g s x))) (k : List β) (s : State) : FilterOf (read s) (read (k.foldl g s)) :=
  foldl_rel (r := fun s t => FilterOf (read s) (read t)) (fun _ => .refl _) (fun _ _ _ => .trans) h k s

end

/-! ### The withdraw step -/

section
variable (m : List Nat) (s : State)

theorem withdrawStep_filters : FilterOf s.claims.places (withdrawStep m s).claims.places ∧
    FilterOf s.claims.languages (withdrawStep m s).claims.languages ∧
    FilterOf s.claims.lanes (withdrawStep m s).claims.lanes ∧
    FilterOf s.lanes.holdings (withdrawStep m s).lanes.holdings := by
  have places : ∀ (u : State) c, FilterOf u.claims.places (dropPlaceIntent c u).claims.places := fun u c => ⟨_, rfl⟩
  have languages : ∀ (u : State) c, FilterOf u.claims.languages (withdrawLanguage c u).claims.languages := fun u c => ⟨_, rfl⟩
  have lanes : ∀ (u : State) c, FilterOf u.claims.lanes (dropLaneIntent c u).claims.lanes := fun u c => ⟨_, rfl⟩
  have holdings : ∀ (u : State) c, FilterOf u.lanes.holdings (dropLaneIntent c u).lanes.holdings := fun u c => ⟨_, rfl⟩
  have lost : ∀ (u : State) (n : Nat), FilterOf u.claims.lanes (endLaneHold n (dropHolding n u)).claims.lanes ∧
      FilterOf u.lanes.holdings (endLaneHold n (dropHolding n u)).lanes.holdings := fun u n => ⟨⟨_, rfl⟩, _, rfl⟩
  refine ⟨?_, ?_, ?_, ?_⟩
  · have last : (withdrawStep m s).claims.places = (withdrawPlaces (releaseLanes m s)).claims.places := by
      simp [withdrawStep_eq, withdrawLanes, withdrawLanguages]
    have first : (releaseLanes m s).claims.places = s.claims.places := by simp
    rw [last, ← first]
    exact filterOf_foldl (·.claims.places) places _ _
  · have last : (withdrawStep m s).claims.languages =
        (withdrawLanguages (withdrawPlaces (releaseLanes m s))).claims.languages := by
      simp [withdrawStep_eq, withdrawLanes]
    have first : (withdrawPlaces (releaseLanes m s)).claims.languages = s.claims.languages := by simp [withdrawPlaces]
    rw [last, ← first]
    exact filterOf_foldl (·.claims.languages) languages _ _
  · have first : (withdrawLanguages (withdrawPlaces (releaseLanes m s))).claims.lanes = (releaseLanes m s).claims.lanes := by
      simp [withdrawPlaces, withdrawLanguages]
    exact (filterOf_foldl (·.claims.lanes) (fun u n => (lost u n).1) _ _).trans
      (first ▸ filterOf_foldl (·.claims.lanes) lanes _ _)
  · have first : (withdrawLanguages (withdrawPlaces (releaseLanes m s))).lanes.holdings =
        (releaseLanes m s).lanes.holdings := by simp [withdrawPlaces, withdrawLanguages]
    exact (filterOf_foldl (·.lanes.holdings) (fun u n => (lost u n).2) _ _).trans
      (first ▸ filterOf_foldl (·.lanes.holdings) holdings _ _)

end

section
variable {s : State} (m : List Nat)

theorem eq_intent_true_iff (x : Stage) : x = .intent true ↔ isMarked x = true := by
  rw [isMarked, beq_iff_eq]

/-- The withdraw step takes out exactly the marked place Intents. -/
theorem withdrawStep_places (law : UplinkLaw s) :
    (withdrawStep m s).claims.places = s.claims.places.filter (fun c => c.stage != .intent true) := by
  refine (withdrawStep_filters m s).1.eq_filter fun x hx => ?_
  have last : (withdrawStep m s).claims.places = (withdrawPlaces (releaseLanes m s)).claims.places := by
    simp [withdrawStep_eq, withdrawLanes, withdrawLanguages]
  have first : (releaseLanes m s).claims.places = s.claims.places := by simp
  rw [last, withdrawPlaces, mem_dropPlaceIntents, first, bne_iff_ne, ne_eq, eq_intent_true_iff]
  simp only [List.mem_filter]
  constructor
  · rintro ⟨-, stays⟩ marked
    exact stays ⟨isIntent_of_marked marked, x, ⟨hx, marked⟩, rfl⟩
  · refine fun unmarked => ⟨hx, ?_⟩
    rintro ⟨-, c, ⟨hc, marked⟩, seat⟩
    exact unmarked (law.eq_of_seat hc hx seat ▸ marked)

/-- The withdraw step takes out exactly the marked language Intents. -/
theorem withdrawStep_languages (law : DeskLaw s) :
    (withdrawStep m s).claims.languages = s.claims.languages.filter (fun c => c.stage != .intent true) := by
  refine (withdrawStep_filters m s).2.1.eq_filter fun x hx => ?_
  have last : (withdrawStep m s).claims.languages =
      (withdrawLanguages (withdrawPlaces (releaseLanes m s))).claims.languages := by
    simp [withdrawStep_eq, withdrawLanes]
  have first : (withdrawPlaces (releaseLanes m s)).claims.languages = s.claims.languages := by simp [withdrawPlaces]
  rw [last, withdrawLanguages, mem_withdrawLanguages, first, bne_iff_ne, ne_eq, eq_intent_true_iff]
  simp only [List.mem_filter]
  constructor
  · rintro ⟨-, stays⟩ marked
    exact stays ⟨isIntent_of_marked marked, x, ⟨hx, marked⟩, rfl⟩
  · refine fun unmarked => ⟨hx, ?_⟩
    rintro ⟨-, c, ⟨hc, marked⟩, desk⟩
    exact unmarked (List.inj_on_of_nodup_map law.2.1 hc hx desk ▸ marked)

/-- A channel that one of the withdrawals frees, and any that was Free, is Free after them. -/
theorem uplink_of_dropPlaceIntents (l : List PlaceClaim) : ∀ (s : State) {k : Nat}, k < s.dlc.uplinks.length →
    s.dlc.uplinks[k]? = some none ∨ (∃ c ∈ l, c.uplink = k) →
    (l.foldl (fun s' c => dropPlaceIntent c s') s).dlc.uplinks[k]? = some none := by
  induction l with
  | nil => exact fun s k _ h => h.resolve_right (by simp)
  | cons c l ih =>
    intro s k inside h
    have now : (dropPlaceIntent c s).dlc.uplinks = s.dlc.uplinks.set c.uplink none := rfl
    refine ih _ (by rw [now, List.length_set]; exact inside) ?_
    rw [now, List.getElem?_set]
    by_cases here : c.uplink = k
    · exact .inl (by rw [if_pos here, if_pos (here ▸ inside)])
    · rw [if_neg here]
      refine h.imp_right fun ⟨d, hd, k⟩ => ?_
      rcases List.mem_cons.mp hd with rfl | hd
      · exact absurd k here
      · exact ⟨d, hd, k⟩

theorem withdrawStep_uplink (law : UplinkLaw s) {c : PlaceClaim} (hc : c ∈ s.claims.places) (marked : c.stage = .intent true) :
    (withdrawStep m s).dlc.uplinks[c.uplink]? = some none := by
  have last : (withdrawStep m s).dlc.uplinks = (withdrawPlaces (releaseLanes m s)).dlc.uplinks := by
    simp [withdrawStep_eq, withdrawLanes, withdrawLanguages]
  obtain ⟨dlc, claims⟩ : (releaseLanes m s).dlc = s.dlc ∧ (releaseLanes m s).claims.places = s.claims.places := by simp
  rw [last]
  refine uplink_of_dropPlaceIntents _ _ (by rw [dlc, law.1]; exact law.uplink_lt hc) (.inr ⟨c, ?_, rfl⟩)
  rw [claims]
  exact List.mem_filter.mpr ⟨hc, (eq_intent_true_iff _).mp marked⟩

/-- A Held lane whose release mark was set before the own slot and is still set. -/
def Released (before : State) (h : Holding) : Prop :=
  h.held = true ∧ h.release = true ∧ ∃ x ∈ before.lanes.holdings, x.lane = h.lane ∧ x.held = true ∧ x.release = true

/-- The lanes that the withdraw step releases. -/
theorem mem_releasedLanes (before : State) (law : LaneLaw s) {h : Holding} (hh : h ∈ s.lanes.holdings) :
    h.lane ∈ (s.lanes.holdings.filter (fun h => h.held && h.release && (markedLanes before).contains h.lane)).map (·.lane) ↔
      Released before h := by
  have marked : ∀ n, n ∈ markedLanes before ↔ ∃ x ∈ before.lanes.holdings, x.lane = n ∧ x.held = true ∧ x.release = true :=
    fun n => by
      simp only [markedLanes, List.mem_map, List.mem_filter, Bool.and_eq_true]
      exact ⟨fun ⟨x, ⟨hx, held⟩, lane⟩ => ⟨x, hx, lane, held⟩, fun ⟨x, hx, lane, held⟩ => ⟨x, ⟨hx, held⟩, lane⟩⟩
  simp only [List.mem_map, List.mem_filter, Bool.and_eq_true, List.contains_iff_mem, marked, and_assoc]
  constructor
  · rintro ⟨k, hk, held, release, stood, lane⟩
    obtain rfl := List.inj_on_of_nodup_map law.1 hk hh lane
    exact ⟨held, release, stood⟩
  · exact fun ⟨held, release, stood⟩ => ⟨h, hh, held, release, stood, rfl⟩

theorem hasDemand_congr {t : State} (state : t.station.state = s.station.state) (room : t.room.members = s.room.members)
    (desks : t.booth.desks.map (fun d => (decide (d.state = .onAir), d.output)) =
      s.booth.desks.map (fun d => (decide (d.state = .onAir), d.output))) (l : Nat) : hasDemand t l = hasDemand s l := by
  have air : ∀ v : State, (∃ d ∈ v.booth.desks, d.state = .onAir ∧ d.output = some l) ↔
      (true, some l) ∈ v.booth.desks.map (fun d => (decide (d.state = .onAir), d.output)) := fun v => by simp
  rw [Bool.eq_iff_iff, hasDemand_iff, hasDemand_iff, state, room, air, air, desks]

/-- A desk whose Intent is withdrawn was not on air. -/
theorem withdrawLanguages_air (l : List LanguageClaim) (s : State) :
    (l.foldl (fun s' c => withdrawLanguage c s') s).booth.desks.map (fun d => (decide (d.state = .onAir), d.output)) =
      s.booth.desks.map (fun d => (decide (d.state = .onAir), d.output)) := by
  have one : ∀ (u : State) (c : LanguageClaim),
      (withdrawLanguage c u).booth.desks.map (fun d => (decide (d.state = .onAir), d.output)) =
        u.booth.desks.map (fun d => (decide (d.state = .onAir), d.output)) := fun u c =>
    map_modifyDesk (f := fun d => if d.state = .intent then { d with state := .off } else d)
      (fun d => (decide (d.state = .onAir), d.output)) (fun d => by split <;> simp_all) c.desk (dropLanguageIntent c u)
  exact foldl_keeps (fun u : State => u.booth.desks.map (fun d => (decide (d.state = .onAir), d.output))) one l s

/-- The lane claims that the withdraw step leaves: the Holds of the lanes not released, the live Intents in demand. -/
theorem withdrawStep_lanes (before : State) (law : LaneLaw s) {c : LaneClaim} (hc : c ∈ s.claims.lanes) :
    c ∈ (withdrawStep (markedLanes before) s).claims.lanes ↔
      if c.stage = .hold then ∃ h ∈ s.lanes.holdings, h.lane = c.lane ∧ ¬ Released before h
      else c.stage = .intent false ∧ hasDemand s c.language = true := by
  obtain ⟨r, hr⟩ : ∃ r, releaseLanes (markedLanes before) s = r := ⟨_, rfl⟩
  have demand : ∀ l, hasDemand (withdrawLanguages (withdrawPlaces r)) l = hasDemand s l := by
    refine hasDemand_congr ?_ ?_ ((withdrawLanguages_air _ _).trans ?_) <;>
      simp [← hr, withdrawLanguages, withdrawPlaces]
  have lanes : (withdrawLanguages (withdrawPlaces r)).claims.lanes = r.claims.lanes := by
    simp [withdrawLanguages, withdrawPlaces]
  have here := (mem_loseLanes ((s.lanes.holdings.filter
    (fun h => h.held && h.release && (markedLanes before).contains h.lane)).map (·.lane)) s).2 c
  have released : c ∈ r.claims.lanes ↔ c ∈ s.claims.lanes ∧ ¬ (c.stage = .hold ∧ c.lane ∈ (s.lanes.holdings.filter
      (fun h => h.held && h.release && (markedLanes before).contains h.lane)).map (·.lane)) := hr ▸ here
  obtain ⟨h, hh, lane⟩ := law.2.2.2.2 c hc
  have same : (∃ h ∈ s.lanes.holdings, h.lane = c.lane ∧ ¬ Released before h) ↔ ¬ Released before h :=
    ⟨fun ⟨k, hk, klane, stays⟩ => List.inj_on_of_nodup_map law.1 hk hh (klane.trans lane.symm) ▸ stays,
      fun stays => ⟨h, hh, lane, stays⟩⟩
  have dropped : (∃ k ∈ r.claims.lanes.filter (fun c => isMarked c.stage || (isIntent c.stage && !hasDemand s c.language)),
      k.lane = c.lane) → c ∈ r.claims.lanes →
      (isMarked c.stage || (isIntent c.stage && !hasDemand s c.language)) = true := fun ⟨k, hk, klane⟩ hcr => by
    obtain ⟨hk, test⟩ := List.mem_filter.mp hk
    have hks : k ∈ s.claims.lanes := by
      have kept : FilterOf s.claims.lanes r.claims.lanes :=
        hr ▸ filterOf_foldl (fun u : State => u.claims.lanes) (fun u n => ⟨_, rfl⟩) _ s
      exact kept.subset hk
    exact List.inj_on_of_nodup_map law.2.2.1 hks hc klane ▸ test
  rw [withdrawStep_eq, hr, withdrawLanes, mem_dropLaneIntents, lanes]
  simp only [demand]
  cases stage : c.stage with
  | hold =>
    rw [if_pos rfl, same, released, ← mem_releasedLanes before law hh, lane]
    simp [stage, isIntent, hc]
  | intent marked =>
    have stands : c ∈ r.claims.lanes := released.mpr ⟨hc, by simp [stage]⟩
    have test : (isMarked c.stage || (isIntent c.stage && !hasDemand s c.language)) = true ↔
        ¬ (marked = false ∧ hasDemand s c.language = true) := by
      cases marked <;> simp [stage, isMarked, isIntent]
    have gone : (∃ k ∈ r.claims.lanes.filter (fun c => isMarked c.stage || (isIntent c.stage && !hasDemand s c.language)),
        k.lane = c.lane) ↔ ¬ (marked = false ∧ hasDemand s c.language = true) :=
      ⟨fun h => test.mp (dropped h stands), fun h => ⟨c, List.mem_filter.mpr ⟨stands, test.mpr h⟩, rfl⟩⟩
    rw [if_neg (by simp), gone]
    simp [stands, isIntent]

end

/-- The holdings that the withdraw step leaves: those whose claim stands. -/
theorem withdrawStep_holdings (m : List Nat) {s : State} (law : LaneLaw s) {h : Holding} (hh : h ∈ s.lanes.holdings) :
    h ∈ (withdrawStep m s).lanes.holdings ↔ ∃ c ∈ (withdrawStep m s).claims.lanes, c.lane = h.lane := by
  obtain ⟨-, -, -, own, listed⟩ := (keeps_withdrawStep m s).lane law
  constructor
  · intro stays
    obtain ⟨-, -, -, c, hc, lane, -⟩ := own h stays
    exact ⟨c, hc, lane⟩
  · rintro ⟨c, hc, lane⟩
    obtain ⟨k, hk, klane⟩ := listed c hc
    have old := (withdrawStep_filters m s).2.2.2.subset hk
    exact List.inj_on_of_nodup_map law.1 old hh (klane.trans lane) ▸ hk

theorem withdrawStep_held (before : State) {s : State} (law : LaneLaw s) {h : Holding} (hh : h ∈ s.lanes.holdings)
    (held : h.held = true) : h ∈ (withdrawStep (markedLanes before) s).lanes.holdings ↔ ¬ Released before h := by
  obtain ⟨-, -, -, c, hc, lane, -, stage⟩ := law.2.2.2.1 h hh
  have hold := stage.mp held
  have stays := withdrawStep_lanes before law hc
  rw [if_pos hold] at stays
  rw [withdrawStep_holdings _ law hh]
  constructor
  · rintro ⟨d, hd, dlane⟩
    have old := (withdrawStep_filters _ s).2.2.1.subset hd
    obtain rfl := List.inj_on_of_nodup_map law.2.2.1 old hc (dlane.trans lane.symm)
    obtain ⟨k, hk, klane, stands⟩ := stays.mp hd
    exact List.inj_on_of_nodup_map law.1 hk hh (klane.trans lane) ▸ stands
  · exact fun stands => ⟨c, stays.mpr ⟨h, hh, lane.symm, stands⟩, lane⟩

/-! ### The settle step -/

/-- Where one settlement leaves no Intent of its own key and brings no new one, settling all Intents leaves none. -/
theorem settled_all {α : Type} (read : State → List α) (key : α → Nat) (stage : α → Stage) (before : α → α → Bool)
    {g : State → α → State}
    (one : ∀ s c x, x ∈ read (g s c) → isIntent (stage x) = true → x ∈ read s ∧ key x ≠ key c) (s : State) :
    ∀ x ∈ read ((sortBy before ((read s).filter (fun c => isIntent (stage c)))).foldl g s), stage x = .hold := by
  have fold : ∀ (l : List α) (u : State), ∀ x ∈ read (l.foldl g u), isIntent (stage x) = true →
      x ∈ read u ∧ ∀ c ∈ l, key x ≠ key c := by
    intro l
    induction l with
    | nil => exact fun u x hx _ => ⟨hx, by simp⟩
    | cons c l ih =>
      intro u x hx open_
      obtain ⟨hx, later⟩ := ih _ x hx open_
      obtain ⟨hx, now⟩ := one u c x hx open_
      exact ⟨hx, List.forall_mem_cons.mpr ⟨now, later⟩⟩
  intro x hx
  by_contra unsettled
  have open_ := (isIntent_iff _).mpr unsettled
  obtain ⟨stood, other⟩ := fold _ s x hx open_
  exact other x ((mem_sortBy _ _ _).mpr (List.mem_filter.mpr ⟨stood, open_⟩)) rfl

theorem settlePlaces_holds (s : State) : ∀ c ∈ (settlePlaces s).claims.places, c.stage = .hold :=
  settled_all (·.claims.places) (·.seat) (·.stage) _ (fun s c x hx open_ => by
    cases wins : placeWins s c with
    | true =>
      rw [settlePlace_of_wins wins, afterPlaceWon_claims] at hx
      obtain ⟨y, hy, rfl⟩ := List.mem_map.mp hx
      by_cases here : y.seat = c.seat
      · simp [holdSeat, here, isIntent] at open_
      · rw [holdSeat, if_neg (by simpa using here)]
        exact ⟨hy, here⟩
    | false =>
      have claims : (placeRefused c.origin c.seat (dropPlaceIntent c s)).claims = (dropPlaceIntent c s).claims := by simp
      rw [settlePlace_of_loses wins, claims] at hx
      obtain ⟨hx, stays⟩ := List.mem_filter.mp hx
      exact ⟨hx, by simpa [open_] using stays⟩) s

theorem settleLanguages_holds (s : State) : ∀ c ∈ (settleLanguages s).claims.languages, c.stage = .hold :=
  settled_all (·.claims.languages) (·.desk) (·.stage) _ (fun s c x hx open_ => by
    cases wins : languageWins s c with
    | true =>
      have aside : ∀ (p : State → Nat → Bool) (u : State) (e : Nat), FilterOf u.claims.languages
          (if p u e then standAside e u else u).claims.languages := fun p u e => by
        split
        · exact ⟨_, standAside_languages e u⟩
        · exact .refl _
      have named : FilterOf (claimHeld c.desk s).claims.languages
          (namedAside c.displaced (claimHeld c.desk s)).claims.languages := by
        unfold namedAside
        split
        · split
          · exact ⟨_, standAside_languages _ _⟩
          · exact .refl _
        · exact .refl _
      rw [settleLanguage_of_wins wins, deskWon_eq] at hx
      have old : x ∈ (claimHeld c.desk s).claims.languages :=
        (named.trans (filterOf_foldl (fun u : State => u.claims.languages) (aside _) _ _)).subset hx
      obtain ⟨y, hy, rfl⟩ := List.mem_map.mp old
      by_cases here : y.desk = c.desk
      · simp [holdFor, here, isIntent] at open_
      · rw [holdFor, if_neg (by simpa using here)]
        exact ⟨hy, here⟩
    | false =>
      rw [settleLanguage_of_loses wins] at hx
      obtain ⟨hx, stays⟩ := List.mem_filter.mp hx
      exact ⟨hx, by simpa [open_] using stays⟩) s

theorem settleLanes_holds (s : State) : ∀ c ∈ (settleLanes s).claims.lanes, c.stage = .hold :=
  settled_all (·.claims.lanes) (·.lane) (·.stage) _ (fun s c x hx open_ => by
    cases wins : laneWins s c with
    | true =>
      rw [(settleLane_of_wins wins).1] at hx
      obtain ⟨y, hy, rfl⟩ := List.mem_map.mp hx
      by_cases here : y.lane = c.lane
      · simp [holdAt, here, isIntent] at open_
      · rw [holdAt, if_neg (by simpa using here)]
        exact ⟨hy, here⟩
    | false =>
      rw [settleLane_of_loses wins] at hx
      obtain ⟨hx, stays⟩ := List.mem_filter.mp hx
      exact ⟨hx, by simpa [open_] using stays⟩) s

/-- A settlement leaves every Hold of a place as it is. -/
theorem hold_mem_settlePlaces {s : State} {c : PlaceClaim} (hc : c ∈ s.claims.places) (hold : c.stage = .hold) :
    c ∈ (settlePlaces s).claims.places := by
  have one : ∀ (u : State) (d : PlaceClaim), c ∈ u.claims.places → c ∈ (settlePlace u d).claims.places := fun u d hu => by
    cases wins : placeWins u d with
    | true =>
      rw [settlePlace_of_wins wins, afterPlaceWon_claims]
      refine List.mem_map.mpr ⟨c, hu, ?_⟩
      rw [holdSeat]
      split
      · rw [← hold]
      · rfl
    | false =>
      have claims : (placeRefused d.origin d.seat (dropPlaceIntent d u)).claims = (dropPlaceIntent d u).claims := by simp
      rw [settlePlace_of_loses wins, claims]
      exact List.mem_filter.mpr ⟨hu, by simp [hold, isIntent]⟩
  exact foldl_rel (r := fun u v => c ∈ u.claims.places → c ∈ v.claims.places) (fun _ h => h) (fun _ _ _ h k hu => k (h hu))
    one _ s hc

theorem settleStep_holds (s : State) : (∀ c ∈ (settleStep s).claims.places, c.stage = .hold) ∧
    (∀ c ∈ (settleStep s).claims.languages, c.stage = .hold) ∧ (∀ c ∈ (settleStep s).claims.lanes, c.stage = .hold) ∧
    ∀ c ∈ s.claims.places, c.stage = .hold → c ∈ (settleStep s).claims.places := by
  have places : (settleStep s).claims.places = (settlePlaces s).claims.places := by
    simp [settleStep_eq, settleLanguages, settleLanes]
  have languages : (settleStep s).claims.languages = (settleLanguages (settlePlaces s)).claims.languages := by
    simp [settleStep_eq, settleLanes]
  rw [places, languages]
  exact ⟨settlePlaces_holds s, settleLanguages_holds _, settleLanes_holds _, fun c => hold_mem_settlePlaces⟩

end Sys2Proof.Machine
end

section

/-! SUPPORT for O23 (OwnSlotDoesTheClaimWork): what the raise step and the end of an own slot leave. -/

namespace Sys2Proof.Machine

/-! ### Intents of the raise step -/

theorem raisePlaces_unmarked {s : State} (h : ∀ c ∈ s.claims.places, c.stage ≠ .intent true) :
    ∀ c ∈ (raisePlaces s).claims.places, c.stage ≠ .intent true := by
  have one : ∀ (u : State) (w : PlaceWant), (∀ c ∈ u.claims.places, c.stage ≠ .intent true) →
      ∀ c ∈ (raisePlace u w).claims.places, c.stage ≠ .intent true := fun u w hu c hc => by
    rcases raisePlace_cases u w with ⟨-, heq⟩ | ⟨-, -, -, heq⟩ | ⟨-, -, -, ch, -, heq⟩ <;> rw [heq] at hc
    · exact hu c hc
    · exact hu c (by simpa using hc)
    · rcases List.mem_append.mp hc with hc | hc
      · exact hu c hc
      · rw [List.mem_singleton.mp hc]
        simp
  exact foldl_rel (r := fun u v => (∀ c ∈ u.claims.places, c.stage ≠ .intent true) →
    ∀ c ∈ v.claims.places, c.stage ≠ .intent true) (fun _ h => h) (fun _ _ _ h k hu => k (h hu)) one _ _ h

theorem raiseLanguages_unmarked {s : State} (h : ∀ c ∈ s.claims.languages, c.stage ≠ .intent true) :
    ∀ c ∈ (raiseLanguages s).claims.languages, c.stage ≠ .intent true := by
  have one : ∀ (u : State) (w : LanguageWant), (∀ c ∈ u.claims.languages, c.stage ≠ .intent true) →
      ∀ c ∈ (raiseLanguage u w).claims.languages, c.stage ≠ .intent true := fun u w hu c hc => by
    rcases raiseLanguage_cases u w with ⟨-, heq⟩ | ⟨-, -, -, heq⟩ | ⟨-, -, heq⟩ <;> rw [heq] at hc
    · exact hu c hc
    · exact hu c hc
    · rcases List.mem_append.mp hc with hc | hc
      · exact hu c hc
      · rw [List.mem_singleton.mp hc]
        simp
  exact foldl_rel (r := fun u v => (∀ c ∈ u.claims.languages, c.stage ≠ .intent true) →
    ∀ c ∈ v.claims.languages, c.stage ≠ .intent true) (fun _ h => h) (fun _ _ _ h k hu => k (h hu)) one _ _ h

/-- Every Intent that stands after a raise step was raised at it, where none stood before. -/
theorem raiseStep_unmarked {s : State} (places : ∀ c ∈ s.claims.places, c.stage = .hold)
    (languages : ∀ c ∈ s.claims.languages, c.stage = .hold) :
    (∀ c ∈ (raiseStep s).claims.places, c.stage ≠ .intent true) ∧
    ∀ c ∈ (raiseStep s).claims.languages, c.stage ≠ .intent true := by
  have lastPlaces : (raiseStep s).claims.places = (raisePlaces (deriveAutoAdvance s)).claims.places := by
    simp [raiseStep_eq, raiseLanes]
  have lastLanguages : (raiseStep s).claims.languages =
      (raiseLanguages (raisePlaces (deriveAutoAdvance s))).claims.languages := by
    simp [raiseStep_eq, raiseLanes]
  rw [lastPlaces, lastLanguages]
  exact ⟨raisePlaces_unmarked (by simpa using fun c hc => by rw [places c hc]; simp),
    raiseLanguages_unmarked (by simpa using fun c hc => by rw [languages c hc]; simp)⟩

/-! ### Languages in demand -/

/-- A language with a lane holding, or short of a lane. -/
def Met (s : State) (l : Nat) : Prop := (∃ h ∈ s.lanes.holdings, h.language = l) ∨ l ∈ s.lanes.shortage

theorem raiseLane_met (s : State) (k : Nat) : Met (raiseLane s k) k ∧ ∀ l, Met s l → Met (raiseLane s k) l := by
  cases free : lowestFreeLane s with
  | some n =>
    rw [raiseLane_of_free k free]
    have holdings : ∀ h, h ∈ (laneRaised n k { s with claims := { s.claims with
        lanes := s.claims.lanes ++ [⟨.intent false, n, k⟩] } }).lanes.holdings ↔
        h = ⟨n, k, false, 0, false⟩ ∨ h ∈ s.lanes.holdings := fun h => (insertBy_perm _ _ _).mem_iff.trans List.mem_cons
    have raised : Met (laneRaised n k { s with claims := { s.claims with
        lanes := s.claims.lanes ++ [⟨.intent false, n, k⟩] } }) k := .inl ⟨_, (holdings _).mpr (.inl rfl), rfl⟩
    refine ⟨raised, fun l met => ?_⟩
    by_cases here : l = k
    · exact here ▸ raised
    · rcases met with ⟨h, hh, lang⟩ | short
      · exact .inl ⟨h, (holdings h).mpr (.inr hh), lang⟩
      · exact .inr (List.mem_filter.mpr ⟨short, by simpa using here⟩)
  | none =>
    rw [raiseLane_of_full k free]
    have shortage : ∀ l, l ∈ (laneShort k s).lanes.shortage ↔ l = k ∨ l ∈ s.lanes.shortage := fun l => mem_insertNat k l _
    exact ⟨.inr ((shortage k).mpr (.inl rfl)), fun l => Or.imp id fun short => (shortage l).mpr (.inr short)⟩

/-- After a raise step every language in demand has a holding or is short. -/
theorem raiseStep_met (s : State) {l : Nat} (low : 1 ≤ l) (high : l ≤ 31) (demand : hasDemand (raiseStep s) l = true) :
    Met (raiseStep s) l := by
  obtain ⟨r, hr⟩ : ∃ r, raiseLanguages (raisePlaces (deriveAutoAdvance s)) = r := ⟨_, rfl⟩
  have work : raiseStep s = (unmetLanguages r).foldl raiseLane r := by rw [raiseStep_eq, hr]; rfl
  have fold : ∀ (ks : List Nat) (u : State), l ∈ ks ∨ Met u l → Met (ks.foldl raiseLane u) l := by
    intro ks
    induction ks with
    | nil => exact fun u h => h.resolve_left (by simp)
    | cons k ks ih =>
      intro u h
      obtain ⟨now, later⟩ := raiseLane_met u k
      refine ih _ ?_
      rcases h with h | h
      · rcases List.mem_cons.mp h with rfl | h
        · exact .inr now
        · exact .inl h
      · exact .inr (later l h)
  have before : hasDemand r l = true := by
    rw [← demand, work]
    exact (hasDemand_congr (by simp) (by simp) (by simp) l).symm
  rw [work]
  refine fold _ r ?_
  by_cases held : ∃ h ∈ r.lanes.holdings, h.language = l
  · exact .inr (.inl held)
  · obtain ⟨state, members, air⟩ := (hasDemand_iff r l).mp before
    exact .inl ((mem_unmetLanguages_iff r l).mpr ⟨low, high, state, members, air, fun h hh lang => held ⟨h, hh, lang⟩⟩)

/-- The source step moves no desk on or off the air. -/
theorem sourceStep_air (s : State) : (sourceStep s).booth.desks.map (fun d => (decide (d.state = .onAir), d.output)) =
    s.booth.desks.map (fun d => (decide (d.state = .onAir), d.output)) := by
  have checked : (loopCheck s).booth.desks.map (fun d => (decide (d.state = .onAir), d.output)) =
      s.booth.desks.map (fun d => (decide (d.state = .onAir), d.output)) :=
    foldl_keeps (fun u : State => u.booth.desks.map (fun d => (decide (d.state = .onAir), d.output))) (fun u x => by
      split
      · exact map_modifyDesk (fun d => (decide (d.state = .onAir), d.output)) (fun _ => by rfl) x u
      · rfl) _ _
  rw [sourceStep_eq, List.map_map]
  exact checked

theorem slotEnd_demand (w : State) (l : Nat) : hasDemand (slotEnd w) l = hasDemand w l := by
  obtain ⟨station, -, -, -, -, -, booth, -⟩ := slotEnd_keeps (s := w)
  refine hasDemand_congr (by rw [station]) ?_ (by rw [booth]; exact sourceStep_air w) l
  rw [slotEnd_room]
  unfold retired
  repeat' split
  all_goals rfl

theorem slotEnd_met {w : State} {l : Nat} (met : Met w l) (demand : hasDemand (slotEnd w) l = true) : Met (slotEnd w) l := by
  have lanes : (retireCommand (compose (sourceStep w))).lanes = w.lanes := by
    rw [retireCommand_eq, compose_eq]
    simp
  have before : hasDemand (retireCommand (compose (sourceStep w))) l = true := demand
  rcases met with ⟨h, hh, lang⟩ | short
  · refine .inl ⟨_, List.mem_map.mpr ⟨h, lanes ▸ hh, rfl⟩, ?_⟩
    split <;> exact lang
  · exact .inr (List.mem_filter.mpr ⟨lanes ▸ short, before⟩)

/-! ### An own slot with one want alone -/

/-- Without an own request no auto-advance want is filed. -/
theorem deriveAutoAdvance_of_no_requests {s : State} (h : s.floor.requests = []) : deriveAutoAdvance s = s := by
  by_cases on : (context s).mode = .queue ∧ (context s).autoAdvance = true
  · have others : ∀ r ∈ (roomRanking s).take (freePlaces s), r.station ≠ s.station.number := fun r hr => by
      have listed := (roomRanking_perm s).mem_iff.mp (List.mem_of_mem_take hr)
      rw [h] at listed
      simp only [List.filter_nil, List.map_nil, List.nil_append, List.mem_flatMap, List.mem_map] at listed
      obtain ⟨p, hp, x, -, rfl⟩ := listed
      exact ((mem_memberPeers_iff s p.1 p.2).mp hp).2.1
    rw [deriveAutoAdvance_of_on on.1 on.2, List.filter_eq_nil_iff.mpr fun r hr => by simpa using others r hr]
    rfl
  · exact deriveAutoAdvance_of_off (by simpa [Classical.or_iff_not_imp_left] using on)

end Sys2Proof.Machine
end

section

/-! SUPPORT for O23 (OwnSlotDoesTheClaimWork): release marks and shortage follow the demand, over every command. -/

namespace Sys2Proof.Machine

/-- Every Held lane has its release mark exactly while its language has no demand, and only demanded languages are short. -/
def MarksFollow (s : State) : Prop := (∀ h ∈ s.lanes.holdings, h.held = true →
    (h.release = true ↔ hasDemand s h.language = false)) ∧ ∀ l ∈ s.lanes.shortage, hasDemand s l = true

/-- The demand is evaluated anew: the marks follow it, whatever they were. -/
theorem marksFollow_evalDemand (s : State) : MarksFollow (evalDemand s) := by
  have same : ∀ l, hasDemand (evalDemand s) l = hasDemand s l := fun _ => rfl
  refine ⟨fun h hh held => ?_, fun l hl => (List.mem_filter.mp hl).2⟩
  obtain ⟨k, -, rfl⟩ := List.mem_map.mp hh
  rw [same]
  split at held
  · next standing =>
    rw [if_pos standing]
    simp
  · next standing => exact absurd held standing

/-- A change that moves no demand, marks no Held lane or unmarks it, and brings no new Held lane and no new shortage. -/
structure DemandStays (s t : State) : Prop where
  demand : ∀ l, hasDemand t l = hasDemand s l
  held : ∀ h ∈ t.lanes.holdings, h.held = true →
    ∃ k ∈ s.lanes.holdings, k.held = true ∧ k.release = h.release ∧ k.language = h.language
  shortage : ∀ l ∈ t.lanes.shortage, l ∈ s.lanes.shortage

theorem DemandStays.marks {s t : State} (h : DemandStays s t) (marks : MarksFollow s) : MarksFollow t := by
  obtain ⟨release, short⟩ := marks
  refine ⟨fun x hx held => ?_, fun l hl => by rw [h.demand]; exact short l (h.shortage l hl)⟩
  obtain ⟨k, hk, kheld, krelease, klanguage⟩ := h.held x hx held
  rw [h.demand, ← krelease, ← klanguage]
  exact release k hk kheld

theorem DemandStays.refl (s : State) : DemandStays s s := ⟨fun _ => rfl, fun h hh held => ⟨h, hh, held, rfl, rfl⟩, fun _ h => h⟩

theorem DemandStays.trans {s t u : State} (h : DemandStays s t) (k : DemandStays t u) : DemandStays s u where
  demand l := (k.demand l).trans (h.demand l)
  held x hx held := by
    obtain ⟨y, hy, yheld, yrelease, ylanguage⟩ := k.held x hx held
    obtain ⟨z, hz, zheld, zrelease, zlanguage⟩ := h.held y hy yheld
    exact ⟨z, hz, zheld, zrelease.trans yrelease, zlanguage.trans ylanguage⟩
  shortage l hl := h.shortage l (k.shortage l hl)

/-- State, members and desks decide the demand; with the lanes as they were all stays. -/
theorem DemandStays.of_same {s t : State} (state : t.station.state = s.station.state)
    (members : t.room.members = s.room.members) (lanes : t.lanes = s.lanes)
    (desks : t.booth.desks.map (fun d => (decide (d.state = .onAir), d.output)) =
      s.booth.desks.map (fun d => (decide (d.state = .onAir), d.output))) : DemandStays s t :=
  ⟨hasDemand_congr state members desks, by rw [lanes]; exact (DemandStays.refl s).held, by rw [lanes]; exact fun _ h => h⟩

theorem DemandStays.of_blocks {s t : State} (station : t.station = s.station) (room : t.room = s.room)
    (booth : t.booth = s.booth) (lanes : t.lanes = s.lanes) : DemandStays s t :=
  .of_same (by rw [station]) (by rw [room]) lanes (by rw [booth])

/-- One desk is changed and stays on the air, or off it, with its output. -/
theorem demandStays_modifyDesk {f : Desk → Desk} (h : ∀ d, (f d).state = d.state ∧ (f d).output = d.output) (e : Nat)
    (s : State) : DemandStays s (modifyDesk e f s) :=
  .of_same rfl rfl rfl (map_modifyDesk (fun d => (decide (d.state = .onAir), d.output))
    (fun d => by rw [(h d).1, (h d).2]) e s)

theorem marksFollow_changeState (st : StationState) (timer : Option Nat) (s : State) :
    MarksFollow (changeState st timer s) := marksFollow_evalDemand _

theorem marksFollow_enterJoining (s : State) : MarksFollow (enterJoining s) := marksFollow_changeState _ _ _

section
variable {s : State}

/-- Lane Intents that go take no Held lane with them, nor a mark. -/
theorem demandStays_dropLaneIntent (s : State) (c : LaneClaim) : DemandStays s (dropLaneIntent c s) :=
  ⟨fun _ => rfl, fun h hh held => ⟨h, (List.mem_filter.mp hh).1, held, rfl, rfl⟩, fun _ h => h⟩

theorem demandStays_loseLane (s : State) (n : Nat) : DemandStays s (endLaneHold n (dropHolding n s)) :=
  ⟨fun _ => rfl, fun h hh held => ⟨h, (List.mem_filter.mp hh).1, held, rfl, rfl⟩, fun _ h => h⟩

theorem demandStays_withdrawLanguage (s : State) (c : LanguageClaim) : DemandStays s (withdrawLanguage c s) :=
  .of_same rfl rfl rfl (withdrawLanguages_air [c] s)

theorem demandStays_foldl {β : Type} {g : State → β → State} (h : ∀ s x, DemandStays s (g s x)) (l : List β) (s : State) :
    DemandStays s (l.foldl g s) := foldl_rel .refl (fun _ _ _ => .trans) h l s

/-- A soft change that leaves station state, members and lanes. -/
theorem DemandStays.of_soft {t : State} (soft : Soft s t) (state : t.station.state = s.station.state)
    (members : t.room.members = s.room.members) (lanes : t.lanes = s.lanes) : DemandStays s t := by
  refine .of_same state members lanes (forall₂_map_eq (r := SoftDesk) (fun a b h => ?_) soft.desks)
  obtain ⟨air, output, -⟩ := h
  rw [air, output]

/-! ### The events of the link -/

theorem marksFollow_takeExpiry (h : MarksFollow s) : MarksFollow (takeExpiry s) := by
  unfold takeExpiry
  split
  · exact marksFollow_changeState _ _ _
  · exact h

theorem demandStays_frame (f : FrameIn) (s : State) : DemandStays s (beginFrame f (endFrame f s)) :=
  have timer : ∀ u : State, (advanceTimer u).station.state = u.station.state := fun _ => rfl
  .of_soft ((soft_endFrame f s).trans (soft_beginFrame f _)) (by simp [beginFrame, timer]) (by simp) (by simp)

theorem demandStays_advanceLanes (s : State) : DemandStays s (advanceLanes s) :=
  ⟨fun _ => rfl, fun h hh held => by
    obtain ⟨k, hk, rfl⟩ := List.mem_map.mp hh
    split at held
    · next standing => exact ⟨k, hk, standing, by rw [if_pos standing], by rw [if_pos standing]⟩
    · next standing => exact absurd held standing, fun _ h => h⟩

theorem demandStays_switchPointWork (s : State) : DemandStays s (switchPointWork s) := by
  have floor : DemandStays s (floorSwitchPoint (advanceFull (advancePeers { s with lif := evaluateLink s.lif }))) :=
    .of_blocks (by simp) (by simp) (by simp) (by simp)
  have desks : ∀ u : State, DemandStays u (advanceDesks u) := fun u => .of_soft (soft_advanceDesks u) (by simp) (by simp) (by simp)
  have sources : ∀ u : State, DemandStays u (applySources u) := fun u => .of_soft (soft_applySources u) (by simp) (by simp) (by simp)
  have writeSet : ∀ u : State, DemandStays u (latchWriteSet u) := fun _ => .of_same rfl rfl rfl rfl
  have plan : ∀ u : State, DemandStays u (latchPlan u) := fun _ => .of_same rfl rfl rfl rfl
  have left : ∀ u : State, DemandStays u (forgetLeft u) := fun _ => .of_same rfl rfl rfl rfl
  exact ((((floor.trans (desks _)).trans (demandStays_advanceLanes _)).trans (writeSet _)).trans (sources _)).trans
    ((plan _).trans (left _))

theorem marksFollow_enterIsolated (s : State) : MarksFollow (enterIsolated s) := by
  have claims : ∀ u : State, DemandStays u (isolateClaims u) := fun u =>
    (demandStays_foldl demandStays_dropLaneIntent _ u).trans (demandStays_foldl demandStays_withdrawLanguage _ _)
  have lanes : ∀ u : State, DemandStays u (releaseAllLanes u) := fun u =>
    (demandStays_foldl demandStays_loseLane _ u).trans ⟨fun _ => rfl, (DemandStays.refl _).held, fun l hl => by cases hl⟩
  have forgotten : ∀ u : State, DemandStays u (forgetPeers u) := fun _ => .of_same rfl rfl rfl rfl
  have planned : ∀ u : State, DemandStays u (isolatePlan u) := fun _ => .of_same rfl rfl rfl rfl
  have after : DemandStays (changeState .isolated none (isolateLink s)) (enterIsolated s) :=
    ((forgotten _).trans (claims _)).trans ((lanes _).trans (planned _))
  exact after.marks (marksFollow_changeState _ _ _)

theorem marksFollow_takeLinkFailure (h : MarksFollow s) : MarksFollow (takeLinkFailure s) := by
  unfold takeLinkFailure
  split
  · exact marksFollow_enterIsolated _
  · exact h

theorem marksFollow_takeLinkRecovery (h : MarksFollow s) : MarksFollow (takeLinkRecovery s) := by
  unfold takeLinkRecovery
  split
  · exact marksFollow_enterJoining _
  · exact h

theorem marksFollow_switchPointOp (h : MarksFollow s) : MarksFollow (switchPointOp s) :=
  marksFollow_takeLinkRecovery (marksFollow_takeLinkFailure ((demandStays_switchPointWork s).marks h))

theorem marksFollow_memoryReadOp (record : List Byte) (h : MarksFollow s) : MarksFollow (memoryReadOp record s) := by
  unfold memoryReadOp
  split
  · dsimp only
    split
    · exact (DemandStays.of_same rfl rfl rfl rfl : DemandStays s _).marks h
    · exact marksFollow_enterJoining _
  · exact h

theorem marksFollow_ownSlotOp (h : MarksFollow s) : MarksFollow (ownSlotOp s) := by
  unfold ownSlotOp
  split
  · exact h
  · exact marksFollow_evalDemand _

theorem marksFollow_peerMissing (t : Nat) (h : MarksFollow s) : MarksFollow (peerMissing t s) := by
  have marked : ∀ u, MarksFollow u → MarksFollow (setMark t false u) := fun u hu =>
    (DemandStays.of_same rfl rfl rfl rfl : DemandStays u (setMark t false u)).marks hu
  refine marked _ ?_
  split
  · exact h
  · split
    · exact marksFollow_evalDemand _
    · exact (DemandStays.of_same rfl rfl rfl rfl : DemandStays s (setPeer t _ s)).marks h

theorem marksFollow_takeSlot (h : MarksFollow s) : MarksFollow (takeSlot s) :=
  (DemandStays.of_same rfl rfl rfl rfl : DemandStays s (takeSlot s)).marks h

theorem marksFollow_slotCloseOp (t : Nat) (h : MarksFollow s) : MarksFollow (slotCloseOp t s) := by
  unfold slotCloseOp
  split
  · split
    · dsimp only
      split
      · split
        · exact marksFollow_evalDemand _
        · exact marksFollow_peerMissing t (marksFollow_takeSlot h)
      · exact (DemandStays.of_same rfl rfl rfl rfl : DemandStays s (setMark t false (takeSlot s))).marks h
    · split
      · exact marksFollow_takeSlot h
      · exact h
  · exact h

theorem marksFollow_peerLossOp (t : Nat) (h : MarksFollow s) : MarksFollow (peerLossOp t s) := by
  unfold peerLossOp
  split
  · refine marksFollow_peerMissing t ?_
    split
    · exact marksFollow_takeSlot h
    · exact h
  · exact h

/-! ### The wall inputs -/

theorem marksFollow_handWallOn (before after : Wall) (h : MarksFollow s) : MarksFollow (handWallOn before after s) := by
  unfold handWallOn
  split
  · exact h
  · exact marksFollow_evalDemand _

theorem marksFollow_setWall (x : Nat) (w : Wall) (h : MarksFollow s) : MarksFollow (setWall x w s) :=
  (DemandStays.of_same rfl rfl rfl rfl : DemandStays s (setWall x w s)).marks h

theorem marksFollow_raiseIf (b : Bool) (f : EventFlag) (h : MarksFollow s) : MarksFollow (raiseIf b f s) :=
  (DemandStays.of_blocks (by simp) (by simp) (by simp) (by simp) : DemandStays s (raiseIf b f s)).marks h

theorem marksFollow_adoptWall (x : Nat) (c : WallState) (h : MarksFollow s) : MarksFollow (adoptWall x c s) :=
  marksFollow_handWallOn _ _ (marksFollow_raiseIf _ _ (marksFollow_raiseIf _ _ (marksFollow_setWall _ _ h)))

theorem marksFollow_sampleWall (sample : Bool × Bool) (x : Nat) (h : MarksFollow s) : MarksFollow (sampleWall sample x s) := by
  unfold sampleWall
  dsimp only
  split
  · exact marksFollow_setWall _ _ h
  · split
    · exact marksFollow_setWall _ _ h
    · split
      · split
        · unfold evaluateWall
          dsimp only
          split
          · exact marksFollow_adoptWall _ _ (marksFollow_setWall _ _ (marksFollow_setWall _ _ h))
          · exact marksFollow_setWall _ _ (marksFollow_setWall _ _ h)
        · exact h
      · exact h

theorem marksFollow_wallSampleOp (closed opened : BitVec 4) (h : MarksFollow s) :
    MarksFollow (wallSampleOp closed opened s) :=
  foldl_rel (r := fun u v => MarksFollow u → MarksFollow v) (fun _ h => h) (fun _ _ _ h k hu => k (h hu))
    (fun _ x hu => marksFollow_sampleWall _ x hu) _ s h

theorem marksFollow_wallAdoptionOp (x : Nat) (h : MarksFollow s) : MarksFollow (wallAdoptionOp x s) := by
  unfold wallAdoptionOp
  split
  · split
    · exact marksFollow_adoptWall _ _ h
    · exact h
  · exact h

/-! ### Units, desks and the house sync mark -/

theorem demandStays_closeWindow (a : Nat) (reply : Option UnitReply) (s : State) : DemandStays s (closeWindow a reply s) :=
  .of_soft (soft_closeWindow a reply s) (by simp) (by simp) (by simp)

theorem demandStays_resetPolling (reply : Option UnitReply) (s : State) : DemandStays s (resetPolling reply s) :=
  .of_soft (soft_resetPolling reply s) (by simp) (by simp) (by simp)

theorem marksFollow_closeBoothWindow (e : Nat) (reply : Option DeskReply) (h : MarksFollow s) :
    MarksFollow (closeBoothWindow e reply s) := by
  unfold closeBoothWindow
  split
  · exact marksFollow_evalDemand _
  · exact marksFollow_evalDemand _
  · unfold badDeskReply
    split
    · exact h
    · split
      · exact marksFollow_evalDemand _
      · exact (demandStays_modifyDesk (f := fun d => { d with miss := d.miss + 1 }) (fun _ => ⟨rfl, rfl⟩) e s).marks h

theorem demandStays_takeBoothWindow (s : State) : DemandStays s (takeBoothWindow s) := by
  unfold takeBoothWindow
  split
  all_goals exact .of_same rfl rfl rfl rfl

theorem demandStays_withdrawBoothPoll (s : State) : DemandStays s (withdrawBoothPoll s) := by
  unfold withdrawBoothPoll
  split
  · next b _ =>
    exact (demandStays_modifyDesk (f := fun d => { d with lamp := b.lamp }) (fun _ => ⟨rfl, rfl⟩) b.desk s).trans
      (.of_same rfl rfl rfl rfl)
  · exact .of_same rfl rfl rfl rfl

theorem marksFollow_resetBooth (reply : Option DeskReply) (h : MarksFollow s) : MarksFollow (resetBooth reply s) := by
  have closed : ∀ (e : Nat) (u : State) (b : Booth), b.desks = u.booth.desks → MarksFollow u →
      MarksFollow (closeBoothWindow e reply { u with booth := b }) := fun e u b hb hu =>
    marksFollow_closeBoothWindow e reply
      ((DemandStays.of_same rfl rfl rfl (by rw [hb]) : DemandStays u { u with booth := b }).marks hu)
  unfold resetBooth
  split
  · dsimp only
    split
    · exact closed _ _ _ rfl ((demandStays_withdrawBoothPoll s).marks h)
    · exact (demandStays_withdrawBoothPoll s).marks h
  · split
    · exact closed _ _ _ rfl h
    · exact h

theorem marksFollow_hsyncOp (u : Option UnitReply) (d : Option DeskReply) (h : MarksFollow s) :
    MarksFollow (hsyncOp u d s) := by
  have acquired : ∀ v, MarksFollow v → MarksFollow (acquire v) := fun v hv =>
    (DemandStays.of_same rfl rfl rfl rfl : DemandStays v (acquire v)).marks hv
  have cut : ∀ v, MarksFollow v → MarksFollow (cutShort v) := fun v hv =>
    (DemandStays.of_same rfl rfl rfl rfl : DemandStays v (cutShort v)).marks hv
  unfold hsyncOp
  split
  · split
    · exact acquired s h
    · exact acquired _ (cut _ (marksFollow_resetBooth d ((demandStays_resetPolling u s).marks h)))
  · split
    · exact (DemandStays.of_same rfl rfl rfl rfl : DemandStays s _).marks h
    · exact h

theorem marksFollow_deskAbsentOp (e : Nat) (h : MarksFollow s) : MarksFollow (deskAbsentOp e s) := by
  unfold deskAbsentOp
  split
  · exact marksFollow_evalDemand _
  · exact h

/-! ### Commands of the port -/

theorem marksFollow_answer (command : Byte) (code : ResponseCode) (h : MarksFollow s) : MarksFollow (answer command code s) :=
  (DemandStays.of_same rfl rfl rfl rfl : DemandStays s (answer command code s)).marks h

theorem marksFollow_loadConfigOp (record : List Byte) (h : MarksFollow s) : MarksFollow (loadConfigOp record s) := by
  unfold loadConfigOp
  split
  · exact marksFollow_answer _ _ h
  · split
    · exact marksFollow_answer _ _ h
    · split
      · exact marksFollow_answer _ _ h
      · split
        · exact marksFollow_answer _ _ ((DemandStays.of_same rfl rfl rfl rfl : DemandStays s (rejectConfig _ s)).marks h)
        · exact marksFollow_answer _ _ (marksFollow_enterJoining _)

theorem marksFollow_restartOp (h : MarksFollow s) : MarksFollow (restartOp s) := by
  unfold restartOp
  split
  · exact marksFollow_answer _ _ h
  · exact (DemandStays.of_same rfl rfl rfl rfl : DemandStays (enterJoining (restartTables s)) _).marks
      (marksFollow_enterJoining _)

theorem marksFollow_setWallOverrideOp (input setting : Byte) (h : MarksFollow s) :
    MarksFollow (setWallOverrideOp input setting s) := by
  unfold setWallOverrideOp
  split
  · split
    · exact marksFollow_answer _ _ (marksFollow_handWallOn _ _ (marksFollow_raiseIf _ _ (marksFollow_setWall _ _ h)))
    · exact marksFollow_answer _ _ h
  · exact marksFollow_answer _ _ h

end

/-! ### Every command -/

theorem marksFollow_empty {s : State} (h : s.lanes = ⟨[], []⟩) : MarksFollow s := by simp [MarksFollow, h]

theorem marksFollow_liveEffect (i : Instr) {s : State} (h : MarksFollow s) : MarksFollow (liveEffect i s) := by
  cases i with
  | pinReset => exact marksFollow_empty rfl
  | resetRelease n c => exact h
  | configMemoryRead record => exact marksFollow_memoryReadOp record h
  | frameBoundary f => exact (demandStays_frame f _).marks (marksFollow_takeExpiry h)
  | hlckTimeout => exact (DemandStays.of_same rfl rfl rfl rfl : DemandStays s _).marks h
  | hsyncMark u d => exact marksFollow_hsyncOp u d h
  | switchPoint => exact marksFollow_switchPointOp h
  | linkFailure => exact marksFollow_takeLinkFailure h
  | linkRecovery => exact marksFollow_takeLinkRecovery h
  | ownSlot => exact marksFollow_ownSlotOp h
  | slotClose t => exact marksFollow_slotCloseOp t h
  | peerLoss t => exact marksFollow_peerLossOp t h
  | wallSample closed opened => exact marksFollow_wallSampleOp closed opened h
  | wallAdoption x => exact marksFollow_wallAdoptionOp x h
  | boothWindowClose reply =>
    simp only [liveEffect, boothWindowCloseOp]
    split
    · exact marksFollow_closeBoothWindow _ _ ((demandStays_takeBoothWindow s).marks h)
    · exact h
  | deskAbsent e => exact marksFollow_deskAbsentOp e h
  | joiningTimerExpiry => exact marksFollow_takeExpiry h
  | loadConfig record => exact marksFollow_loadConfigOp record h
  | restart => exact marksFollow_restartOp h
  | setWallOverride input setting => exact marksFollow_setWallOverrideOp input setting h
  | fadeInComplete seat => exact (DemandStays.of_blocks (by simp [liveEffect]) (by simp [liveEffect]) (by simp [liveEffect]) (by simp [liveEffect])).marks h
  | fadeOutEnd seat => exact (DemandStays.of_blocks (by simp [liveEffect]) (by simp [liveEffect]) (by simp [liveEffect]) (by simp [liveEffect])).marks h
  | speakingTimeExpiry seat => exact (DemandStays.of_blocks (by simp [liveEffect]) (by simp [liveEffect]) (by simp [liveEffect]) (by simp [liveEffect])).marks h
  | pollWindowClose reply => exact (DemandStays.of_soft (soft_pollWindowCloseOp reply s) (by simp) (by simp) (by simp)).marks h
  | unitAbsent a => exact (DemandStays.of_blocks (by simp [liveEffect]) (by simp [liveEffect]) (by simp [liveEffect]) (by simp [liveEffect])).marks h
  | readRecord kind index => exact (DemandStays.of_blocks (by simp [liveEffect]) (by simp [liveEffect]) (by simp [liveEffect]) (by simp [liveEffect])).marks h
  | readEvents => exact (DemandStays.of_same rfl rfl rfl rfl : DemandStays s _).marks h
  | clearEvents mask => exact (DemandStays.of_same rfl rfl rfl rfl : DemandStays s _).marks h
  | setEventMask mask => exact (DemandStays.of_same rfl rfl rfl rfl : DemandStays s _).marks h
  | issueRoomCommand kind argument =>
    exact (DemandStays.of_soft (soft_issueRoomCommandOp kind argument s) (by simp) (by simp) (by simp)).marks h
  | closeSeat seat => exact (DemandStays.of_blocks (by simp [liveEffect]) (by simp [liveEffect]) (by simp [liveEffect]) (by simp [liveEffect])).marks h
  | cancelRequest seat => exact (DemandStays.of_blocks (by simp [liveEffect]) (by simp [liveEffect]) (by simp [liveEffect]) (by simp [liveEffect])).marks h
  | emptyTransaction => exact (DemandStays.of_same rfl rfl rfl rfl : DemandStays s _).marks h
  | badCommandFrame frame => exact (DemandStays.of_blocks (by simp [liveEffect]) (by simp [liveEffect]) (by simp [liveEffect]) (by simp [liveEffect])).marks h

theorem marksFollow_exec {i : Instr} {s t : State} (law : StationLaw s) (h : MarksFollow s) (heq : exec i s = .next t) :
    MarksFollow t := by
  cases reset : s.station.inReset with
  | false =>
    rw [exec_of_live i s reset] at heq
    cases heq
    exact marksFollow_liveEffect i h
  | true =>
    obtain ⟨-, held, -⟩ := law
    have off : ∀ l, hasDemand s l = false := fun l => by
      rw [← Bool.not_eq_true, hasDemand_iff, (held reset).1]
      simp
    rw [exec_of_inReset i s reset] at heq
    cases heq
    split
    · exact marksFollow_empty rfl
    · next n c =>
      have released : (releaseReset n c s).station.state = .unconfigured := by
        rw [releaseReset, if_pos reset]
        exact (held reset).1
      have stays : DemandStays s (releaseReset n c s) := by
        have lanes : (releaseReset n c s).lanes = s.lanes := by simp
        refine ⟨fun l => ?_, by rw [lanes]; exact (DemandStays.refl s).held, by rw [lanes]; exact fun _ h => h⟩
        rw [off, ← Bool.not_eq_true, hasDemand_iff, released]
        simp
      exact stays.marks h
    · exact (DemandStays.of_same rfl rfl rfl rfl : DemandStays s _).marks h
    · exact h

end Sys2Proof.Machine
end

section

/-! PROOF for O23 (OwnSlotDoesTheClaimWork): withdraw, settle, conflict and raise in order, and the marks that follow. -/

namespace Sys2Proof.Machine

/-- The own slot of a station with claim work to do: what it leaves is what the four steps leave. -/
theorem slotWorked_of_claimWork {s : State} (on : s.station.state = .running ∨ s.station.state = .isolated) :
    slotWorked s = raiseStep (laneConflictStep (settleStep (withdrawStep (markedLanes s)
      (deskConflictStep (roomCommandWork s))))) := by
  have station : (deskConflictStep (roomCommandWork s)).station = s.station := by simp
  rw [slotWorked]
  rcases on with on | on <;> simp only [claimWork, station, on]

/-- Before the claim work the laws of the tables still hold. -/
theorem keeps_conflictsOfSlot (s : State) : Keeps s (deskConflictStep (roomCommandWork s)) :=
  (soft_roomCommandWork s).keeps.trans (keeps_deskConflictStep _)

/-- Settles O23. -/
theorem ownSlotDoesTheClaimWork : Obligations.OwnSlotDoesTheClaimWork := by
  unfold Obligations.OwnSlotDoesTheClaimWork
  refine ⟨⟨fun s live on size uplink lane desk => ?_, fun s w live on law hc hq requests wants holds => ?_⟩, hasDemand_iff,
    fun i s t heq law marks => marksFollow_exec law marks heq⟩
  · have conf : s.station.state ≠ .unconfigured := by rcases on with h | h <;> simp [h]
    have keeps := keeps_conflictsOfSlot s
    have work := slotWorked_of_claimWork on
    dsimp only
    generalize deskConflictStep (roomCommandWork s) = w at keeps work ⊢
    have wuplink : UplinkLaw w := keeps.uplink uplink
    have wlane : LaneLaw w := keeps.lane lane
    have wplaces := withdrawStep_places (markedLanes s) wuplink
    have wlanguages := withdrawStep_languages (markedLanes s) (keeps.desk size desk)
    have freed := fun c => withdrawStep_uplink (c := c) (markedLanes s) wuplink
    have wlanes := fun c => withdrawStep_lanes (c := c) s wlane
    have wholdings := fun h => withdrawStep_holdings (h := h) (markedLanes s) wlane
    have wheld := fun h => withdrawStep_held (h := h) s wlane
    obtain ⟨-, -, lanes, holdings⟩ := withdrawStep_filters (markedLanes s) w
    generalize withdrawStep (markedLanes s) w = u at *
    obtain ⟨places, languages, settledLanes, stay⟩ := settleStep_holds u
    generalize settleStep u = v at *
    have conflicts : (laneConflictStep v).claims.places = v.claims.places ∧
        (laneConflictStep v).claims.languages = v.claims.languages := by simp
    have unmarked := raiseStep_unmarked (s := laneConflictStep v) (by rw [conflicts.1]; exact places)
      (by rw [conflicts.2]; exact languages)
    have met := fun l => raiseStep_met (l := l) (laneConflictStep v)
    generalize raiseStep (laneConflictStep v) = r at *
    obtain ⟨-, -, -, claims, dlc, floor, -, -⟩ := slotEnd_keeps (s := r)
    refine ⟨wplaces, wlanguages, freed, ⟨lanes.eq_filter fun c _ => by simp, wlanes,
      holdings.eq_filter fun h _ => by simp, wholdings, wheld⟩, places, languages, settledLanes, stay, slotEnd r, ?_,
      claims, dlc, floor, ?_, ?_, fun l high low demand => ?_⟩
    · rw [← work]
      exact exec_ownSlot_eq live conf
    · rw [claims]
      exact unmarked.1
    · rw [claims]
      exact unmarked.2
    · exact slotEnd_met (met l low high ((slotEnd_demand r l).symm.trans demand)) demand
  · have conf : s.station.state ≠ .unconfigured := by rcases on with h | h <;> simp [h]
    intro noPlace
    obtain ⟨t, work, tplaces, twants, tdlc, tfloor, tstation, tpeers, troom⟩ :=
      quiet_slot on hc hq (fun c hcm => (holds c hcm).1)
    have places := freePlaces_congr tstation tpeers troom tfloor tplaces
    have lone := lone_want (t := t) (w := w)
      (by rw [deriveAutoAdvance_of_no_requests (by rw [tfloor, requests]), twants, wants])
      (by rw [tstation]; exact conf) (by rw [tdlc]; exact law.1) (by
        rw [tplaces, tfloor]
        exact law.idle_seat fun c hcm => (holds c hcm).2)
    rw [places, tplaces, tdlc] at lone
    refine ⟨_, exec_ownSlot_eq live conf, ?_⟩
    rw [work]
    exact lone

end Sys2Proof.Machine
end
